-- ==== Sys2Proof/Word.lean ====
section
/-! DEFINITION. The plain types every other file uses: bytes, tokens, and the numbers of pedestals, modules and tariff slots. -/

namespace Sys2Proof

/-- One byte on either link (12_frame_and_record_formats.md, "Sizes are in bytes"). -/
abbrev Byte := BitVec 8

/-- A pedestal's identification token, 8 bytes carried unchanged (R1, R5); the first byte on the wire is the lowest (log 25). -/
abbrev Token := BitVec 64

/-- A pedestal and its slot: pedestal n is the value n - 1 (00_scope.md section 6.2). -/
abbrev Pedestal := Fin 16

/-- A power module: module n is the value n - 1 (00_scope.md section 6.2). -/
abbrev ModuleNo := Fin 32

/-- A tariff slot: slot n is the value n - 1 (00_scope.md section 6.2). -/
abbrev TariffNo := Fin 8

end Sys2Proof
end

