-- ==== Sys2Proof/Syntax.lean ====
section
/-! DEFINITION. The commands of the block: one constructor of `Instr` per row of spec/opcode_table.json, and the data they carry.
The table gives its rows no fields, so the operands are those the rows' rules name (log 1, 3, 9, 10, 11, 20). `time` is the arrival
of the event in ms of the part's running time. Pedestal and module numbers are the manual's own, 1 to 16 and 1 to 32. -/

namespace Sys2Proof

/-- The two active-low safety lines ESTOP_N and TRIP_N (R131). -/
inductive SafetyLine where
  | estop
  | trip
  deriving DecidableEq, Repr

/-- The three values of an MD-STATE report (chapter 7, section 7.1; codes in R190). -/
inductive Contact where
  | opened
  | closed
  | zero
  deriving DecidableEq, Repr

/-- A byte received on the UART: its value, whether its stop bit was missing, and its arrival in ms (R164). -/
structure RxByte where
  value        : Byte
  framingError : Bool
  time         : Nat
  deriving DecidableEq, Repr

/-- A frame the CAN controller delivers or sends (R146): 29-bit or 11-bit identifier, remote or data frame, 0 to 8 data bytes. -/
structure FieldFrame where
  extended : Bool
  remote   : Bool
  ident    : BitVec 29
  data     : List Byte
  deriving DecidableEq, Repr

/-- A loss of the main supply: its moment in ms, and whether the backup supply is present then (R182, log 10). -/
structure SupplyLoss where
  time   : Nat
  backup : Bool
  deriving DecidableEq, Repr

/-- One command: a row of spec/opcode_table.json. -/
inductive Instr where
  /-- R174 -/
  | identify
  /-- R175 -/
  | parkStatus
  /-- R173 -/
  | noticeStatus
  /-- R171 -/
  | noticeMask
  /-- R172 -/
  | statusClear
  /-- R178 -/
  | commission
  /-- R179 -/
  | configure
  /-- R181 -/
  | timeSet
  /-- R46 -/
  | tariffLoad
  /-- R47 -/
  | tariffRetire
  /-- R48 -/
  | tariffRead
  /-- R8 -/
  | authorise
  /-- R10 -/
  | deny
  /-- R34 -/
  | extendHold
  /-- R14 -/
  | stop
  /-- R106 -/
  | sessionCap
  /-- R21 -/
  | sessionRead
  /-- R81 -/
  | settleRead
  /-- R82 -/
  | settleFree
  /-- R105 -/
  | curtail
  /-- R136 -/
  | cutoffClear
  /-- R19 -/
  | pedestalMode
  /-- R156 -/
  | pedestalRestart
  /-- R158 -/
  | pedestalQuery
  /-- R126 -/
  | moduleRead
  /-- R125 -/
  | moduleReturn
  /-- R183 -/
  | restart
  /-- R166 -/
  | badKind
  /-- R164, R165: a run of bytes reaches the receiver. -/
  | hostFrameReceived (bytes : List RxByte)
  /-- R164 -/
  | frameTimerExpiry
  /-- R168 -/
  | outputRecordSent (time : Nat)
  /-- R4, R16 -/
  | pdPlug (time pedestal : Nat) (plugged : Bool)
  /-- R5 -/
  | pdToken (time pedestal : Nat) (token : Token)
  /-- R11 (`ready`), R12 (DONE) -/
  | pdVehicle (time pedestal : Nat) (ready : Bool) (request : BitVec 16)
  /-- R57 to R64 -/
  | pdMeter (time pedestal : Nat) (register : BitVec 32)
  /-- R157 -/
  | pdRestarted (time pedestal : Nat) (plugged : Bool)
  /-- R159 -/
  | pdAnswer (time pedestal : Nat) (epoch code : Byte) (data : List Byte)
  /-- R116, R119, R120, R121 -/
  | mdState (time moduleNo : Nat) (value : Contact)
  /-- R122 -/
  | mdFault (time moduleNo : Nat) (code : Byte)
  /-- R141 -/
  | gmVolts (time : Nat) (reading : BitVec 16)
  /-- R146 -/
  | fieldFrameDiscarded (time : Nat) (frame : FieldFrame)
  /-- R151 -/
  | orderSent (time : Nat)
  /-- R152 -/
  | busOff (time : Nat)
  /-- R152 -/
  | busOffRecovery (time : Nat)
  /-- R131, R134: `lows` consecutive low samples of the line. -/
  | lineAssertionAccepted (time : Nat) (line : SafetyLine) (lows : Nat)
  /-- R131, R135: `highs` consecutive high samples of the line. -/
  | lineReleaseAccepted (time : Nat) (line : SafetyLine) (highs : Nat)
  /-- R182, R184: the outage in ms, the BAUDSEL straps, whether the backup supply is present, and where an interruption
  abandons the sequence (`none`: it runs to its end). -/
  | mainSupplyReturn (outage : Nat) (straps : BitVec 2) (backup : Bool) (cut : Option Nat)
  /-- R182, R185 -/
  | mainSupplyLoss (loss : SupplyLoss)
  /-- R182, R183, R184 -/
  | resetLinePulse (time : Nat) (straps : BitVec 2) (cut : Option Nat)
  /-- R183, R184 -/
  | commandedRestartBegin (straps : BitVec 2) (cut : Option Nat)
  /-- R6 -/
  | authWaitExpiry (pedestal : Nat)
  /-- R13 -/
  | startWaitExpiry (pedestal : Nat)
  /-- R29 -/
  | resumeWindowExpiry (pedestal : Nat)
  /-- R33 -/
  | extensionWindowExpiry (pedestal : Nat)
  /-- R154, R27 -/
  | reportTimerExpiry (pedestal : Nat)
  /-- R90, R91 -/
  | apportionmentPeriodExpiry
  /-- R115 -/
  | prechargeTimerExpiry (moduleNo : Nat)
  /-- R117, R120 -/
  | contactTimerExpiry (moduleNo : Nat)
  /-- R119 -/
  | rampTimerExpiry (moduleNo : Nat)
  /-- R143 -/
  | recoveryHoldExpiry
  /-- R144 -/
  | silenceTimerExpiry
  /-- R159 -/
  | queryTimerExpiry (pedestal : Nat)
  /-- R180 -/
  | minuteExpiry
  /-- R164 -/
  | frameSyncReceived (time : Nat)
  /-- R182 -/
  | backupSupplyLoss
  deriving DecidableEq, Repr

end Sys2Proof
end

