-- ==== Sys2Proof/Decode.lean ====
section
/-! DEFINITION. The host's view of the opcode table's words. No row of spec/opcode_table.json gives bits ("n_rows_with_fixed": 0 in
spec/98_reader.md), so no word spells a command (log 8). -/

namespace Sys2Proof

/-- The command that a word spells by the table's bits: none, because no row gives bits. -/
def decodeTableWord (_nbits _w : Nat) : Option Instr := none

end Sys2Proof
end

