-- ==== Sys2Proof/Config.lean ====
section
/-! DEFINITION. What is fixed for the part (identity, capacities, fixed durations) and the fifteen configuration parameters with
their defaults (R179). The model has no free value: the manual leaves no result of a command open. -/

namespace Sys2Proof.Config

/-- Family code in the IDENTIFY reply (R174, R188). -/
def familyCode : Nat := 0x47
/-- Member code in the IDENTIFY reply (R174). -/
def memberCode : Nat := 16
/-- Design revision in the IDENTIFY reply (R174). -/
def designRevision : Nat := 1
/-- Places of the request queue (R165). -/
def requestPlaces : Nat := 4
/-- The output queue's gate: a request is taken, and BUSY given at arrival, below this count (R165, R166). -/
def outputGate : Nat := 16
/-- Places of the Settlement Queue, shared with the open sessions (R80). -/
def settlementPlaces : Nat := 24
/-- Greatest hold in minor units (R7, R34). -/
def holdLimit : Nat := 1000000
/-- Greatest cap and vehicle request in kW (R7, R11, R106). -/
def powerLimit : Nat := 500
/-- Greatest number of top-ups of one session (R34). -/
def topUpLimit : Nat := 15
/-- Places of the interruption list (R35). -/
def interruptionPlaces : Nat := 4
/-- Duration of the query timer in ms (R158). -/
def queryMs : Nat := 2000
/-- Duration of the frame timer in ms (R164). -/
def frameMs : Nat := 20
/-- Shortest interval in ms that the overdraw check judges (R62). -/
def overdrawMinMs : Nat := 100
/-- Park minutes in a park day (R180). -/
def minutesPerDay : Nat := 1440
/-- The sync byte of a host frame (R163). -/
def syncByte : BitVec 8 := 0xA5

end Sys2Proof.Config

namespace Sys2Proof.Machine

/-- The fifteen configuration parameters (R179), each in the unit the table of R179 gives it. -/
structure Params where
  periodMs         : Nat
  reportTimeoutS   : Nat
  authWaitS        : Nat
  startWaitS       : Nat
  resumeWindowS    : Nat
  extensionWindowS : Nat
  topUpPercent     : Nat
  prechargeMs      : Nat
  contactMs        : Nat
  rampMs           : Nat
  filterLength     : Nat
  sagEnable        : Bool
  sagIndex         : Nat
  deratePercent    : Nat
  recoveryHoldS    : Nat
  deriving DecidableEq, Repr

/-- The default of every parameter, which a cold start gives (R179). -/
def Params.default : Params :=
  { periodMs := 500, reportTimeoutS := 3, authWaitS := 180, startWaitS := 60, resumeWindowS := 60
    extensionWindowS := 120, topUpPercent := 90, prechargeMs := 200, contactMs := 500, rampMs := 1000
    filterLength := 5, sagEnable := false, sagIndex := 8, deratePercent := 50, recoveryHoldS := 30 }

end Sys2Proof.Machine
end

