-- ==== Sys2Proof/Machine/State.lean ====
section
/-! DEFINITION. The state of the part: every piece of state that chapters 1 to 11 name, block by block, and the queue of commands that
are waiting. Plain data throughout. `State.reset` is the part after a cold start (R182, log 7). -/

namespace Sys2Proof.Machine

/-- A timer: stopped, or running until the given ms of running time (00_scope.md section 6.4, log 3). -/
abbrev Timer := Option Nat

/-- A session cap: a limit in kW, or NONE (R89). -/
abbrev Cap := Option Nat

/-! ### Session Table (chapters 1, 2, 4) -/

/-- The seven slot states (R2). -/
inductive SlotState where
  | vacant
  | plugged
  | starting
  | running
  | suspended
  | finished
  | waitUnplug
  deriving DecidableEq, Repr

/-- The pedestal modes (R1, R19). -/
inductive PedestalMode where
  | inService
  | closingDown
  | outOfService
  deriving DecidableEq, Repr

/-- Why dispensing ended (R1, R15). -/
inductive FinishCause where
  | vehicleDone
  | hostStop
  | startFailed
  | holdExpired
  | overdraw
  | meterFault
  | pedestalRestart
  deriving DecidableEq, Repr

/-- Why a session closed (R76). -/
inductive CloseCause where
  | unplug
  | linkLost
  | restart
  deriving DecidableEq, Repr

/-- The three suspension reasons (R25). -/
inductive Reason where
  | link
  | cutoff
  | hold
  deriving DecidableEq, Repr

/-- A suspension reason set (R25). -/
structure ReasonSet where
  link   : Bool
  cutoff : Bool
  hold   : Bool
  deriving DecidableEq, Repr

/-- One entry of the interruption list; the duration is absent while the entry is open (R35). -/
structure Interruption where
  reason      : Reason
  startDay    : Nat
  startMinute : Nat
  duration    : Option Nat
  deriving DecidableEq, Repr

/-- The accrual record of an open session (R54). Bucket 0 is the base bucket, bucket n is band n's. -/
structure Accrual where
  base             : Option Nat
  last             : Nat
  energy           : Nat
  buckets          : Vector Nat 5
  energyAmount     : Nat
  timeAmount       : Nat
  idleAmount       : Nat
  fee              : Nat
  chargingMinutes  : Nat
  idleMinutes      : Nat
  grace            : Nat
  hold             : Nat
  topUps           : Nat
  topUpRequested   : Bool
  holdReached      : Bool
  strikes          : Nat
  previousArrival  : Option Nat
  previousSetpoint : Nat
  deriving DecidableEq, Repr

/-- The session fields of a slot, present from AUTHORISE to close, with the accrual record (R1, R54). -/
structure Session where
  number          : Nat
  tariff          : TariffNo
  version         : BitVec 16
  startDay        : Nat
  startMinute     : Nat
  request         : Option Nat
  reasons         : ReasonSet
  finishCause     : Option FinishCause
  endOrdered      : Bool
  startWait       : Timer
  resumeWindow    : Timer
  extensionWindow : Timer
  interruptions   : List Interruption
  overflow        : Nat
  accrual         : Accrual
  deriving DecidableEq, Repr

/-- One slot of the Session Table (R1). -/
structure Slot where
  state    : SlotState
  mode     : PedestalMode
  token    : Option Token
  changed  : Bool
  authWait : Timer
  session  : Option Session
  deriving DecidableEq, Repr

/-- A slot after a cold start (R23). -/
def Slot.cold : Slot :=
  { state := .vacant, mode := .inService, token := none, changed := false, authWait := none, session := none }

/-! ### Tariff Table (chapter 3) -/

/-- The tariff slot states (R42). -/
inductive TariffState where
  | empty
  | active
  | retired
  deriving DecidableEq, Repr

/-- One time band (R41, R49). -/
structure Band where
  start : Nat
  stop  : Nat
  price : Nat
  deriving DecidableEq, Repr

/-- The contents of a tariff slot, written whole by TARIFF-LOAD (R41). -/
structure TariffContents where
  fee       : Nat
  basePrice : Nat
  timePrice : Nat
  idlePrice : Nat
  grace     : Nat
  bands     : Vector Band 4
  deriving DecidableEq, Repr

/-- One tariff slot (R41). -/
structure TariffSlot where
  state      : TariffState
  version    : BitVec 16
  references : Nat
  contents   : TariffContents
  deriving DecidableEq, Repr

/-- A tariff slot after a cold start (R52). -/
def TariffSlot.cold : TariffSlot :=
  { state := .empty, version := 0, references := 0
    contents := { fee := 0, basePrice := 0, timePrice := 0, idlePrice := 0, grace := 0
                  bands := Vector.replicate 4 { start := 1439, stop := 0, price := 0 } } }

/-! ### Settlement Queue (chapter 5) -/

/-- A settlement record (R76). -/
structure Settlement where
  number          : Nat
  pedestal        : Pedestal
  tariff          : TariffNo
  version         : BitVec 16
  token           : Option Token
  startDay        : Nat
  startMinute     : Nat
  endDay          : Nat
  endMinute       : Nat
  finishCause     : Option FinishCause
  closeCause      : CloseCause
  energy          : Nat
  buckets         : Vector Nat 5
  chargingMinutes : Nat
  idleMinutes     : Nat
  fee             : Nat
  energyAmount    : Nat
  timeAmount      : Nat
  idleAmount      : Nat
  total           : Nat
  waived          : Option Nat
  hold            : Nat
  topUps          : Nat
  interruptions   : List Interruption
  overflow        : Nat
  deriving DecidableEq, Repr

/-! ### Apportioner (chapter 6) -/

/-- One entry of the Allotment Table (R89). -/
structure Allotment where
  demand    : Nat
  grant     : Nat
  setpoint  : Nat
  cap       : Cap
  stagedCap : Option Cap
  deriving DecidableEq, Repr

/-- An Allotment Table entry after any restart (R108, R109). -/
def Allotment.cold : Allotment := { demand := 0, grant := 0, setpoint := 0, cap := none, stagedCap := none }

/-- What the Apportioner holds (R88, R89). -/
structure Apportioner where
  pAv           : Nat
  budget        : Nat
  gridCap       : Nat
  stagedGridCap : Option Nat
  pointer       : Pedestal
  periodTimer   : Timer
  entries       : Vector Allotment 16
  deriving DecidableEq, Repr

/-- The Apportioner after a cold start (R108). -/
def Apportioner.cold : Apportioner :=
  { pAv := 0, budget := 0, gridCap := 0, stagedGridCap := none, pointer := 15, periodTimer := none
    entries := Vector.replicate 16 Allotment.cold }

/-! ### Module Pool (chapter 7) -/

/-- The module states (R110). -/
inductive ModuleState where
  | absent
  | free
  | precharge
  | contactClose
  | assigned
  | rampDown
  | contactOpen
  | faulted
  deriving DecidableEq, Repr

/-- A reach window: first and last pedestal, each 0 to 16 (R110, R112). -/
structure Window where
  first : Nat
  last  : Nat
  deriving DecidableEq, Repr

/-- The sequence timer of a module (R110). -/
inductive SeqTimer where
  | stopped
  | awaitingSend
  | running (deadline : Nat)
  deriving DecidableEq, Repr

/-- Why a module was taken out of service (R110). -/
inductive FaultOrigin where
  | reported
  | closeTimeout
  | openTimeout
  | unexpectedClosed
  | unexpectedOpen
  deriving DecidableEq, Repr

/-- A module's fault: its origin, and the code, which is 0 for every origin but REPORTED (R110, R188). -/
structure ModuleFault where
  origin : FaultOrigin
  code   : Byte
  deriving DecidableEq, Repr

/-- One record of the Module Pool (R110). -/
structure ModuleRecord where
  state          : ModuleState
  window         : Window
  assigned       : Option Pedestal
  timer          : SeqTimer
  releaseOnClose : Bool
  forced         : Bool
  fault          : Option ModuleFault
  deriving DecidableEq, Repr

/-- A module record after a cold start (R129). -/
def ModuleRecord.cold : ModuleRecord :=
  { state := .absent, window := { first := 1, last := 0 }, assigned := none, timer := .stopped
    releaseOnClose := false, forced := false, fault := none }

/-! ### Protection Unit (chapter 8) -/

/-- The filter of one safety line: the most recent 16 samples (bit 0 the latest, 1 for high) and the accepted level (R131). -/
structure LineFilter where
  samples  : BitVec 16
  asserted : Bool
  deriving DecidableEq, Repr

/-- The set of cutoff sources (R133). -/
structure SourceSet where
  estop   : Bool
  trip    : Bool
  restart : Bool
  deriving DecidableEq, Repr

/-- The sag monitor's live result (R139). -/
inductive LiveResult where
  | unknown
  | normal
  | sag
  deriving DecidableEq, Repr

/-- What the Protection Unit holds (R131, R133, R139). -/
structure Protection where
  estop        : LineFilter
  trip         : LineFilter
  latch        : Bool
  sources      : SourceSet
  settling     : Nat
  live         : LiveResult
  derate       : Bool
  recoveryHold : Timer
  silence      : Timer
  deriving DecidableEq, Repr

/-- The Protection Unit after any restart (R145). -/
def Protection.cold : Protection :=
  { estop := { samples := 0, asserted := true }, trip := { samples := 0, asserted := true }
    latch := true, sources := { estop := false, trip := false, restart := true }
    settling := 3, live := .unknown, derate := false, recoveryHold := none, silence := none }

/-! ### Field Link Controller (chapter 9) -/

/-- An order for a field node (R149, R190). PD-BEGIN carries the low 16 bits of the session number. -/
inductive Order where
  | setpoint (p : Pedestal) (kw : Nat)
  | beginSession (p : Pedestal) (number : Nat)
  | endSession (p : Pedestal)
  | refuse (p : Pedestal)
  | reset (p : Pedestal)
  | query (p : Pedestal) (epoch : BitVec 4) (code : Byte)
  | precharge (m : ModuleNo) (p : Pedestal)
  | close (m : ModuleNo)
  | ramp (m : ModuleNo)
  | openContact (m : ModuleNo)
  deriving DecidableEq, Repr

/-- The 64 places of the field transmit queue (R149). -/
inductive Place where
  | setpoint (p : Pedestal)
  | other (p : Pedestal)
  | module (m : ModuleNo)
  deriving DecidableEq, Repr

/-- The CAN controller's state (R152). -/
inductive CanState where
  | onBus
  | busOff
  deriving DecidableEq, Repr

/-- A pedestal's link state (R153, R154). -/
inductive LinkState where
  | never
  | up
  | silent
  deriving DecidableEq, Repr

/-- The host's query awaiting an answer (R153, R158). -/
structure PendingQuery where
  tag   : Byte
  code  : Byte
  epoch : BitVec 4
  sent  : Bool
  deriving DecidableEq, Repr

/-- One entry of the Pedestal Link Table (R153). -/
structure Link where
  state       : LinkState
  reportTimer : Timer
  epoch       : BitVec 4
  register    : Option Nat
  fresh       : Bool
  lastArrival : Option Nat
  query       : Option PendingQuery
  queryTimer  : Timer
  deriving DecidableEq, Repr

/-- A Pedestal Link Table entry after a cold start (R161). -/
def Link.cold : Link :=
  { state := .never, reportTimer := none, epoch := 0, register := none, fresh := false
    lastArrival := none, query := none, queryTimer := none }

/-- What the Field Link Controller holds (R149 to R153). `fieldTx` is the model's view of the last frame sent (log 15). -/
structure FieldLink where
  can     : CanState
  queue   : List Order
  buffer  : Option Order
  links   : Vector Link 16
  fieldTx : Option FieldFrame
  deriving DecidableEq, Repr

/-- The Field Link Controller after a cold start (R161). -/
def FieldLink.cold : FieldLink :=
  { can := .onBus, queue := [], buffer := none, links := Vector.replicate 16 Link.cold, fieldTx := none }

/-! ### Host Link Port and notice unit (chapter 10) -/

/-- A host record: a queued request, or a reply or notice awaiting transmission (R163, R165, R168). -/
structure HostRecord where
  kind : Byte
  tag  : Byte
  body : List Byte
  deriving DecidableEq, Repr

/-- The receiver: HUNTING, or COLLECTING since the sync's arrival with the bytes received after it, oldest first (R164). -/
inductive Receiver where
  | hunting
  | collecting (syncTime : Nat) (got : List RxByte)
  deriving DecidableEq, Repr

/-- The twenty result codes (R169). -/
inductive ResultCode where
  | ok
  | busy
  | badKind
  | badLength
  | range
  | state
  | locked
  | notCommissioned
  | timeInvalid
  | linkDown
  | noTariff
  | inUse
  | queueFull
  | unknownSession
  | limit
  | mismatch
  | empty
  | pedestalReset
  | noAnswer
  | cutoffActive
  deriving DecidableEq, Repr

/-- What an owning block answers to a request: the result code, and the fields that follow it when it is OK (R187). -/
structure Answer where
  code : ResultCode
  body : List Byte := []
  deriving DecidableEq, Repr

/-- The request kinds of R188. -/
inductive RequestKind where
  | identify
  | parkStatus
  | noticeStatus
  | noticeMask
  | statusClear
  | commission
  | configure
  | timeSet
  | tariffLoad
  | tariffRetire
  | tariffRead
  | authorise
  | deny
  | extendHold
  | stop
  | sessionCap
  | sessionRead
  | settleRead
  | settleFree
  | curtail
  | cutoffClear
  | pedestalMode
  | pedestalRestart
  | pedestalQuery
  | moduleRead
  | moduleReturn
  | restart
  deriving DecidableEq, Repr

/-- The Host Link Port (R164, R165, R168). `restartAfter` counts the output records still to be transmitted before a requested
restart begins (R183); `hostTx` is the model's view of the last frame transmitted (log 15). -/
structure HostPort where
  receiver     : Receiver
  requests     : List HostRecord
  output       : List HostRecord
  restartAfter : Option Nat
  hostTx       : List Byte
  deriving DecidableEq, Repr

/-- The Host Link Port after any restart (R176). -/
def HostPort.cold : HostPort := { receiver := .hunting, requests := [], output := [], restartAfter := none, hostTx := [] }

/-- The five notice classes (R170). -/
inductive NoticeClass where
  | session
  | settle
  | hold
  | park
  | field
  deriving DecidableEq, Repr

/-- The latch, mask bit and pending flag of one class (R170). -/
structure ClassFlags where
  latch   : Bool
  masked  : Bool
  pending : Bool
  deriving DecidableEq, Repr

/-- A class that is masked with its latch clear (R176). -/
def ClassFlags.cold : ClassFlags := { latch := false, masked := true, pending := false }

/-- The three restart kinds (R182). -/
inductive RestartKind where
  | cold
  | supply
  | commanded
  deriving DecidableEq, Repr

/-- The PARK detail (R170). -/
structure ParkDetail where
  estop   : Bool
  trip    : Bool
  sag     : Bool
  faulted : Vector Bool 32
  restart : Option RestartKind
  deriving DecidableEq, Repr

/-- An empty PARK detail (R172). -/
def ParkDetail.empty : ParkDetail :=
  { estop := false, trip := false, sag := false, faulted := Vector.replicate 32 false, restart := none }

/-- The FIELD conditions of one pedestal (R170). -/
structure FieldConditions where
  silence    : Bool
  restart    : Bool
  meterFault : Bool
  overdraw   : Bool
  deriving DecidableEq, Repr

/-- The FIELD detail (R170). -/
structure FieldDetail where
  conditions  : Vector FieldConditions 16
  meterSilent : Bool
  busOff      : Bool
  deriving DecidableEq, Repr

/-- An empty FIELD detail (R172). -/
def FieldDetail.empty : FieldDetail :=
  { conditions := Vector.replicate 16 { silence := false, restart := false, meterFault := false, overdraw := false }
    meterSilent := false, busOff := false }

/-- The notice unit (R170). The SESSION detail is the slots' changed flags, held once, in the slots (R3). -/
structure NoticeUnit where
  session     : ClassFlags
  settle      : ClassFlags
  hold        : ClassFlags
  park        : ClassFlags
  field       : ClassFlags
  holdDetail  : Vector Bool 16
  parkDetail  : ParkDetail
  fieldDetail : FieldDetail
  deriving DecidableEq, Repr

/-- Every class masked, every latch, pending flag and detail clear: what step 10 of the restart sequence starts from (R176). -/
def NoticeUnit.cleared : NoticeUnit :=
  { session := .cold, settle := .cold, hold := .cold, park := .cold, field := .cold
    holdDetail := Vector.replicate 16 false, parkDetail := .empty, fieldDetail := .empty }

/-! ### Park Clock and Restart Control (chapter 11) -/

/-- The Park Clock (R180). `zeroAt` is the running time at which the seconds count was last 0 (log 5). -/
structure ParkClock where
  day           : Nat
  minute        : Nat
  zeroAt        : Nat
  valid         : Bool
  stampedDay    : Nat
  stampedMinute : Nat
  deriving DecidableEq, Repr

/-- The commissioning record (R177). -/
structure Commissioning where
  ceiling : Nat
  rating  : Nat
  ratings : Vector Nat 16
  windows : Vector Window 32
  deriving DecidableEq, Repr

/-- The commissioning record after a cold start (R177). -/
def Commissioning.cold : Commissioning :=
  { ceiling := 0, rating := 0, ratings := Vector.replicate 16 0, windows := Vector.replicate 32 { first := 1, last := 0 } }

/-- Restart Control (R177, R179, R182, R184). `restarting` holds while an abandoned sequence waits for the next restart (R185).
`backupPresent` is what the last supply command said of the backup supply (log 23). -/
structure RestartControl where
  commissioned  : Bool
  record        : Commissioning
  params        : Params
  marker        : Bool
  lastKind      : RestartKind
  straps        : BitVec 2
  mainPresent   : Bool
  backupPresent : Bool
  restarting    : Bool
  deriving DecidableEq, Repr

/-- Restart Control after a cold start (R177, R179, R182); straps and backup supply are the model's choice (log 7). -/
def RestartControl.cold : RestartControl :=
  { commissioned := false, record := .cold, params := .default, marker := true, lastKind := .cold
    straps := 0, mainPresent := true, backupPresent := true, restarting := false }

/-! ### The whole state -/

/-- The state of the part, and the commands that are waiting (first in, first out). -/
structure State where
  pending     : List Instr
  now         : Nat
  slots       : Vector Slot 16
  nextSession : Nat
  exhausted   : Bool
  tariffs     : Vector TariffSlot 8
  settlements : List Settlement
  alloc       : Apportioner
  modules     : Vector ModuleRecord 32
  prot        : Protection
  field       : FieldLink
  host        : HostPort
  notices     : NoticeUnit
  clock       : ParkClock
  control     : RestartControl
  deriving DecidableEq, Repr

/-- The part after a cold start: R23, R52, R85, R108, R129, R145, R161, R176, R177, R179, R180 (log 7). -/
def State.reset : State :=
  { pending := []
    now := 0
    slots := Vector.replicate 16 Slot.cold
    nextSession := 1
    exhausted := false
    tariffs := Vector.replicate 8 TariffSlot.cold
    settlements := []
    alloc := .cold
    modules := Vector.replicate 32 ModuleRecord.cold
    prot := .cold
    field := .cold
    host := .cold
    notices :=
      { NoticeUnit.cleared with
        park := { latch := true, masked := true, pending := true }
        parkDetail := { ParkDetail.empty with restart := some .cold } }
    clock := { day := 0, minute := 0, zeroAt := 0, valid := false, stampedDay := 0, stampedMinute := 0 }
    control := .cold }

/-- The reasons for which the machine would stop. The manual names none: a refused request is a reply that changes nothing (R169),
and module faults, meter faults and cutoff are state (R123, R57, R134). So no command raises a fault. -/
inductive Fault where
  deriving DecidableEq, Repr

/-- Why a command has no meaning. -/
inductive Refusal where
  /-- Raised by `exec` alone, for a row of the opcode table that has no meaning yet; safe. No row is left in that case. -/
  | notModelled (mnemonic : String)
  deriving DecidableEq, Repr

/-- What a command answers. -/
abbrev Result := Host.Outcome State Fault Refusal

end Sys2Proof.Machine
end

