-- ==== Sys2Proof/Machine/Operands.lean ====
section
/-! DEFINITION. Operands and encodings that need no state: numbers of pedestals and modules, little-endian fields (R186), the result,
state and cause codes of R186, the request kinds with their codes and body lengths (R188), the host frame with its CRC (R163), the
receiver (R164), and the field frames (R146, R190). -/

namespace Sys2Proof.Machine

/-! ### Numbers of pedestals, modules and tariff slots (00_scope.md section 6.2) -/

/-- The pedestal of a number 1 to 16. -/
def pedestalOf (n : Nat) : Option Pedestal :=
  if h : 1 ≤ n ∧ n ≤ 16 then some ⟨n - 1, by omega⟩ else none

/-- The module of a number 1 to 32. -/
def moduleOf (n : Nat) : Option ModuleNo :=
  if h : 1 ≤ n ∧ n ≤ 32 then some ⟨n - 1, by omega⟩ else none

/-- The tariff slot of a number 1 to 8. -/
def tariffOf (n : Nat) : Option TariffNo :=
  if h : 1 ≤ n ∧ n ≤ 8 then some ⟨n - 1, by omega⟩ else none

/-- The number of a pedestal, a module or a tariff slot. -/
def numberOf {n : Nat} (i : Fin n) : Nat := i.val + 1

/-! ### Numbers, options and sets as bytes (R186) -/

/-- A number as `width` bytes, low byte first. -/
def leBytes : Nat → Nat → List Byte
  | 0, _ => []
  | width + 1, n => BitVec.ofNat 8 n :: leBytes width (n / 256)

/-- The number that bytes spell, low byte first. -/
def ofLe : List Byte → Nat
  | [] => 0
  | b :: bs => b.toNat + 256 * ofLe bs

/-- The number in `width` bytes of a body, from byte `off` on. -/
def fieldAt (body : List Byte) (off width : Nat) : Nat := ofLe ((body.drop off).take width)

/-- A flag as one byte, 0 or 1. -/
def flagByte (b : Bool) : List Byte := leBytes 1 (if b then 1 else 0)

/-- An optional field of a reply: presence byte 1 and the field, or presence byte 0 alone. -/
def optField {α : Type} (enc : α → List Byte) : Option α → List Byte
  | none => leBytes 1 0
  | some a => leBytes 1 1 ++ enc a

/-- A set as a bitmap: member n is bit n - 1, the first of the list is bit 0. -/
def bitmapOf : List Bool → Nat
  | [] => 0
  | b :: bs => (if b then 1 else 0) + 2 * bitmapOf bs

/-- A cap of NONE is carried as 0xFFFF. -/
def capCode : Cap → Nat
  | none => 0xFFFF
  | some kw => kw

/-- A cap of a 16-bit request field: NONE, 0 to 500 kW, or out of range (R106, R186). -/
def capOfCode (n : Nat) : Option Cap :=
  if n = 0xFFFF then some none else if n ≤ Config.powerLimit then some (some n) else none

/-! ### Enumerations (R186) -/

/-- Codes of the result codes. -/
def ResultCode.code : ResultCode → Nat
  | .ok => 0
  | .busy => 1
  | .badKind => 2
  | .badLength => 3
  | .range => 4
  | .state => 5
  | .locked => 6
  | .notCommissioned => 7
  | .timeInvalid => 8
  | .linkDown => 9
  | .noTariff => 10
  | .inUse => 11
  | .queueFull => 12
  | .unknownSession => 13
  | .limit => 14
  | .mismatch => 15
  | .empty => 16
  | .pedestalReset => 17
  | .noAnswer => 18
  | .cutoffActive => 19

/-- Codes of the notice classes. -/
def NoticeClass.code : NoticeClass → Nat
  | .session => 1
  | .settle => 2
  | .hold => 3
  | .park => 4
  | .field => 5

/-- The notice class of a code, if it names one. -/
def noticeClassOf : Nat → Option NoticeClass
  | 1 => some .session
  | 2 => some .settle
  | 3 => some .hold
  | 4 => some .park
  | 5 => some .field
  | _ => none

/-- Codes of the slot states. -/
def SlotState.code : SlotState → Nat
  | .vacant => 0
  | .plugged => 1
  | .starting => 2
  | .running => 3
  | .suspended => 4
  | .finished => 5
  | .waitUnplug => 6

/-- Codes of the pedestal modes. -/
def PedestalMode.code : PedestalMode → Nat
  | .inService => 0
  | .closingDown => 1
  | .outOfService => 2

/-- The pedestal mode of a code, if it names one. -/
def pedestalModeOf : Nat → Option PedestalMode
  | 0 => some .inService
  | 1 => some .closingDown
  | 2 => some .outOfService
  | _ => none

/-- Codes of the finish causes. -/
def FinishCause.code : FinishCause → Nat
  | .vehicleDone => 1
  | .hostStop => 2
  | .startFailed => 3
  | .holdExpired => 4
  | .overdraw => 5
  | .meterFault => 6
  | .pedestalRestart => 7

/-- Codes of the close causes. -/
def CloseCause.code : CloseCause → Nat
  | .unplug => 1
  | .linkLost => 2
  | .restart => 3

/-- Codes of the reason of an interruption entry. -/
def Reason.code : Reason → Nat
  | .link => 1
  | .cutoff => 2
  | .hold => 3

/-- A reason set as a bitmap: bit 0 LINK, bit 1 CUTOFF, bit 2 HOLD. -/
def ReasonSet.code (r : ReasonSet) : Nat := bitmapOf [r.link, r.cutoff, r.hold]

/-- Codes of the tariff states. -/
def TariffState.code : TariffState → Nat
  | .empty => 0
  | .active => 1
  | .retired => 2

/-- Codes of the module states. -/
def ModuleState.code : ModuleState → Nat
  | .absent => 0
  | .free => 1
  | .precharge => 2
  | .contactClose => 3
  | .assigned => 4
  | .rampDown => 5
  | .contactOpen => 6
  | .faulted => 7

/-- Codes of the fault origins. -/
def FaultOrigin.code : FaultOrigin → Nat
  | .reported => 1
  | .closeTimeout => 2
  | .openTimeout => 3
  | .unexpectedClosed => 4
  | .unexpectedOpen => 5

/-- Codes of the link states. -/
def LinkState.code : LinkState → Nat
  | .never => 0
  | .up => 1
  | .silent => 2

/-- Codes of the live result. -/
def LiveResult.code : LiveResult → Nat
  | .unknown => 0
  | .normal => 1
  | .sag => 2

/-- Codes of the restart kinds; absent is 0. -/
def restartCode : Option RestartKind → Nat
  | none => 0
  | some .cold => 1
  | some .supply => 2
  | some .commanded => 3

/-- The cutoff source set as a bitmap. -/
def SourceSet.code (c : SourceSet) : Nat := bitmapOf [c.estop, c.trip, c.restart]

/-- The FIELD conditions of a pedestal as a bitmap. -/
def FieldConditions.code (c : FieldConditions) : Nat := bitmapOf [c.silence, c.restart, c.meterFault, c.overdraw]

/-! ### Request kinds (R188) -/

/-- The kind code of a request. -/
def RequestKind.code : RequestKind → Byte
  | .identify => 0x01
  | .parkStatus => 0x02
  | .noticeStatus => 0x03
  | .noticeMask => 0x04
  | .statusClear => 0x05
  | .commission => 0x06
  | .configure => 0x07
  | .timeSet => 0x08
  | .tariffLoad => 0x09
  | .tariffRetire => 0x0A
  | .tariffRead => 0x0B
  | .authorise => 0x0C
  | .deny => 0x0D
  | .extendHold => 0x0E
  | .stop => 0x0F
  | .sessionCap => 0x10
  | .sessionRead => 0x11
  | .settleRead => 0x12
  | .settleFree => 0x13
  | .curtail => 0x14
  | .cutoffClear => 0x15
  | .pedestalMode => 0x16
  | .pedestalRestart => 0x17
  | .pedestalQuery => 0x18
  | .moduleRead => 0x19
  | .moduleReturn => 0x1A
  | .restart => 0x1B

/-- The body length of a request kind, checked at the taking (R166, R186, R188). -/
def RequestKind.bodyLength : RequestKind → Nat
  | .identify => 0
  | .parkStatus => 0
  | .noticeStatus => 0
  | .noticeMask => 1
  | .statusClear => 1
  | .commission => 99
  | .configure => 22
  | .timeSet => 4
  | .tariffLoad => 34
  | .tariffRetire => 1
  | .tariffRead => 1
  | .authorise => 9
  | .deny => 1
  | .extendHold => 8
  | .stop => 4
  | .sessionCap => 6
  | .sessionRead => 1
  | .settleRead => 0
  | .settleFree => 4
  | .curtail => 2
  | .cutoffClear => 0
  | .pedestalMode => 2
  | .pedestalRestart => 1
  | .pedestalQuery => 2
  | .moduleRead => 1
  | .moduleReturn => 1
  | .restart => 0

/-- The kinds of chapter 12 are 0x01 to 0x1B (R166, R188). -/
def isRequestKind (kind : Byte) : Bool := 0x01 ≤ kind.toNat && kind.toNat ≤ 0x1B

/-! ### Host frames (R163) -/

/-- One bit of the CRC: polynomial 0x1021, most significant bit first. -/
def crcBit (c : BitVec 16) : BitVec 16 := if c.msb then (c <<< 1) ^^^ 0x1021 else c <<< 1

/-- One byte of the CRC. -/
def crcByte (c : BitVec 16) (b : Byte) : BitVec 16 :=
  let c := c ^^^ (b.setWidth 16 <<< 8)
  crcBit (crcBit (crcBit (crcBit (crcBit (crcBit (crcBit (crcBit c)))))))

/-- The CRC of a frame, initial value 0xFFFF, no final inversion. -/
def crc16 (bytes : List Byte) : BitVec 16 := bytes.foldl crcByte 0xFFFF

/-- The bytes of a record on the wire: sync, length, kind, tag, body, CRC low byte first. -/
def HostRecord.wire (r : HostRecord) : List Byte :=
  let covered := leBytes 1 (r.body.length + 2) ++ [r.kind, r.tag] ++ r.body
  Config.syncByte :: covered ++ leBytes 2 (crc16 covered).toNat

/-! ### The receiver (R164) -/

/-- What the bytes received after a sync at `syncTime` amount to, judged at the latest of them: `none` while the frame is not
complete, `some false` for a bad frame, `some true` for a good one. A byte that arrives after the 20 ms have run out finds the frame
already bad (log 26). -/
def frameVerdict (syncTime : Nat) (got : List RxByte) : Option Bool :=
  match got.head?, got.getLast? with
  | some lengthByte, some latest =>
    let length := lengthByte.value.toNat
    if latest.framingError || syncTime + Config.frameMs < latest.time then some false
    else if length < 2 || 248 < length then some false
    else if got.length < length + 3 then none
    else
      let bytes := got.map RxByte.value
      some (crc16 (bytes.take (length + 1)) == BitVec.ofNat 16 (ofLe (bytes.drop (length + 1))))
  | _, _ => none

/-- The record of a good frame: kind, tag and body after the length byte, without the CRC. -/
def recordOf (got : List RxByte) : HostRecord :=
  let bytes := got.map RxByte.value
  { kind := bytes.getD 1 0, tag := bytes.getD 2 0, body := (bytes.drop 3).take (bytes.length - 5) }

/-- The receiver takes bytes one by one. After a bad frame the bytes behind its sync are examined again, in order; each bad frame
drops its sync, so `fuel` of the square of the number of bytes is enough (`receive`). Answers the good frames in order. -/
def receiveLoop : Nat → Receiver → List RxByte → Receiver × List HostRecord
  | 0, r, _ => (r, [])
  | _ + 1, r, [] => (r, [])
  | fuel + 1, .hunting, b :: bs =>
    if !b.framingError && b.value == Config.syncByte then receiveLoop fuel (.collecting b.time []) bs
    else receiveLoop fuel .hunting bs
  | fuel + 1, .collecting t got, b :: bs =>
    match frameVerdict t (got ++ [b]) with
    | none => receiveLoop fuel (.collecting t (got ++ [b])) bs
    | some false => receiveLoop fuel .hunting (got ++ [b] ++ bs)
    | some true =>
      let rest := receiveLoop fuel .hunting bs
      (rest.1, recordOf (got ++ [b]) :: rest.2)

/-- How many bytes a receiver holds behind its sync. -/
def Receiver.held : Receiver → Nat
  | .hunting => 0
  | .collecting _ got => got.length

/-- The receiver after a run of bytes, and the good frames completed in it. -/
def receive (r : Receiver) (bytes : List RxByte) : Receiver × List HostRecord :=
  let n := r.held + bytes.length + 1
  receiveLoop (n * n) r bytes

/-! ### Field frames (R146, R190) -/

/-- An accepted field report, by its kind and the node that sent it (R146, R147, R148). -/
inductive Report where
  | plug (p : Pedestal) (plugged : Bool)
  | token (p : Pedestal) (token : Token)
  | vehicle (p : Pedestal) (ready : Bool) (request : Nat)
  | meter (p : Pedestal) (register : Nat)
  | restarted (p : Pedestal) (plugged : Bool)
  | answer (p : Pedestal) (epoch : Nat) (code : Byte) (data : List Byte)
  | moduleState (m : ModuleNo) (value : Contact)
  | moduleFault (m : ModuleNo) (code : Byte)
  | volts (reading : Nat)
  deriving DecidableEq, Repr

/-- 0 unplugged, 1 plugged; no other value is defined (R146 condition 5, R190). -/
def pluggedOf (n : Nat) : Option Bool := if n = 0 then some false else if n = 1 then some true else none

/-- A pedestal's report of a kind code and data (R146 conditions 3 to 5, R190). -/
def pedestalReport (p : Pedestal) (kind : Nat) (data : List Byte) : Option Report :=
  match kind, data.length with
  | 7, 1 => (pluggedOf (fieldAt data 0 1)).map (.restarted p)
  | 8, 1 => (pluggedOf (fieldAt data 0 1)).map (.plug p)
  | 9, 3 =>
    if fieldAt data 0 1 = 1 then some (.vehicle p true (fieldAt data 1 2))
    else if fieldAt data 0 1 = 2 then some (.vehicle p false (fieldAt data 1 2)) else none
  | 10, 4 => some (.meter p (fieldAt data 0 4))
  | 11, 8 => some (.token p (BitVec.ofNat 64 (fieldAt data 0 8)))
  | 12, n =>
    if 2 ≤ n ∧ n ≤ 8 then some (.answer p (fieldAt data 0 1) (data.getD 1 0) (data.drop 2)) else none
  | _, _ => none

/-- A module's report of a kind code and data (R146 conditions 3 to 5, R190). -/
def moduleReport (m : ModuleNo) (kind : Nat) (data : List Byte) : Option Report :=
  match kind, data.length with
  | 5, 1 => some (.moduleFault m (data.getD 0 0))
  | 6, 1 =>
    if fieldAt data 0 1 = 1 then some (.moduleState m .opened)
    else if fieldAt data 0 1 = 2 then some (.moduleState m .closed)
    else if fieldAt data 0 1 = 3 then some (.moduleState m .zero) else none
  | _, _ => none

/-- The report a frame carries, by conditions 1 to 5 of R146. Conditions 6 and 7 look at the state (`State.hears`). -/
def frameReport (f : FieldFrame) : Option Report :=
  if f.extended || f.remote then none
  else
    let kind := f.ident.toNat / 128
    let node := f.ident.toNat % 128
    match pedestalOf node, moduleOf (node - 32) with
    | some p, _ => pedestalReport p kind f.data
    | none, some m => moduleReport m kind f.data
    | none, none => if node = 80 ∧ kind = 2 ∧ f.data.length = 2 then some (.volts (fieldAt f.data 0 2)) else none

/-- A data frame with the 11-bit identifier kind × 128 + node (R146). -/
def standardFrame (kind node : Nat) (data : List Byte) : FieldFrame :=
  { extended := false, remote := false, ident := BitVec.ofNat 29 (kind * 128 + node), data := data }

/-- The frame that carries an order (R190). -/
def Order.frame : Order → FieldFrame
  | .reset p => standardFrame 1 (numberOf p) []
  | .endSession p => standardFrame 2 (numberOf p) []
  | .setpoint p kw => standardFrame 3 (numberOf p) (leBytes 2 kw)
  | .beginSession p number => standardFrame 4 (numberOf p) (leBytes 2 number)
  | .refuse p => standardFrame 5 (numberOf p) []
  | .query p epoch code => standardFrame 6 (numberOf p) (leBytes 1 epoch.toNat ++ [code])
  | .openContact m => standardFrame 1 (32 + numberOf m) []
  | .ramp m => standardFrame 2 (32 + numberOf m) []
  | .close m => standardFrame 3 (32 + numberOf m) []
  | .precharge m p => standardFrame 4 (32 + numberOf m) (leBytes 1 (numberOf p))

end Sys2Proof.Machine
end

