-- ==== Sys2Proof/Machine/Ops.lean ====
section
/-! DEFINITION. Named operations over the state that several blocks share: tables, time and timers, the output queue (R168), the field
transmit queue (R149 to R151) and the end of a pending query (R150, R156, R157, R159). -/

namespace Sys2Proof.Machine

/-! ### Table access -/

/-- The pedestals in ascending number. -/
def allPedestals : List Pedestal := [0, 1, 2, 3, 4, 5, 6, 7, 8, 9, 10, 11, 12, 13, 14, 15]

/-- The modules in ascending number. -/
def allModules : List ModuleNo :=
  [0, 1, 2, 3, 4, 5, 6, 7, 8, 9, 10, 11, 12, 13, 14, 15,
   16, 17, 18, 19, 20, 21, 22, 23, 24, 25, 26, 27, 28, 29, 30, 31]

/-- A pedestal's slot of the Session Table. -/
def State.slot (s : State) (p : Pedestal) : Slot := s.slots[p.val]

/-- A pedestal's entry of the Pedestal Link Table. -/
def State.link (s : State) (p : Pedestal) : Link := s.field.links[p.val]

/-- A pedestal's entry of the Allotment Table. -/
def State.allot (s : State) (p : Pedestal) : Allotment := s.alloc.entries[p.val]

/-- A module's record of the Module Pool. -/
def State.module (s : State) (m : ModuleNo) : ModuleRecord := s.modules[m.val]

/-- A slot of the Tariff Table. -/
def State.tariff (s : State) (t : TariffNo) : TariffSlot := s.tariffs[t.val]

/-- Replace a pedestal's slot. -/
def State.setSlot (s : State) (p : Pedestal) (x : Slot) : State := { s with slots := s.slots.set p.val x }

/-- Replace a pedestal's link entry. -/
def State.setLink (s : State) (p : Pedestal) (x : Link) : State :=
  { s with field := { s.field with links := s.field.links.set p.val x } }

/-- Replace a pedestal's allotment. -/
def State.setAllot (s : State) (p : Pedestal) (x : Allotment) : State :=
  { s with alloc := { s.alloc with entries := s.alloc.entries.set p.val x } }

/-- Replace a module's record. -/
def State.setModule (s : State) (m : ModuleNo) (x : ModuleRecord) : State := { s with modules := s.modules.set m.val x }

/-- Replace a tariff slot. -/
def State.setTariff (s : State) (t : TariffNo) (x : TariffSlot) : State := { s with tariffs := s.tariffs.set t.val x }

/-- Change the session fields of a pedestal's slot; nothing where the slot holds no open session. -/
def State.modifySession (s : State) (p : Pedestal) (f : Session → Session) : State :=
  s.setSlot p { s.slot p with session := (s.slot p).session.map f }

/-- Change the accrual record of a pedestal's open session. -/
def State.modifyAccrual (s : State) (p : Pedestal) (f : Accrual → Accrual) : State :=
  s.modifySession p fun e => { e with accrual := f e.accrual }

/-- The configuration in force. -/
def State.params (s : State) : Params := s.control.params

/-- The commissioned rating of a pedestal (R177). -/
def State.rating (s : State) (p : Pedestal) : Nat := s.control.record.ratings[p.val]

/-- The slot that holds an open session of a number, if any (R14, R34, R106). -/
def State.findSession (s : State) (number : Nat) : Option Pedestal :=
  allPedestals.find? fun p => match (s.slot p).session with
    | some e => e.number == number
    | none => false

/-- Insert by a key, in ascending order of the key. -/
def insertByKey (x : Nat × Pedestal) : List (Nat × Pedestal) → List (Nat × Pedestal)
  | [] => [x]
  | y :: ys => if x.1 ≤ y.1 then x :: y :: ys else y :: insertByKey x ys

/-- The pedestals with an open session, in ascending session number (R22, R93, R180). -/
def State.openBySession (s : State) : List Pedestal :=
  let keyed := allPedestals.filterMap fun p => (s.slot p).session.map fun e => (e.number, p)
  (keyed.foldr insertByKey []).map Prod.snd

/-- The number of open sessions (R7 check 7, R80). -/
def State.openCount (s : State) : Nat := (allPedestals.filter fun p => (s.slot p).session.isSome).length

/-! ### Time (log 3) -/

/-- Running time reaches the arrival of an event; it never runs back. -/
def State.advance (s : State) (time : Nat) : State := { s with now := max s.now time }

/-- A timer started now for a duration in ms. -/
def State.after (s : State) (ms : Nat) : Timer := some (s.now + ms)

/-- The time remaining of a timer in ms, 0 when it is stopped. -/
def State.remainingMs (s : State) : Timer → Nat
  | none => 0
  | some deadline => deadline - s.now

/-- The time remaining of a timer in whole seconds, rounded up (R21). -/
def State.remainingS (s : State) (t : Timer) : Nat := (s.remainingMs t + 999) / 1000

/-- A second start of a running window has no effect (R20). -/
def State.startWindow (s : State) (t : Timer) (seconds : Nat) : Timer :=
  match t with
  | none => s.after (seconds * 1000)
  | some deadline => some deadline

/-- The seconds count of the Park Clock, 0 to 59 (R180, log 5). -/
def State.secondsCount (s : State) : Nat := min 59 ((s.now - s.clock.zeroAt) / 1000)

/-- The current park minute becomes the last stamped minute (R180). -/
def State.stamp (s : State) : State :=
  { s with clock := { s.clock with stampedDay := s.clock.day, stampedMinute := s.clock.minute } }

/-- Events are taken while the main supply is present and no abandoned restart waits (R180, R184, R185). -/
def State.isLive (s : State) : Bool := s.control.mainPresent && !s.control.restarting

/-! ### The output queue (R168) -/

/-- Place a record at the tail of the output. -/
def State.pushOutput (s : State) (r : HostRecord) : State :=
  { s with host := { s.host with output := s.host.output ++ [r] } }

/-- The reply to a request: its kind plus 0x80, its tag, and the result code followed, when it is OK, by the fields of its kind
(R163, R187). -/
def replyRecord (kind tag : Byte) (a : Answer) : HostRecord :=
  { kind := kind + 0x80, tag := tag, body := leBytes 1 a.code.code ++ (if a.code = .ok then a.body else []) }

/-- A notice: kind 0xFF, tag 0, one byte naming the class (R163, R187). -/
def noticeRecord (c : NoticeClass) : HostRecord := { kind := 0xFF, tag := 0, body := leBytes 1 c.code }

/-- The delayed reply to a PEDESTAL-QUERY: result code and pedestal whatever the result, and with OK the answer's count and bytes
(R167, R187). -/
def delayedReply (tag : Byte) (p : Pedestal) (code : ResultCode) (data : List Byte) : HostRecord :=
  { kind := RequestKind.pedestalQuery.code + 0x80
    tag := tag
    body := leBytes 1 code.code ++ leBytes 1 (numberOf p) ++
      (if code = .ok then leBytes 1 data.length ++ data else []) }

/-- A pending query ends: its timer stops, its delayed reply is placed in the output and it is removed (R150, R156, R157, R159). -/
def State.endQuery (s : State) (p : Pedestal) (code : ResultCode) (data : List Byte) : State :=
  match (s.link p).query with
  | none => s
  | some q =>
    (s.setLink p { s.link p with query := none, queryTimer := none }).pushOutput (delayedReply q.tag p code data)

/-! ### The field transmit queue (R149, R150, R151) -/

/-- The place an order belongs to (R149). -/
def Order.place : Order → Place
  | .setpoint p _ => .setpoint p
  | .beginSession p _ => .other p
  | .endSession p => .other p
  | .refuse p => .other p
  | .reset p => .other p
  | .query p _ _ => .other p
  | .precharge m _ => .module m
  | .close m => .module m
  | .ramp m => .module m
  | .openContact m => .module m

/-- The unsent order in a place, if any (R149). -/
def State.unsentAt (s : State) (pl : Place) : Option Order := s.field.queue.find? fun o => o.place == pl

/-- Replace the queue's contents. -/
def State.setQueue (s : State) (q : List Order) : State := { s with field := { s.field with queue := q } }

/-- Place at the tail (R149). -/
def State.enqueue (s : State) (o : Order) : State := s.setQueue (s.field.queue ++ [o])

/-- Replace the unsent order of the same place, keeping its position (R149). -/
def State.replaceOrder (s : State) (o : Order) : State :=
  s.setQueue (s.field.queue.map fun x => if x.place == o.place then o else x)

/-- Drop the unsent orders in the two places of a pedestal (R150, R156, R157). -/
def State.dropOrders (s : State) (p : Pedestal) : State :=
  s.setQueue (s.field.queue.filter fun o => o.place != .setpoint p && o.place != .other p)

/-- Replace in place where the place is taken, join the tail where it is empty (R150). -/
def State.replaceOrEnqueue (s : State) (o : Order) : State :=
  match s.unsentAt o.place with
  | none => s.enqueue o
  | some _ => s.replaceOrder o

/-- PD-BEGIN, PD-END and PD-REFUSE by what the pedestal's other-order place holds (R150): an unsent PD-RESET makes the order drop; an
unsent PD-QUERY is replaced and its query ends with NO_ANSWER. -/
def State.placeSessionOrder (s : State) (p : Pedestal) (o : Order) : State :=
  match s.unsentAt (.other p) with
  | none => s.enqueue o
  | some (.reset _) => s
  | some (.query _ _ _) => (s.replaceOrder o).endQuery p .noAnswer []
  | some _ => s.replaceOrder o

/-- Place an order in the queue (R150). -/
def State.placeOrder (s : State) (o : Order) : State :=
  match o with
  | .setpoint _ _ => s.replaceOrEnqueue o
  | .beginSession p _ => s.placeSessionOrder p o
  | .endSession p => s.placeSessionOrder p o
  | .refuse p => s.placeSessionOrder p o
  | .reset p => (s.dropOrders p).enqueue o
  | .query _ _ _ => s.enqueue o
  | .precharge _ _ => s.replaceOrEnqueue o
  | .close _ => s.replaceOrEnqueue o
  | .ramp _ => s.replaceOrEnqueue o
  | .openContact _ => s.replaceOrEnqueue o

/-- While the CAN controller is on the bus and its buffer is empty, the head of the queue moves into the buffer (R151). Run at the end
of every command that may place an order or empty the buffer (log 6). -/
def State.startTransmit (s : State) : State :=
  match s.field.can, s.field.buffer, s.field.queue with
  | .onBus, none, o :: rest => { s with field := { s.field with queue := rest, buffer := some o } }
  | _, _, _ => s

/-! ### When a command's event happens (log 2) -/

/-- An event outside the host's requests: it is taken where the part is live and the event can happen in this state; where it cannot,
nothing changes. -/
def occur (s : State) (f : State → Option State) : Result :=
  if s.isLive then
    match f s with
    | some t => .next t.startTransmit
    | none => .next s
  else .next s

/-- An event of a numbered pedestal; there is no event of a pedestal that does not exist. -/
def occurAtPedestal (s : State) (n : Nat) (f : Pedestal → State → Option State) : Result :=
  occur s fun s => (pedestalOf n).bind fun p => f p s

/-- An event of a numbered module; there is no event of a module that does not exist. -/
def occurAtModule (s : State) (n : Nat) (f : ModuleNo → State → Option State) : Result :=
  occur s fun s => (moduleOf n).bind fun m => f m s

end Sys2Proof.Machine
end

