-- ==== Sys2Proof/Machine/Flags.lean ====
section
/-! DEFINITION. The notice unit (R170): setting a class's status latch, and what each event adds to the details of its class. -/

namespace Sys2Proof.Machine

/-- The flags of a class. -/
def NoticeUnit.flags (n : NoticeUnit) : NoticeClass → ClassFlags
  | .session => n.session
  | .settle => n.settle
  | .hold => n.hold
  | .park => n.park
  | .field => n.field

/-- Replace the flags of a class. -/
def NoticeUnit.setFlags (n : NoticeUnit) (c : NoticeClass) (f : ClassFlags) : NoticeUnit :=
  match c with
  | .session => { n with session := f }
  | .settle => { n with settle := f }
  | .hold => { n with hold := f }
  | .park => { n with park := f }
  | .field => { n with field := f }

/-- Replace the flags of a class. -/
def State.setFlags (s : State) (c : NoticeClass) (f : ClassFlags) : State :=
  { s with notices := s.notices.setFlags c f }

/-- An event of a class sets its status latch (R170): with the latch clear, an unmasked class sends its notice and a masked class
becomes pending; with the latch set, nothing more. -/
def State.raise (s : State) (c : NoticeClass) : State :=
  let f := s.notices.flags c
  if f.latch then s
  else if f.masked then s.setFlags c { f with latch := true, pending := true }
  else (s.setFlags c { f with latch := true }).pushOutput (noticeRecord c)

/-- A slot's change of state, or a stored token, sets its changed flag and the SESSION status (R3). -/
def State.markChanged (s : State) (p : Pedestal) : State :=
  (s.setSlot p { s.slot p with changed := true }).raise .session

/-- A slot goes to a state; a change of state is reported under R3. -/
def State.goTo (s : State) (p : Pedestal) (st : SlotState) : State :=
  (s.setSlot p { s.slot p with state := st }).markChanged p

/-- The HOLD status is set with the pedestal in the HOLD detail (R69, R70). -/
def State.raiseHold (s : State) (p : Pedestal) : State :=
  { s with notices := { s.notices with holdDetail := s.notices.holdDetail.set p.val true } }.raise .hold

/-- The PARK status is set with an entry in the PARK detail (R123, R134, R142). -/
def State.raisePark (s : State) (add : ParkDetail → ParkDetail) : State :=
  { s with notices := { s.notices with parkDetail := add s.notices.parkDetail } }.raise .park

/-- The FIELD status is set with an entry in the FIELD detail (R160). -/
def State.raiseField (s : State) (add : FieldDetail → FieldDetail) : State :=
  { s with notices := { s.notices with fieldDetail := add s.notices.fieldDetail } }.raise .field

/-- The FIELD status is set with a condition of a pedestal (R160). -/
def State.raiseCondition (s : State) (p : Pedestal) (add : FieldConditions → FieldConditions) : State :=
  s.raiseField fun d => { d with conditions := d.conditions.set p.val (add d.conditions[p.val]) }

end Sys2Proof.Machine
end

