-- ==== Sys2Proof/Machine/ModulePool.lean ====
section
/-! DEFINITION. The Module Pool's operations (chapter 7): counts, setpoint orders, assignment (R114), release (R118), entry to FAULTED
(R123) and forced opening (R124). -/

namespace Sys2Proof.Machine

/-! ### Counts (R89, R111) -/

/-- A module counts as held for a pedestal in PRECHARGE, in ASSIGNED, or in CONTACT_CLOSE without the release-on-close mark. -/
def ModuleRecord.heldFor (r : ModuleRecord) (p : Pedestal) : Bool :=
  r.assigned == some p &&
    (r.state == .precharge || r.state == .assigned || (r.state == .contactClose && !r.releaseOnClose))

/-- A module names a pedestal in a state. -/
def ModuleRecord.serves (r : ModuleRecord) (p : Pedestal) (st : ModuleState) : Bool := r.assigned == some p && r.state == st

/-- The held count of a pedestal. -/
def State.heldCount (s : State) (p : Pedestal) : Nat := (allModules.filter fun m => (s.module m).heldFor p).length

/-- The assigned count of a pedestal. -/
def State.assignedCount (s : State) (p : Pedestal) : Nat :=
  (allModules.filter fun m => (s.module m).serves p .assigned).length

/-- The reach window contains the pedestal (R110, R112). -/
def Window.contains (w : Window) (p : Pedestal) : Bool := w.first ≤ numberOf p && numberOf p ≤ w.last

/-- A window whose first pedestal is not greater than its last describes a usable module (R112). -/
def Window.usable (w : Window) : Bool := w.first ≤ w.last

/-- The power of a number of modules at the commissioned rating (R96, R99, R103). -/
def State.modulePower (s : State) (count : Nat) : Nat := count * s.control.record.rating

/-! ### Setpoint orders -/

/-- A changed setpoint replaces the one held and is queued as PD-SETPOINT (R96, R99, R102). -/
def State.orderSetpoint (s : State) (p : Pedestal) (kw : Nat) : State :=
  if (s.allot p).setpoint = kw then s
  else (s.setAllot p { s.allot p with setpoint := kw }).placeOrder (.setpoint p kw)

/-- A setpoint is lowered to a limit (R94, R99, R103). -/
def State.lowerSetpoint (s : State) (p : Pedestal) (limit : Nat) : State :=
  s.orderSetpoint p (min (s.allot p).setpoint limit)

/-- An ASSIGNED module has been lost: the setpoint falls to what the assigned modules give (R103). -/
def State.lowerToAssigned (s : State) (p : Option Pedestal) : State :=
  match p with
  | none => s
  | some p => s.lowerSetpoint p (s.modulePower (s.assignedCount p))

/-! ### Switching steps -/

/-- The contact timer started now (R113). -/
def State.contactTimer (s : State) : SeqTimer := .running (s.now + s.params.contactMs)

/-- The ramp timer started now (R113). -/
def State.rampTimer (s : State) : SeqTimer := .running (s.now + s.params.rampMs)

/-- An MD-OPEN is queued and the module goes to CONTACT_OPEN, keeping its pedestal, with the contact timer started. -/
def State.openContactor (s : State) (m : ModuleNo) : State :=
  let s := s.placeOrder (.openContact m)
  s.setModule m { s.module m with state := .contactOpen, timer := s.contactTimer, releaseOnClose := false }

/-- An MD-RAMP is queued and the module goes to RAMP_DOWN, keeping its pedestal, with the ramp timer started (R116, R118). -/
def State.rampModule (s : State) (m : ModuleNo) : State :=
  let s := s.placeOrder (.ramp m)
  s.setModule m { s.module m with state := .rampDown, timer := s.rampTimer, releaseOnClose := false }

/-- Assignment (R114): taken when the module is FREE and reaches the pedestal. -/
def State.assignModule (s : State) (m : ModuleNo) (p : Pedestal) : State :=
  if (s.module m).state = .free ∧ (s.module m).window.contains p then
    (s.setModule m { s.module m with state := .precharge, assigned := some p, timer := .awaitingSend }).placeOrder
      (.precharge m p)
  else s

/-- Release (R118), by the module's state. -/
def State.releaseModule (s : State) (m : ModuleNo) : State :=
  match (s.module m).state with
  | .precharge => s.openContactor m
  | .contactClose => s.setModule m { s.module m with releaseOnClose := true }
  | .assigned => s.rampModule m
  | .absent => s
  | .free => s
  | .rampDown => s
  | .contactOpen => s
  | .faulted => s

/-- Entry to FAULTED (R123). -/
def State.faultModule (s : State) (m : ModuleNo) (origin : FaultOrigin) (code : Byte) : State :=
  let r := s.module m
  let s := s.setModule m
    { r with state := .faulted, timer := .stopped, releaseOnClose := false, assigned := none
             fault := some { origin := origin, code := code } }
  let s := if r.state = .assigned then s.lowerToAssigned r.assigned else s
  (s.placeOrder (.openContact m)).raisePark fun d => { d with faulted := d.faulted.set m.val true }

/-- Forced opening of one module (R124). -/
def State.forceModule (s : State) (m : ModuleNo) : State :=
  let r := s.module m
  match r.state with
  | .precharge | .contactClose | .rampDown =>
    let s := s.openContactor m
    s.setModule m { s.module m with forced := true }
  | .assigned =>
    let s := s.openContactor m
    (s.setModule m { s.module m with forced := true }).lowerToAssigned r.assigned
  | .absent | .free | .contactOpen | .faulted => s

/-- Forced opening of every module, in ascending number (R124). -/
def State.forceAll (s : State) : State := allModules.foldl State.forceModule s

end Sys2Proof.Machine
end

