-- ==== Sys2Proof/Machine/Apportion.lean ====
section
/-! DEFINITION. The Apportioner's operations (chapter 6): the computed park power (R88), the regular pass (R91 to R96), the reduction
pass (R98, R99), and a session leaving RUNNING (R100). -/

namespace Sys2Proof.Machine

/-! ### Available power (R88) -/

/-- D of R88: the ceiling, or its derated share while derate is active. -/
def State.deratedCeiling (s : State) : Nat :=
  if s.prot.derate then s.control.record.ceiling * s.params.deratePercent / 100 else s.control.record.ceiling

/-- The computed park power (R88). -/
def State.computedPower (s : State) : Nat :=
  if !s.control.commissioned || s.prot.latch then 0
  else min (min s.control.record.ceiling s.alloc.gridCap) s.deratedCeiling

/-- P_av is set, and with it the module budget M (R88). -/
def State.setPower (s : State) (kw : Nat) : State :=
  { s with alloc := { s.alloc with pAv := kw, budget := kw / s.control.record.rating } }

/-! ### Demand and setpoint (R92, R96) -/

/-- The slot is RUNNING: the only state eligible for power (R2). -/
def State.isRunning (s : State) (p : Pedestal) : Bool := (s.slot p).state == .running

/-- The wanted power: the smallest of the vehicle request, the pedestal's rating and the cap in force; a cap of NONE is left out
(R92). -/
def State.wantedPower (s : State) (p : Pedestal) : Nat :=
  let request := ((s.slot p).session.bind fun e => e.request).getD 0
  let limit := min request (s.rating p)
  match (s.allot p).cap with
  | none => limit
  | some kw => min limit kw

/-- The demand of a pedestal: the wanted power in whole modules, rounded up; 0 where the slot is not RUNNING (R92). -/
def State.demandOf (s : State) (p : Pedestal) : Nat :=
  let rating := s.control.record.rating
  if s.isRunning p then (s.wantedPower p + rating - 1) / rating else 0

/-- The setpoint of step 8: the smallest of the wanted power, the assigned modules' power and the grant's power; 0 where the slot is
not RUNNING (R96, R102). -/
def State.setpointValue (s : State) (p : Pedestal) : Nat :=
  if s.isRunning p then
    min (min (s.wantedPower p) (s.modulePower (s.assignedCount p))) (s.modulePower (s.allot p).grant)
  else 0

/-- The setpoint takes its step 8 value (R96, R102). -/
def State.settleSetpoint (s : State) (p : Pedestal) : State := s.orderSetpoint p (s.setpointValue p)

/-! ### Sharing the budget (R93) -/

/-- A share in the making: the grants so far, the modules left, and the last pedestal granted one in pass 2. -/
structure Share where
  grants : Vector Nat 16
  left   : Nat
  last   : Option Pedestal
  deriving DecidableEq, Repr

/-- Pass 1: one module for each session visited, while modules are left. -/
def firstVisit (demand : Pedestal → Nat) (sh : Share) (p : Pedestal) : Share :=
  if 0 < sh.left ∧ 1 ≤ demand p then { sh with grants := sh.grants.set p.val 1, left := sh.left - 1 } else sh

/-- Pass 2: one more module for a pedestal granted at least 1 and fewer than its demand. -/
def secondVisit (demand : Pedestal → Nat) (sh : Share) (p : Pedestal) : Share :=
  if 0 < sh.left ∧ 1 ≤ sh.grants[p.val] ∧ sh.grants[p.val] < demand p then
    { grants := sh.grants.set p.val (sh.grants[p.val] + 1), left := sh.left - 1, last := some p }
  else sh

/-- The cycle of pass 2: the 16 pedestals from the one after the pointer on; 1 follows 16. -/
def cycleFrom (pointer : Pedestal) : List Pedestal := allPedestals.map fun k => pointer + 1 + k

/-- Pass 2 repeats its cycle; each cycle that grants nothing changes nothing, so as many cycles as modules are enough. -/
def secondPass (demand : Pedestal → Nat) (order : List Pedestal) : Nat → Share → Share
  | 0, sh => sh
  | n + 1, sh => secondPass demand order n (order.foldl (secondVisit demand) sh)

/-- Steps 4 and 5: the RUNNING sessions in ascending session number, then the cycle from the pointer (R93). -/
def shareBudget (sessions : List Pedestal) (demand : Pedestal → Nat) (pointer : Pedestal) (m : Nat) : Share :=
  let first := sessions.foldl (firstVisit demand) { grants := Vector.replicate 16 0, left := m, last := none }
  secondPass demand (cycleFrom pointer) first.left first

/-- The RUNNING sessions in ascending session number (R93). -/
def State.runningBySession (s : State) : List Pedestal := s.openBySession.filter s.isRunning

/-! ### Releases (R94) -/

/-- The modules of a pedestal in a state, highest number first. -/
def State.modulesIn (s : State) (p : Pedestal) (st : ModuleState) : List ModuleNo :=
  (allModules.filter fun m => (s.module m).serves p st && (s.module m).heldFor p).reverse

/-- Release a pedestal's modules beyond a count it may hold, in the order of R94. Where an ASSIGNED module is among them,
the setpoint is lowered first, so that its order stands ahead of the release orders. -/
def State.releaseBeyond (s : State) (p : Pedestal) (keep : Nat) : State :=
  let excess := s.heldCount p - keep
  let early := (s.modulesIn p .precharge ++ s.modulesIn p .contactClose).take excess
  let late := (s.modulesIn p .assigned).take (excess - early.length)
  let remaining := s.assignedCount p - late.length
  let lowered := if late.isEmpty then s else s.lowerSetpoint p (s.modulePower remaining)
  (early ++ late).foldl State.releaseModule lowered

/-- Step 6: each pedestal in ascending number has its excess over its grant released (R94). -/
def State.releaseExcess (s : State) : State :=
  allPedestals.foldl (fun s p => s.releaseBeyond p (s.allot p).grant) s

/-! ### The regular pass (R91) -/

/-- Change every allotment. -/
def State.mapAllot (s : State) (f : Pedestal → Allotment → Allotment) : State :=
  { s with alloc := { s.alloc with entries := Vector.ofFn fun p => f p (s.allot p) } }

/-- Step 1: staged values come into force (R91). -/
def State.passStaging (s : State) : State :=
  let s := { s with alloc := { s.alloc with gridCap := s.alloc.stagedGridCap.getD s.alloc.gridCap, stagedGridCap := none } }
  s.mapAllot fun _ e => { e with cap := e.stagedCap.getD e.cap, stagedCap := none }

/-- Step 2: P_av and M from the computed park power (R91). -/
def State.passBudget (s : State) : State := s.setPower s.computedPower

/-- Step 3: every pedestal's demand is recorded (R92). -/
def State.passDemand (s : State) : State := s.mapAllot fun p e => { e with demand := s.demandOf p }

/-- Steps 4 and 5: the grants, and the rotation pointer (R93). -/
def State.passGrants (s : State) : State :=
  let sh := shareBudget s.runningBySession (fun p => (s.allot p).demand) s.alloc.pointer s.alloc.budget
  let s := s.mapAllot fun p e => { e with grant := sh.grants[p.val] }
  { s with alloc := { s.alloc with pointer := sh.last.getD s.alloc.pointer } }

/-- FREE modules that reach a pedestal are assigned, lowest number first, until its held count equals its grant (R95). -/
def State.assignFor (s : State) (p : Pedestal) : State :=
  allModules.foldl (fun s m => if s.heldCount p < (s.allot p).grant then s.assignModule m p else s) s

/-- Step 7: the RUNNING sessions in ascending session number (R95). -/
def State.passAssign (s : State) : State := s.runningBySession.foldl State.assignFor s

/-- Step 8: every pedestal's setpoint, in ascending number (R96). -/
def State.passSetpoints (s : State) : State := allPedestals.foldl State.settleSetpoint s

/-- The regular pass, taken whole (R91). -/
def State.regularPass (s : State) : State :=
  s.passStaging.passBudget.passDemand.passGrants.releaseExcess.passAssign.passSetpoints

/-! ### The reduction pass (R98, R99) -/

/-- Steps 1 and 2: grants recomputed from the recorded demands, never above the grant before; the pointer stays (R99). -/
def State.reduceGrants (s : State) : State :=
  let sh := shareBudget s.runningBySession (fun p => (s.allot p).demand) s.alloc.pointer s.alloc.budget
  s.mapAllot fun p e => { e with grant := min e.grant sh.grants[p.val] }

/-- Step 3: setpoints fall to the new grants' power, in ascending pedestal number (R99). -/
def State.reduceSetpoints (s : State) : State :=
  allPedestals.foldl (fun s p => s.lowerSetpoint p (s.modulePower (s.allot p).grant)) s

/-- The reduction pass (R99). -/
def State.reductionPass (s : State) : State := s.reduceGrants.reduceSetpoints.releaseExcess

/-- A reduction pass is considered: it runs when the computed park power is below P_av (R98). -/
def State.considerReduction (s : State) : State :=
  if s.computedPower < s.alloc.pAv then (s.setPower s.computedPower).reductionPass else s

/-! ### Leaving RUNNING (R100) -/

/-- A PD-SETPOINT above 0 for the pedestal is still unsent (R100). -/
def State.unsentPower (s : State) (p : Pedestal) : Bool :=
  s.field.queue.any fun o => match o with
    | .setpoint q kw => q == p && decide (0 < kw)
    | _ => false

/-- A session has left RUNNING, or was not in it: setpoint, grant and demand go to 0 and every held module is released (R100). -/
def State.leaveRunning (s : State) (p : Pedestal) : State :=
  let orderZero := decide (0 < (s.allot p).setpoint) || s.unsentPower p
  let s := s.setAllot p { s.allot p with setpoint := 0 }
  let s := if orderZero then s.placeOrder (.setpoint p 0) else s
  let s := s.setAllot p { s.allot p with grant := 0, demand := 0 }
  s.releaseBeyond p 0

end Sys2Proof.Machine
end

