-- ==== Sys2Proof/Machine/Settlement.lean ====
section
/-! DEFINITION. The closing arithmetic (R73, R74), the settlement record (R76) and its queue (R79), the tariff's band selection (R50) and
reference count (R44). -/

namespace Sys2Proof.Machine

/-! ### Tariff Store (R44, R50) -/

/-- A band contains the minutes from its start to its end, both included; a band whose start is greater than its end contains none
(R49). -/
def Band.contains (b : Band) (minute : Nat) : Bool := b.start ≤ minute && minute ≤ b.stop

/-- Band selection: the lowest-numbered band that contains the minute, or base; with its bucket and its price (R50). -/
def TariffContents.select (c : TariffContents) (minute : Nat) : Fin 5 × Nat :=
  if c.bands[0].contains minute then (1, c.bands[0].price)
  else if c.bands[1].contains minute then (2, c.bands[1].price)
  else if c.bands[2].contains minute then (3, c.bands[2].price)
  else if c.bands[3].contains minute then (4, c.bands[3].price)
  else (0, c.basePrice)

/-- Change a tariff slot's reference count (R44). -/
def State.setReferences (s : State) (t : TariffNo) (f : Nat → Nat) : State :=
  s.setTariff t { s.tariff t with references := f (s.tariff t).references }

/-! ### Closing arithmetic (R73, R74) -/

/-- Milli-units rounded to whole minor units, half up (R73). -/
def roundMinor (milli : Nat) : Nat := (milli + 500) / 1000

/-- The component sum: the session fee and the three rounded amounts (R73). -/
def Accrual.componentSum (a : Accrual) : Nat :=
  a.fee + roundMinor a.energyAmount + roundMinor a.timeAmount + roundMinor a.idleAmount

/-- The settled total: the component sum or the final hold, whichever is smaller (R74). -/
def Accrual.settledTotal (a : Accrual) : Nat := min a.componentSum a.hold

/-- The waived amount, absent when it is 0 (R74). -/
def Accrual.waived (a : Accrual) : Option Nat :=
  if a.componentSum - a.settledTotal = 0 then none else some (a.componentSum - a.settledTotal)

/-- The settlement record of a session that closes at an end time (R76). -/
def closingRecord (p : Pedestal) (token : Option Token) (e : Session) (cause : CloseCause) (day minute : Nat) : Settlement :=
  { number := e.number
    pedestal := p
    tariff := e.tariff
    version := e.version
    token := token
    startDay := e.startDay
    startMinute := e.startMinute
    endDay := day
    endMinute := minute
    finishCause := e.finishCause
    closeCause := cause
    energy := e.accrual.energy
    buckets := e.accrual.buckets
    chargingMinutes := e.accrual.chargingMinutes
    idleMinutes := e.accrual.idleMinutes
    fee := e.accrual.fee
    energyAmount := roundMinor e.accrual.energyAmount
    timeAmount := roundMinor e.accrual.timeAmount
    idleAmount := roundMinor e.accrual.idleAmount
    total := e.accrual.settledTotal
    waived := e.accrual.waived
    hold := e.accrual.hold
    topUps := e.accrual.topUps
    interruptions := e.interruptions
    overflow := e.overflow }

/-- The record joins the queue at the tail and the SETTLE status is set (R79). -/
def State.appendSettlement (s : State) (r : Settlement) : State :=
  { s with settlements := s.settlements ++ [r] }.raise .settle

end Sys2Proof.Machine
end

