-- ==== Sys2Proof/Machine/Sessions.lean ====
section
/-! DEFINITION. The Session Controller's operations (chapters 1 and 2): suspension reasons, the interruption list, entry to FINISHED
(R15), close (R17), freeing a slot (R16, R18) and the link's silence and return (R27, R28). -/

namespace Sys2Proof.Machine

/-! ### Reason sets (R25) -/

/-- The empty reason set. -/
def ReasonSet.none : ReasonSet := { link := false, cutoff := false, hold := false }

/-- Add a reason; a reason already present leaves the set unchanged. -/
def ReasonSet.add (r : ReasonSet) : Reason → ReasonSet
  | .link => { r with link := true }
  | .cutoff => { r with cutoff := true }
  | .hold => { r with hold := true }

/-- Remove a reason; a reason that is absent leaves the set unchanged. -/
def ReasonSet.remove (r : ReasonSet) : Reason → ReasonSet
  | .link => { r with link := false }
  | .cutoff => { r with cutoff := false }
  | .hold => { r with hold := false }

/-- No reason is present. -/
def ReasonSet.isEmpty (r : ReasonSet) : Bool := !r.link && !r.cutoff && !r.hold

/-! ### The interruption list (R35, R36, R37) -/

/-- The park minutes from a start to a closing minute, 0 at least and 65,535 at most (R37). -/
def spanMinutes (startDay startMinute day minute : Nat) : Nat :=
  min 65535 ((day * Config.minutesPerDay + minute) - (startDay * Config.minutesPerDay + startMinute))

/-- An open entry is closed at a minute (R37); a closed entry is unchanged. -/
def Interruption.closeAt (day minute : Nat) (i : Interruption) : Interruption :=
  match i.duration with
  | some _ => i
  | none => { i with duration := some (spanMinutes i.startDay i.startMinute day minute) }

/-- Close the open entry of a session, if any (R37). -/
def Session.closeEntries (day minute : Nat) (e : Session) : Session :=
  { e with interruptions := e.interruptions.map (Interruption.closeAt day minute) }

/-- A new entry, or one more in the overflow count when the list is full (R36). -/
def Session.openEntry (reason : Reason) (day minute : Nat) (e : Session) : Session :=
  if e.interruptions.length < Config.interruptionPlaces then
    { e with interruptions := e.interruptions ++
        [{ reason := reason, startDay := day, startMinute := minute, duration := none }] }
  else { e with overflow := min 255 (e.overflow + 1) }

/-! ### Suspension and return to RUNNING (R25, R26) -/

/-- A reason is added. From RUNNING the slot goes to SUSPENDED, an interruption entry opens and the Apportioner is told (R25, R36). -/
def State.addReason (s : State) (p : Pedestal) (r : Reason) : State :=
  match (s.slot p).state with
  | .running =>
    let s := (s.modifySession p fun e => { e with reasons := e.reasons.add r }).goTo p .suspended
    (s.modifySession p (Session.openEntry r s.clock.day s.clock.minute)).leaveRunning p
  | .suspended => s.modifySession p fun e => { e with reasons := e.reasons.add r }
  | .vacant => s
  | .plugged => s
  | .starting => s
  | .finished => s
  | .waitUnplug => s

/-- A reason is removed; `judge` then decides the state (R25). -/
def State.removeReason (s : State) (p : Pedestal) (r : Reason) : State :=
  s.modifySession p fun e => { e with reasons := e.reasons.remove r }

/-- A SUSPENDED slot whose set is empty returns to RUNNING and its interruption entry is closed (R26). -/
def State.judge (s : State) (p : Pedestal) : State :=
  match (s.slot p).state, (s.slot p).session with
  | .suspended, some e =>
    if e.reasons.isEmpty then
      (s.goTo p .running).modifySession p (Session.closeEntries s.clock.day s.clock.minute)
    else s
  | _, _ => s

/-- The extension window starts with the duration in force (R20, R32). -/
def State.startExtension (s : State) (p : Pedestal) : State :=
  s.modifySession p fun e => { e with extensionWindow := s.startWindow e.extensionWindow s.params.extensionWindowS }

/-- The resume window starts with the duration in force (R20, R27). -/
def State.startResume (s : State) (p : Pedestal) : State :=
  s.modifySession p fun e => { e with resumeWindow := s.startWindow e.resumeWindow s.params.resumeWindowS }

/-- Hold reached, by the slot's state (R32). -/
def State.holdReached (s : State) (p : Pedestal) : State :=
  match (s.slot p).state with
  | .running => (s.addReason p .hold).startExtension p
  | .suspended => (s.addReason p .hold).startExtension p
  | .vacant => s
  | .plugged => s
  | .starting => s
  | .finished => s
  | .waitUnplug => s

/-! ### Finish and close (R15, R17) -/

/-- PD-END is queued if the end ordered mark is clear, and the mark is set (R15, R17). -/
def State.orderEnd (s : State) (p : Pedestal) : State :=
  match (s.slot p).session with
  | none => s
  | some e =>
    if e.endOrdered then s
    else (s.placeOrder (.endSession p)).modifySession p fun e => { e with endOrdered := true }

/-- The end ordered mark is set without an order (R38, R39). -/
def State.markEnd (s : State) (p : Pedestal) : State := s.modifySession p fun e => { e with endOrdered := true }

/-- The accrual record's grace remaining is loaded from the tariff (R15 step 5, R51). -/
def State.loadGrace (s : State) (p : Pedestal) : State :=
  match (s.slot p).session with
  | none => s
  | some e => s.modifyAccrual p fun a => { a with grace := (s.tariff e.tariff).contents.grace }

/-- Entry to FINISHED (R15). Only STARTING, RUNNING and SUSPENDED are finished; any other state is unchanged. -/
def State.finish (s : State) (p : Pedestal) (cause : FinishCause) : State :=
  match (s.slot p).state with
  | .starting | .running | .suspended =>
    let s := s.goTo p .finished
    let s := s.modifySession p fun e =>
      { e.closeEntries s.clock.day s.clock.minute with
        finishCause := some cause, reasons := .none, extensionWindow := none, startWait := none }
    ((s.orderEnd p).leaveRunning p).loadGrace p
  | .vacant | .plugged | .finished | .waitUnplug => s

/-- A mode of CLOSING_DOWN becomes OUT_OF_SERVICE (R16, R17, R18, R24). -/
def PedestalMode.closed : PedestalMode → PedestalMode
  | .closingDown => .outOfService
  | .inService => .inService
  | .outOfService => .outOfService

/-- A slot with no open session becomes VACANT: auth wait stopped, token cleared, CLOSING_DOWN ended (R16, R18). -/
def State.freeSlot (s : State) (p : Pedestal) : State :=
  let x := s.slot p
  (s.setSlot p { x with authWait := none, token := none, mode := x.mode.closed }).goTo p .vacant

/-- A slot goes to WAIT_UNPLUG with its auth wait stopped, and a PD-REFUSE is queued (R4, R6, R10). -/
def State.refuseSlot (s : State) (p : Pedestal) : State :=
  ((s.setSlot p { s.slot p with authWait := none }).goTo p .waitUnplug).placeOrder (.refuse p)

/-- The close of a session (R17). The end time is the last stamped minute, which an UNPLUG or LINK_LOST close first sets to the
current minute (R17 step 2, R22). -/
def State.closeSession (s : State) (p : Pedestal) (cause : CloseCause) : State :=
  match (s.slot p).session with
  | none => s
  | some _ =>
    let s := if cause = .restart then s else s.stamp
    let day := s.clock.stampedDay
    let minute := s.clock.stampedMinute
    let s := s.modifySession p fun e =>
      { e.closeEntries day minute with startWait := none, resumeWindow := none, extensionWindow := none }
    let s := if cause = .restart then s else s.orderEnd p
    match (s.slot p).session with
    | none => s
    | some e =>
      let s := s.appendSettlement (closingRecord p (s.slot p).token e cause day minute)
      let s := s.setReferences e.tariff fun n => n - 1
      let s := s.leaveRunning p
      let s := s.setAllot p { s.allot p with cap := none, stagedCap := none }
      let x := s.slot p
      let s := s.setSlot p
        { x with session := none, mode := x.mode.closed, token := if cause = .linkLost then x.token else none }
      s.goTo p (if cause = .linkLost then .waitUnplug else .vacant)

/-! ### Plug reports (R4, R16) -/

/-- A "plugged" report (R4). -/
def State.plugIn (s : State) (p : Pedestal) : State :=
  match (s.slot p).state with
  | .vacant =>
    match (s.slot p).mode with
    | .inService =>
      (s.setSlot p { s.slot p with authWait := s.after (s.params.authWaitS * 1000) }).goTo p .plugged
    | .outOfService => s.refuseSlot p
    | .closingDown => s.refuseSlot p
  | .plugged => s
  | .starting => s
  | .running => s
  | .suspended => s
  | .finished => s
  | .waitUnplug => s

/-- An "unplugged" report (R16). -/
def State.unplug (s : State) (p : Pedestal) : State :=
  match (s.slot p).state with
  | .starting => s.closeSession p .unplug
  | .running => s.closeSession p .unplug
  | .suspended => s.closeSession p .unplug
  | .finished => s.closeSession p .unplug
  | .plugged => s.freeSlot p
  | .waitUnplug => s.freeSlot p
  | .vacant => s

/-! ### Link silence and return (R27, R28) -/

/-- The link has gone SILENT, by the slot's state (R27). -/
def State.linkSilent (s : State) (p : Pedestal) : State :=
  match (s.slot p).state with
  | .running => (s.addReason p .link).startResume p
  | .suspended => (s.addReason p .link).startResume p
  | .starting => s.startResume p
  | .finished => s.startResume p
  | .vacant => s
  | .plugged => s
  | .waitUnplug => s

/-- The link has returned: the resume window stops and LINK is removed (R28); `judge` then decides the state. -/
def State.linkReturned (s : State) (p : Pedestal) : State :=
  s.modifySession p fun e => { e with resumeWindow := none, reasons := e.reasons.remove .link }

/-! ### Pedestal restart (R18, R38, R39) -/

/-- PEDESTAL-RESTART acts on the slot (R38). -/
def State.restartOrdered (s : State) (p : Pedestal) : State := (s.markEnd p).finish p .pedestalRestart

/-- PD-RESTARTED acts on the slot (R18 where no session is open, R39 where one is). -/
def State.restartReported (s : State) (p : Pedestal) (plugged : Bool) : State :=
  match (s.slot p).state with
  | .vacant => if plugged then s.plugIn p else s
  | .plugged => if plugged then s else s.freeSlot p
  | .waitUnplug => if plugged then s.placeOrder (.refuse p) else s.freeSlot p
  | .starting | .running | .suspended | .finished =>
    if plugged then (s.markEnd p).finish p .pedestalRestart else (s.markEnd p).closeSession p .unplug

end Sys2Proof.Machine
end

