-- ==== Sys2Proof/Machine/Metering.lean ====
section
/-! DEFINITION. The Accrual Engine's operations (chapter 4): the hold comparison (R69, R70), the session fee (R65), meter reports (R57 to
R64) and minute charges (R66, R67). -/

namespace Sys2Proof.Machine

/-! ### The hold comparison (R56, R69, R70) -/

/-- The accrued amount in milli-units (R56). -/
def Accrual.accrued (a : Accrual) : Nat := a.energyAmount + a.timeAmount + a.idleAmount + 1000 * a.fee

/-- The top-up comparison (R69). -/
def State.compareTopUp (s : State) (p : Pedestal) : State :=
  match (s.slot p).session with
  | none => s
  | some e =>
    if e.accrual.hold * s.params.topUpPercent * 10 ≤ e.accrual.accrued ∧ e.accrual.topUpRequested = false then
      (s.modifyAccrual p fun a => { a with topUpRequested := true }).raiseHold p
    else s

/-- The comparison at the hold itself (R70). -/
def State.compareReached (s : State) (p : Pedestal) : State :=
  match (s.slot p).session with
  | none => s
  | some e =>
    if e.accrual.hold * 1000 ≤ e.accrual.accrued ∧ e.accrual.holdReached = false then
      ((s.modifyAccrual p fun a => { a with holdReached := true }).raiseHold p).holdReached p
    else s

/-- The hold comparison: the top-up comparison first, the hold second (R69, R70). -/
def State.compareHold (s : State) (p : Pedestal) : State := (s.compareTopUp p).compareReached p

/-! ### Vehicle reports (R11, R12, R65) -/

/-- READY in STARTING: the fee, the comparison, the request, and then the slot's new state (R11, R32, R65). -/
def State.firstReady (s : State) (p : Pedestal) (request : Nat) : State :=
  match (s.slot p).session with
  | none => s
  | some e =>
    let s := s.modifySession p fun e => { e with startWait := none }
    let s := s.modifyAccrual p fun a => { a with fee := (s.tariff e.tariff).contents.fee }
    let s := s.compareHold p
    let reached := match (s.slot p).session with
      | some e => e.accrual.holdReached
      | none => false
    let reasons : ReasonSet := { link := false, cutoff := s.prot.latch, hold := reached }
    let s := s.modifySession p fun e => { e with request := some request, reasons := reasons }
    let s := s.goTo p (if reasons.isEmpty then .running else .suspended)
    if reached then s.startExtension p else s

/-- A READY report; a request above 500 kW is taken as 500 (R11). -/
def State.vehicleReady (s : State) (p : Pedestal) (request : Nat) : State :=
  let request := min request Config.powerLimit
  match (s.slot p).state with
  | .starting => s.firstReady p request
  | .running => s.modifySession p fun e => { e with request := some request }
  | .suspended => s.modifySession p fun e => { e with request := some request }
  | .vacant => s
  | .plugged => s
  | .finished => s
  | .waitUnplug => s

/-- A DONE report (R12). -/
def State.vehicleDone (s : State) (p : Pedestal) : State :=
  match (s.slot p).state with
  | .running => s.finish p .vehicleDone
  | .suspended => s.finish p .vehicleDone
  | .starting => s.finish p .startFailed
  | .vacant => s
  | .plugged => s
  | .finished => s
  | .waitUnplug => s

/-! ### The overdraw check (R62, R63, R64) -/

/-- The allowed power: the larger setpoint and its tolerance, a tenth of it or 5 kW (R63). -/
def allowedPower (setpoint previous : Nat) : Nat :=
  let larger := max setpoint previous
  larger + max (larger / 10) 5

/-- The outcome of the check for a report: `none` where it is not made, else whether an excess exists (R62, R63). -/
def Accrual.overdraws (a : Accrual) (delta now setpoint : Nat) : Option Bool :=
  match a.previousArrival with
  | none => none
  | some before =>
    if now - before < Config.overdrawMinMs then none
    else some (decide (allowedPower setpoint a.previousSetpoint * (now - before) < delta * 3600))

/-- The overdraw condition of R63 and R64. -/
def FieldConditions.withOverdraw (c : FieldConditions) : FieldConditions := { c with overdraw := true }

/-- Move the strike count by the outcome; the third strike finishes the session, a further excess sets the FIELD status again (R63,
R64). -/
def State.moveStrikes (s : State) (p : Pedestal) (strikes : Nat) (outcome : Option Bool) : State :=
  match outcome with
  | none => s
  | some false => s.modifyAccrual p fun a => { a with strikes := 0 }
  | some true =>
    if strikes < 2 then s.modifyAccrual p fun a => { a with strikes := strikes + 1 }
    else if strikes = 2 then
      ((s.modifyAccrual p fun a => { a with strikes := 3 }).raiseCondition p .withOverdraw).finish p .overdraw
    else s.raiseCondition p .withOverdraw

/-! ### Meter reports (R57, R58, R59, R61) -/

/-- The register check fails: FIELD is set with a meter fault and a session not yet FINISHED finishes (R57). -/
def State.meterFault (s : State) (p : Pedestal) : State :=
  (s.raiseCondition p fun c => { c with meterFault := true }).finish p .meterFault

/-- The report opens the session's metering (R58). -/
def Accrual.openMetering (register now setpoint : Nat) (a : Accrual) : Accrual :=
  { a with base := some register, last := register, previousArrival := some now, previousSetpoint := setpoint }

/-- Steps 2 to 4 of R59: energy, bucket, amount and last register. -/
def Accrual.price (register : Nat) (bucket : Fin 5) (price : Nat) (a : Accrual) : Accrual :=
  let delta := register - a.last
  { a with
    energy := a.energy + delta
    buckets := a.buckets.set bucket.val (a.buckets[bucket.val] + delta)
    energyAmount := a.energyAmount + delta * price
    last := register }

/-- A report is priced to the open session (R59). -/
def State.priceReport (s : State) (p : Pedestal) (e : Session) (register : Nat) : State :=
  let band := (s.tariff e.tariff).contents.select s.clock.minute
  let setpoint := (s.allot p).setpoint
  let outcome := e.accrual.overdraws (register - e.accrual.last) s.now setpoint
  let s := s.modifyAccrual p (Accrual.price register band.1 band.2)
  let s := s.moveStrikes p e.accrual.strikes outcome
  let s := s.modifyAccrual p fun a => { a with previousArrival := some s.now, previousSetpoint := setpoint }
  s.compareHold p

/-- The register is lower than the last accepted one (R57). -/
def Link.backward (l : Link) (register : Nat) : Bool :=
  match l.register with
  | none => false
  | some last => decide (register < last)

/-- A PD-METER report after R147 has been run for it (R57, R58, R59, R61). -/
def State.takeMeter (s : State) (p : Pedestal) (register : Nat) : State :=
  if (s.link p).backward register then s.meterFault p
  else
    let s := s.setLink p { s.link p with register := some register, fresh := true }
    match (s.slot p).session with
    | none => s
    | some e =>
      match e.accrual.base with
      | none => s.modifyAccrual p (Accrual.openMetering register s.now (s.allot p).setpoint)
      | some _ => s.priceReport p e register

/-! ### Minute charges (R66, R67) -/

/-- One charging minute (R66). -/
def Accrual.chargeMinute (price : Nat) (a : Accrual) : Accrual :=
  { a with chargingMinutes := a.chargingMinutes + 1, timeAmount := a.timeAmount + 1000 * price }

/-- One idle minute (R67). -/
def Accrual.chargeIdle (price : Nat) (a : Accrual) : Accrual :=
  { a with idleMinutes := a.idleMinutes + 1, idleAmount := a.idleAmount + 1000 * price }

/-- The charge of one session at a minute expiry, by its state (R66, R67). -/
def State.chargeSession (s : State) (p : Pedestal) : State :=
  match (s.slot p).session with
  | none => s
  | some e =>
    let contents := (s.tariff e.tariff).contents
    match (s.slot p).state with
    | .running =>
      if 0 < (s.allot p).setpoint then (s.modifyAccrual p (Accrual.chargeMinute contents.timePrice)).compareHold p else s
    | .finished =>
      if (s.link p).state ≠ .up then s
      else if 0 < e.accrual.grace then s.modifyAccrual p fun a => { a with grace := a.grace - 1 }
      else if e.accrual.holdReached then s
      else (s.modifyAccrual p (Accrual.chargeIdle contents.idlePrice)).compareHold p
    | .vacant | .plugged | .starting | .suspended | .waitUnplug => s

/-- The minute advances; minute 1439 rolls to 0 and the day advances, 65,535 to 0 (R180 step 1). -/
def ParkClock.nextMinute (c : ParkClock) : ParkClock :=
  if c.minute + 1 < Config.minutesPerDay then { c with minute := c.minute + 1 }
  else { c with minute := 0, day := (c.day + 1) % 65536 }

/-- A minute expiry: the minute advances, is stamped if the time is valid, and every open session is charged in ascending session
number (R180). -/
def State.minutePasses (s : State) : State :=
  let due := s.clock.zeroAt + 60000
  let s := s.advance due
  let s := { s with clock := { s.clock.nextMinute with zeroAt := due } }
  let s := if s.clock.valid then s.stamp else s
  s.openBySession.foldl State.chargeSession s

end Sys2Proof.Machine
end

