-- ==== Sys2Proof/Machine/Protection.lean ====
section
/-! DEFINITION. The Protection Unit's operations (chapter 8): line samples (R131, R132), the cutoff latch (R134, R135, R136) and the sag
monitor (R140 to R144). -/

namespace Sys2Proof.Machine

/-! ### Cutoff (R30, R31, R134, R136) -/

/-- Add a line's name to the source set (R134). -/
def SourceSet.add (c : SourceSet) : SafetyLine → SourceSet
  | .estop => { c with estop := true }
  | .trip => { c with trip := true }

/-- Add a line's name to the PARK detail's set of cutoff sources (R134). -/
def ParkDetail.addSource (d : ParkDetail) : SafetyLine → ParkDetail
  | .estop => { d with estop := true }
  | .trip => { d with trip := true }

/-- CUTOFF is added to every slot in RUNNING or SUSPENDED (R30). -/
def State.addCutoff (s : State) : State := allPedestals.foldl (fun s p => s.addReason p .cutoff) s

/-- CUTOFF is removed from one slot, which returns to RUNNING if its set becomes empty (R31). -/
def State.removeCutoffAt (s : State) (p : Pedestal) : State :=
  match (s.slot p).session with
  | none => s
  | some e => if e.reasons.cutoff then (s.removeReason p .cutoff).judge p else s

/-- CUTOFF is removed from every open session that holds it (R31). -/
def State.removeCutoff (s : State) : State := allPedestals.foldl State.removeCutoffAt s

/-- An accepted assertion of a line (R134). -/
def State.lineAsserted (s : State) (line : SafetyLine) : State :=
  let wasSet := s.prot.latch
  let s := { s with prot := { s.prot with latch := true, sources := s.prot.sources.add line } }
  let s := if wasSet then s else s.considerReduction.forceAll.addCutoff
  s.raisePark fun d => d.addSource line

/-- The latch clears: the source set is emptied and CUTOFF is removed (R136). -/
def State.clearCutoff (s : State) : State :=
  { s with prot := { s.prot with latch := false, sources := { estop := false, trip := false, restart := false } } }.removeCutoff

/-! ### Line samples (R131, R132) -/

/-- The filter of a line. -/
def Protection.filter (x : Protection) : SafetyLine → LineFilter
  | .estop => x.estop
  | .trip => x.trip

/-- Replace the filter of a line. -/
def State.setFilter (s : State) (line : SafetyLine) (f : LineFilter) : State :=
  match line with
  | .estop => { s with prot := { s.prot with estop := f } }
  | .trip => { s with prot := { s.prot with trip := f } }

/-- The history after a number of low samples, the latest in bit 0 (R131). -/
def shiftLow (samples : BitVec 16) (count : Nat) : BitVec 16 := samples <<< count

/-- The history after a number of high samples, the latest in bit 0 (R131). -/
def shiftHigh (samples : BitVec 16) (count : Nat) : BitVec 16 := ~~~(~~~samples <<< count)

/-- The most recent `n` samples are all low (R131). -/
def allLow (samples : BitVec 16) (n : Nat) : Bool := samples.toNat % 2 ^ n == 0

/-- The most recent `n` samples are all high (R131). -/
def allHigh (samples : BitVec 16) (n : Nat) : Bool := (~~~samples).toNat % 2 ^ n == 0

/-- A number of low samples of a line, taken one after another. While low samples come in, only an assertion can be accepted, and once
the most recent N are low they stay so; so it is judged after the last of them (R131). -/
def State.sampleLow (s : State) (line : SafetyLine) (count : Nat) : State :=
  let f := s.prot.filter line
  let samples := shiftLow f.samples count
  if 1 ≤ count ∧ f.asserted = false ∧ allLow samples s.params.filterLength then
    (s.setFilter line { samples := samples, asserted := true }).lineAsserted line
  else s.setFilter line { f with samples := samples }

/-- A number of high samples of a line, taken one after another: only a release can be accepted, and it changes the accepted level and
nothing else (R131, R135). -/
def State.sampleHigh (s : State) (line : SafetyLine) (count : Nat) : State :=
  let f := s.prot.filter line
  let samples := shiftHigh f.samples count
  if 1 ≤ count ∧ f.asserted = true ∧ allHigh samples s.params.filterLength then
    s.setFilter line { samples := samples, asserted := false }
  else s.setFilter line { f with samples := samples }

/-! ### The sag monitor (R139 to R144) -/

/-- The threshold in per-mille (R139). -/
def Params.sagThreshold (c : Params) : Nat := 800 + 10 * (c.sagIndex - 1)

/-- The silence timer started now with the report timeout in force (R141, R144). -/
def State.silenceTimer (s : State) : Timer := s.after (s.params.reportTimeoutS * 1000)

/-- A reading below the threshold, taken with the monitor settled (R142). -/
def State.lowReading (s : State) : State :=
  let wasActive := s.prot.derate
  let s := { s with prot := { s.prot with live := .sag, recoveryHold := none, derate := true } }
  if wasActive then s else s.considerReduction.raisePark fun d => { d with sag := true }

/-- A reading at or above the threshold, taken with the monitor settled (R143). -/
def State.normalReading (s : State) : State :=
  let hold := if s.prot.derate then s.startWindow s.prot.recoveryHold s.params.recoveryHoldS else s.prot.recoveryHold
  { s with prot := { s.prot with live := .normal, recoveryHold := hold } }

/-- A GM-VOLTS reading (R141). -/
def State.takeVolts (s : State) (reading : Nat) : State :=
  if !s.params.sagEnable then s
  else if 0 < s.prot.settling then
    let left := s.prot.settling - 1
    { s with prot := { s.prot with settling := left, silence := if left = 0 then s.silenceTimer else s.prot.silence } }
  else
    let s := { s with prot := { s.prot with silence := s.silenceTimer } }
    if reading < s.params.sagThreshold then s.lowReading else s.normalReading

/-- The silence timer expires: FIELD marks the meter silent, the timer starts again and the silence is a low reading (R144). -/
def State.meterSilent (s : State) : State :=
  let s := s.raiseField fun d => { d with meterSilent := true }
  { s with prot := { s.prot with silence := s.silenceTimer } }.lowReading

/-- A CONFIGURE that changes sag enable (R140); `before` is the parameter it replaces. -/
def State.sagConfigured (s : State) (before : Bool) : State :=
  match before, s.params.sagEnable with
  | false, true => { s with prot := { s.prot with settling := 3 } }
  | true, false =>
    { s with prot :=
        { s.prot with derate := false, recoveryHold := none, silence := none, live := .unknown, settling := 3 } }
  | true, true => s
  | false, false => s

end Sys2Proof.Machine
end

