-- ==== Sys2Proof/Machine/FieldReports.lean ====
section
/-! DEFINITION. The Field Link Controller's operations (chapter 9): acceptance (R146, R147, R148), pedestal restarts and epochs (R155,
R157), answers (R159), and the module reports (R116, R119 to R122). -/

namespace Sys2Proof.Machine

/-! ### Epochs and pedestal restarts (R155, R156, R157) -/

/-- A pedestal's epoch advances by one, 15 to 0 (R155). -/
def State.advanceEpoch (s : State) (p : Pedestal) : State := s.setLink p { s.link p with epoch := (s.link p).epoch + 1 }

/-- A PD-RESTARTED after R147 has been run for it (R157). -/
def State.takeRestarted (s : State) (p : Pedestal) (plugged : Bool) : State :=
  let s := ((s.advanceEpoch p).dropOrders p).endQuery p .pedestalReset []
  (s.raiseCondition p fun c => { c with restart := true }).restartReported p plugged

/-! ### Answers (R159) -/

/-- A PD-ANSWER ends the pending query that has been sent and that it matches by epoch and code; any other is discarded (R159). -/
def State.takeAnswer (s : State) (p : Pedestal) (epoch : Nat) (code : Byte) (data : List Byte) : State :=
  match (s.link p).query with
  | none => s
  | some q => if q.sent ∧ epoch = q.epoch.toNat ∧ code = q.code then s.endQuery p .ok data else s

/-! ### Link state (R147, R154) -/

/-- Steps 1 to 3 of R147, with the slot's part of a return but not yet its judgement (R28). -/
def State.heardFrom (s : State) (p : Pedestal) : State :=
  let l := s.link p
  let s := s.setLink p
    { l with
      state := .up
      reportTimer := s.after (s.params.reportTimeoutS * 1000)
      fresh := if l.state = .up then l.fresh else false
      lastArrival := some s.now }
  if l.state = .silent then s.linkReturned p else s

/-- R147 for a frame whose handling adds no reason: the return is judged before the frame is handed on (R28). -/
def State.heardAndJudged (s : State) (p : Pedestal) : State :=
  if (s.link p).state = .silent then (s.heardFrom p).judge p else s.heardFrom p

/-- R147 and a PD-METER. The report is taken against the slot as the return leaves it; but where it takes a slot that had returned to
RUNNING to SUSPENDED again, the slot never left SUSPENDED (R26, log 14). -/
def State.heardMeter (s : State) (p : Pedestal) (register : Nat) : State :=
  let returned := s.heardAndJudged p
  let taken := returned.takeMeter p register
  if (s.slot p).state = .suspended ∧ (returned.slot p).state = .running ∧ (taken.slot p).state = .suspended then
    (s.heardFrom p).takeMeter p register
  else taken

/-- The report timer expires in UP: the link goes SILENT, FIELD is set, and the slot acts (R154, R27). -/
def State.goSilent (s : State) (p : Pedestal) : State :=
  let s := s.setLink p { s.link p with state := .silent, reportTimer := none }
  (s.raiseCondition p fun c => { c with silence := true }).linkSilent p

/-! ### Module reports (chapter 7) -/

/-- A closed report in CONTACT_CLOSE (R116): ASSIGNED with the setpoint raised (R102), or RAMP_DOWN where the module is marked. -/
def State.moduleClosed (s : State) (m : ModuleNo) : State :=
  let r := s.module m
  if r.releaseOnClose then s.rampModule m
  else
    let s := s.setModule m { r with state := .assigned, timer := .stopped }
    match r.assigned with
    | none => s
    | some p => s.settleSetpoint p

/-- An open report in CONTACT_OPEN: the module is FREE (R120). -/
def State.moduleFreed (s : State) (m : ModuleNo) : State :=
  s.setModule m { s.module m with state := .free, timer := .stopped, assigned := none, forced := false }

/-- An MD-STATE report by the module's state (R115, R116, R119, R120, R121, R123). -/
def State.takeContact (s : State) (m : ModuleNo) (value : Contact) : State :=
  match (s.module m).state, value with
  | .free, .closed => s.faultModule m .unexpectedClosed 0
  | .precharge, .closed => s.faultModule m .unexpectedClosed 0
  | .contactClose, .closed => s.moduleClosed m
  | .assigned, .opened => s.faultModule m .unexpectedOpen 0
  | .rampDown, .opened => s.faultModule m .unexpectedOpen 0
  | .rampDown, .zero => s.openContactor m
  | .contactOpen, .opened => s.moduleFreed m
  | .absent, _ => s
  | .free, .opened | .free, .zero => s
  | .precharge, .opened | .precharge, .zero => s
  | .contactClose, .opened | .contactClose, .zero => s
  | .assigned, .closed | .assigned, .zero => s
  | .rampDown, .closed => s
  | .contactOpen, .closed | .contactOpen, .zero => s
  | .faulted, _ => s

/-- An MD-FAULT report by the module's state (R122). -/
def State.takeFault (s : State) (m : ModuleNo) (code : Byte) : State :=
  match (s.module m).state with
  | .absent | .faulted => s
  | .free | .precharge | .contactClose | .assigned | .rampDown | .contactOpen => s.faultModule m .reported code

/-! ### Acceptance (R146, R147, R148) -/

/-- Conditions 6 and 7 of R146: a pedestal of rating 0 and an ABSENT module are not heard. -/
def State.hears (s : State) : Report → Bool
  | .plug p _ => s.rating p != 0
  | .token p _ => s.rating p != 0
  | .vehicle p _ _ => s.rating p != 0
  | .meter p _ => s.rating p != 0
  | .restarted p _ => s.rating p != 0
  | .answer p _ _ _ => s.rating p != 0
  | .moduleState m _ => (s.module m).state != .absent
  | .moduleFault m _ => (s.module m).state != .absent
  | .volts _ => true

/-- A PD-TOKEN: stored in PLUGGED, ignored in every other state (R5). -/
def State.takeToken (s : State) (p : Pedestal) (token : Token) : State :=
  if (s.slot p).state = .plugged then (s.setSlot p { s.slot p with token := some token }).markChanged p else s

/-- An accepted report is handed to its owner (R147, R148). -/
def State.takeReport (s : State) : Report → State
  | .plug p plugged => let s := s.heardAndJudged p; if plugged then s.plugIn p else s.unplug p
  | .token p token => (s.heardAndJudged p).takeToken p token
  | .vehicle p ready request => let s := s.heardAndJudged p; if ready then s.vehicleReady p request else s.vehicleDone p
  | .meter p register => s.heardMeter p register
  | .restarted p plugged => (s.heardAndJudged p).takeRestarted p plugged
  | .answer p epoch code data => (s.heardAndJudged p).takeAnswer p epoch code data
  | .moduleState m value => s.takeContact m value
  | .moduleFault m code => s.takeFault m code
  | .volts reading => s.takeVolts reading

/-- A report reaches the part: no frame is received in BUS_OFF (R152), and a frame that isn't accepted changes nothing (R146). -/
def State.receiveReport (s : State) (time : Nat) (r : Report) : Option State :=
  if s.field.can = .onBus ∧ s.hears r then some ((s.advance time).takeReport r) else none

end Sys2Proof.Machine
end

