-- ==== Sys2Proof/Machine/Requests.lean ====
section
/-! DEFINITION. The Host Link Port's handling of requests: arrival (R165), taking (R166, R183) and the received bytes (R164). -/

namespace Sys2Proof.Machine

/-! ### Arrival (R164, R165) -/

/-- Replace the queued requests. -/
def State.setRequests (s : State) (q : List HostRecord) : State := { s with host := { s.host with requests := q } }

/-- The arrival of a good frame (R165). A kind in 0x7F to 0xFF is no request. With the queue full a request is answered BUSY where the
output is below its gate; while a restart awaits its reply's transmission there is no answer (R183). -/
def State.arrive (s : State) (r : HostRecord) : State :=
  if 0x7F ≤ r.kind.toNat then s
  else if s.host.requests.length < Config.requestPlaces then s.setRequests (s.host.requests ++ [r])
  else if s.host.output.length < Config.outputGate ∧ s.host.restartAfter = none then
    s.pushOutput (replyRecord r.kind r.tag { code := .busy })
  else s

/-- The receiver becomes what a run of bytes leaves it, and each good frame of the run arrives, in order (R164, R165). -/
def State.takeBytes (s : State) (start : Receiver) (bytes : List RxByte) : State :=
  let r := receive start bytes
  r.2.foldl State.arrive { s with host := { s.host with receiver := r.1 } }

/-! ### Taking (R166, R183) -/

/-- The port takes a request only below the output's gate (R166), while the part is live, and not once RESTART has been taken
(R183). -/
def State.takes (s : State) : Bool :=
  s.isLive && s.host.restartAfter.isNone && decide (s.host.output.length < Config.outputGate)

/-- The request at the head of the queue, when the port takes it. -/
def State.headRequest (s : State) : Option HostRecord := if s.takes then s.host.requests.head? else none

/-- Remove the request at the head (R166). -/
def State.dropHead (s : State) : State := s.setRequests s.host.requests.tail

/-- What the owner of a request makes of it: the state it leaves, and its answer; none for a taken PEDESTAL-QUERY (R167). -/
abbrev Taken := State × Option Answer

/-- A refused request: a result code and no change (R169). -/
def refuse (code : ResultCode) (s : State) : Taken := (s, some { code := code })

/-- A request taken with OK and the fields of its reply. -/
def accept (body : List Byte) (s : State) : Taken := (s, some { code := .ok, body := body })

/-- Place the reply to a request behind the records the request itself raised (R166). -/
def State.reply (s : State) (r : HostRecord) : Option Answer → State
  | none => s
  | some a => s.pushOutput (replyRecord r.kind r.tag a)

/-- The taking of a request of a kind: the head of the queue is removed; a wrong body length is answered BAD_LENGTH; else its owner has
it and the reply follows (R166). Where the port takes nothing, or the head is of another kind, nothing happens (log 1, 2). -/
def takeRequest (k : RequestKind) (s : State) (owner : HostRecord → State → Taken) : Result :=
  match s.headRequest with
  | none => .next s
  | some r =>
    if r.kind ≠ k.code then .next s
    else if r.body.length ≠ k.bodyLength then .next (s.dropHead.reply r (some { code := .badLength }))
    else
      let taken := owner r s.dropHead
      .next (taken.1.reply r taken.2)

end Sys2Proof.Machine
end

