-- ==== Sys2Proof/Machine/Records.lean ====
section
/-! DEFINITION. The bodies of the replies (R188) and the records they carry (R189), encoded by the conventions of R186. -/

namespace Sys2Proof.Machine

/-! ### Tariffs and modules (R188) -/

/-- One time band: start minute, end minute, price. -/
def Band.bytes (b : Band) : List Byte := leBytes 2 b.start ++ leBytes 2 b.stop ++ leBytes 2 b.price

/-- The tariff contents, 33 bytes. -/
def TariffContents.bytes (c : TariffContents) : List Byte :=
  leBytes 2 c.fee ++ leBytes 2 c.basePrice ++ leBytes 2 c.timePrice ++ leBytes 2 c.idlePrice ++ leBytes 1 c.grace ++
    c.bands.toList.flatMap Band.bytes

/-- A band read from a body. -/
def bandAt (body : List Byte) (off : Nat) : Band :=
  { start := fieldAt body off 2, stop := fieldAt body (off + 2) 2, price := fieldAt body (off + 4) 2 }

/-- The tariff contents read from a body. -/
def contentsAt (body : List Byte) (off : Nat) : TariffContents :=
  { fee := fieldAt body off 2
    basePrice := fieldAt body (off + 2) 2
    timePrice := fieldAt body (off + 4) 2
    idlePrice := fieldAt body (off + 6) 2
    grace := fieldAt body (off + 8) 1
    bands := Vector.ofFn fun i => bandAt body (off + 9 + 6 * i.val) }

/-- The body of TARIFF-READ (R48, R188). -/
def TariffSlot.bytes (t : TariffSlot) : List Byte :=
  leBytes 1 t.state.code ++ leBytes 2 t.version.toNat ++ leBytes 1 t.references ++ t.contents.bytes

/-- The time remaining of a sequence timer, 0 when it is stopped or awaits its send (R126). -/
def State.sequenceMs (s : State) : SeqTimer → Nat
  | .stopped => 0
  | .awaitingSend => 0
  | .running deadline => deadline - s.now

/-- The body of MODULE-READ (R126, R188). -/
def State.moduleBytes (s : State) (m : ModuleNo) : List Byte :=
  let r := s.module m
  leBytes 1 r.state.code ++ leBytes 1 r.window.first ++ leBytes 1 r.window.last ++
    optField (fun p : Pedestal => leBytes 1 (numberOf p)) r.assigned ++
    leBytes 2 (s.sequenceMs r.timer) ++ flagByte (r.timer == .awaitingSend) ++
    leBytes 1 (bitmapOf [r.releaseOnClose, r.forced]) ++
    optField (fun f : ModuleFault => leBytes 1 f.origin.code ++ [f.code]) r.fault

/-! ### The session snapshot (R21, R189) -/

/-- An interruption entry of a snapshot, with its duration's presence byte. -/
def Interruption.snapshotBytes (i : Interruption) : List Byte :=
  leBytes 1 i.reason.code ++ leBytes 2 i.startDay ++ leBytes 2 i.startMinute ++ optField (leBytes 2) i.duration

/-- A token, 8 bytes. -/
def tokenBytes (t : Token) : List Byte := leBytes 8 t.toNat

/-- The accrual summary. -/
def Accrual.bytes (a : Accrual) : List Byte :=
  optField (leBytes 4) a.base ++ leBytes 4 a.last ++ leBytes 4 a.energy ++ a.buckets.toList.flatMap (leBytes 4) ++
    leBytes 8 a.energyAmount ++ leBytes 8 a.timeAmount ++ leBytes 8 a.idleAmount ++
    leBytes 2 a.fee ++ leBytes 4 a.chargingMinutes ++ leBytes 4 a.idleMinutes ++ leBytes 1 a.grace ++ leBytes 4 a.hold ++
    leBytes 1 a.topUps ++ leBytes 1 (bitmapOf [a.topUpRequested, a.holdReached]) ++ leBytes 1 a.strikes

/-- The session part, the interruptions and the accrual summary. -/
def State.sessionBytes (s : State) (e : Session) : List Byte :=
  leBytes 4 e.number ++ leBytes 1 (numberOf e.tariff) ++ leBytes 2 e.version.toNat ++ leBytes 2 e.startDay ++
    leBytes 2 e.startMinute ++ optField (leBytes 2) e.request ++ leBytes 1 e.reasons.code ++
    optField (fun c : FinishCause => leBytes 1 c.code) e.finishCause ++ flagByte e.endOrdered ++
    leBytes 2 (s.remainingS e.startWait) ++ leBytes 2 (s.remainingS e.resumeWindow) ++
    leBytes 2 (s.remainingS e.extensionWindow) ++
    leBytes 1 e.interruptions.length ++ e.interruptions.flatMap Interruption.snapshotBytes ++ leBytes 1 e.overflow ++
    e.accrual.bytes

/-- The allotment part. -/
def Allotment.bytes (a : Allotment) : List Byte :=
  leBytes 1 a.grant ++ leBytes 2 a.setpoint ++ leBytes 2 (capCode a.cap) ++
    optField (fun c : Cap => leBytes 2 (capCode c)) a.stagedCap

/-- The session snapshot of a pedestal's slot. -/
def State.snapshotBytes (s : State) (p : Pedestal) : List Byte :=
  let x := s.slot p
  leBytes 1 x.state.code ++ leBytes 1 x.mode.code ++ flagByte x.changed ++ optField tokenBytes x.token ++
    leBytes 2 (s.remainingS x.authWait) ++ optField s.sessionBytes x.session ++ (s.allot p).bytes

/-! ### The settlement record (R76, R189) -/

/-- An interruption entry of a record; every entry is closed, so it carries no presence byte. -/
def Interruption.recordBytes (i : Interruption) : List Byte :=
  leBytes 1 i.reason.code ++ leBytes 2 i.startDay ++ leBytes 2 i.startMinute ++ leBytes 2 (i.duration.getD 0)

/-- The settlement record. -/
def Settlement.bytes (r : Settlement) : List Byte :=
  leBytes 4 r.number ++ leBytes 1 (numberOf r.pedestal) ++ leBytes 1 (numberOf r.tariff) ++ leBytes 2 r.version.toNat ++
    optField tokenBytes r.token ++ leBytes 2 r.startDay ++ leBytes 2 r.startMinute ++ leBytes 2 r.endDay ++
    leBytes 2 r.endMinute ++ optField (fun c : FinishCause => leBytes 1 c.code) r.finishCause ++
    leBytes 1 r.closeCause.code ++ leBytes 4 r.energy ++ r.buckets.toList.flatMap (leBytes 4) ++
    leBytes 4 r.chargingMinutes ++ leBytes 4 r.idleMinutes ++ leBytes 2 r.fee ++ leBytes 8 r.energyAmount ++
    leBytes 8 r.timeAmount ++ leBytes 8 r.idleAmount ++ leBytes 4 r.total ++ optField (leBytes 8) r.waived ++
    leBytes 4 r.hold ++ leBytes 1 r.topUps ++ leBytes 1 r.interruptions.length ++
    r.interruptions.flatMap Interruption.recordBytes ++ leBytes 1 r.overflow

/-! ### Identity and park status (R174, R175, R189) -/

/-- The body of IDENTIFY. -/
def State.identityBytes (s : State) : List Byte :=
  leBytes 1 Config.familyCode ++ leBytes 1 Config.memberCode ++ leBytes 1 Config.designRevision ++
    leBytes 1 s.control.straps.toNat ++ flagByte s.control.commissioned ++ leBytes 1 (restartCode (some s.control.lastKind))

/-- The part group. -/
def State.partBytes (s : State) : List Byte :=
  flagByte s.control.commissioned ++ flagByte s.clock.valid ++ leBytes 2 s.clock.day ++ leBytes 2 s.clock.minute ++
    leBytes 1 s.openCount ++ leBytes 1 s.settlements.length

/-- The apportionment group. -/
def Apportioner.bytes (a : Apportioner) : List Byte :=
  leBytes 2 a.pAv ++ leBytes 1 a.budget ++ leBytes 2 a.gridCap ++ optField (leBytes 2) a.stagedGridCap ++
    leBytes 1 (numberOf a.pointer)

/-- The protection group. -/
def State.protectionBytes (s : State) : List Byte :=
  flagByte s.prot.latch ++ leBytes 1 s.prot.sources.code ++ leBytes 1 (bitmapOf [s.prot.estop.asserted, s.prot.trip.asserted]) ++
    flagByte s.params.sagEnable ++ leBytes 1 s.prot.settling ++ leBytes 1 s.prot.live.code ++ flagByte s.prot.derate ++
    leBytes 2 (s.remainingS s.prot.recoveryHold) ++ leBytes 2 (s.remainingS s.prot.silence)

/-- The time since the last accepted frame in ms, saturating, 0 where there was none (R160). -/
def State.sinceArrival (s : State) (l : Link) : Nat :=
  match l.lastArrival with
  | none => 0
  | some t => min 4294967295 (s.now - t)

/-- One pedestal's items of the field group (R160). -/
def State.linkBytes (s : State) (p : Pedestal) : List Byte :=
  let l := s.link p
  leBytes 1 l.state.code ++ leBytes 1 l.epoch.toNat ++ optField (leBytes 4) l.register ++ flagByte l.fresh ++
    leBytes 4 (s.sinceArrival l) ++ flagByte l.query.isSome

/-- The field group. -/
def State.fieldBytes (s : State) : List Byte :=
  flagByte (s.field.can == .busOff) ++ leBytes 1 s.field.queue.length ++ allPedestals.flatMap s.linkBytes

/-- Park status, in the order of R175. -/
def State.parkBytes (s : State) : List Byte :=
  s.partBytes ++ s.alloc.bytes ++ s.protectionBytes ++ s.fieldBytes ++ leBytes 1 s.host.requests.length ++
    leBytes 1 s.host.output.length

/-! ### Notice status (R173, R189) -/

/-- The five classes, in the order of their bitmap bits. -/
def allClasses : List NoticeClass := [.session, .settle, .hold, .park, .field]

/-- A bitmap of one flag of the five classes. -/
def State.classMap (s : State) (f : ClassFlags → Bool) : List Byte :=
  leBytes 1 (bitmapOf (allClasses.map fun c => f (s.notices.flags c)))

/-- Notice status, 32 bytes. -/
def State.noticeBytes (s : State) : List Byte :=
  s.classMap ClassFlags.latch ++ s.classMap ClassFlags.masked ++ s.classMap ClassFlags.pending ++
    leBytes 2 (bitmapOf (allPedestals.map fun p => (s.slot p).changed)) ++
    leBytes 2 (bitmapOf s.notices.holdDetail.toList) ++
    leBytes 1 (bitmapOf [s.notices.parkDetail.estop, s.notices.parkDetail.trip]) ++
    flagByte s.notices.parkDetail.sag ++ leBytes 4 (bitmapOf s.notices.parkDetail.faulted.toList) ++
    leBytes 1 (restartCode s.notices.parkDetail.restart) ++
    s.notices.fieldDetail.conditions.toList.flatMap (fun c => leBytes 1 c.code) ++
    flagByte s.notices.fieldDetail.meterSilent ++ flagByte s.notices.fieldDetail.busOff

end Sys2Proof.Machine
end

