-- ==== Sys2Proof/Machine/ControlRequests.lean ====
section
/-! DEFINITION. The requests of Restart Control and the Park Clock: COMMISSION (R178), CONFIGURE (R179), TIME-SET (R181), RESTART
(R183). -/

namespace Sys2Proof.Machine

/-! ### COMMISSION (R177, R178) -/

/-- The commissioning record a body spells: ceiling, module rating, pedestal ratings, reach windows (R188). -/
def commissioningAt (body : List Byte) : Commissioning :=
  { ceiling := fieldAt body 0 2
    rating := fieldAt body 2 1
    ratings := Vector.ofFn fun p => fieldAt body (3 + 2 * p.val) 2
    windows := Vector.ofFn fun m => { first := fieldAt body (35 + 2 * m.val) 1, last := fieldAt body (36 + 2 * m.val) 1 } }

/-- Check 2 of R178. -/
def Commissioning.powersInRange (c : Commissioning) : Bool :=
  50 ≤ c.ceiling && c.ceiling ≤ 2000 && 10 ≤ c.rating && c.rating ≤ 60

/-- Check 3 of R178, for one pedestal. -/
def ratingInRange (kw : Nat) : Bool := kw == 0 || (50 ≤ kw && kw ≤ 500)

/-- Check 4 of R178, for one module. -/
def Window.inRange (w : Window) : Bool := w.first ≤ 16 && w.last ≤ 16 && (!w.usable || 1 ≤ w.first)

/-- Checks 2 to 4 of R178. -/
def Commissioning.inRange (c : Commissioning) : Bool :=
  c.powersInRange && c.ratings.toList.all ratingInRange && c.windows.toList.all Window.inRange

/-- A module at commissioning: FREE with a usable window, ABSENT otherwise (R112, R178 step 2). -/
def commissionedModule (w : Window) : ModuleRecord :=
  { ModuleRecord.cold with state := if w.usable then .free else .absent, window := w }

/-- The owner's part of COMMISSION (R178). -/
def State.commission (s : State) (body : List Byte) : Taken :=
  let c := commissioningAt body
  if s.control.commissioned then refuse .locked s
  else if c.inRange = false then refuse .range s
  else
    accept []
      { s with
        control := { s.control with commissioned := true, record := c }
        modules := Vector.ofFn fun m => commissionedModule c.windows[m.val]
        alloc := { s.alloc with gridCap := c.ceiling, stagedGridCap := none, periodTimer := s.after s.params.periodMs } }

/-- COMMISSION (R178). -/
def execCommission (s : State) : Result := takeRequest .commission s fun r s => s.commission r.body

/-! ### CONFIGURE (R179) -/

/-- The parameters a configuration body spells (R188). -/
def paramsAt (body : List Byte) : Params :=
  { periodMs := fieldAt body 0 2
    reportTimeoutS := fieldAt body 2 1
    authWaitS := fieldAt body 3 2
    startWaitS := fieldAt body 5 1
    resumeWindowS := fieldAt body 6 2
    extensionWindowS := fieldAt body 8 2
    topUpPercent := fieldAt body 10 1
    prechargeMs := fieldAt body 11 2
    contactMs := fieldAt body 13 2
    rampMs := fieldAt body 15 2
    filterLength := fieldAt body 17 1
    sagEnable := fieldAt body 18 1 == 1
    sagIndex := fieldAt body 19 1
    deratePercent := fieldAt body 20 1
    recoveryHoldS := fieldAt body 21 1 }

/-- A value in a range. -/
def within (low high n : Nat) : Bool := low ≤ n && n ≤ high

/-- Every parameter in its range and on its step (R179). -/
def Params.inRange (c : Params) : Bool :=
  within 200 2000 c.periodMs && c.periodMs % 100 == 0 && within 1 10 c.reportTimeoutS && within 30 600 c.authWaitS &&
    within 10 120 c.startWaitS && within 10 300 c.resumeWindowS && within 30 600 c.extensionWindowS &&
    within 50 99 c.topUpPercent && within 50 1000 c.prechargeMs && within 100 2000 c.contactMs &&
    within 100 5000 c.rampMs && within 2 16 c.filterLength && within 1 15 c.sagIndex && within 10 100 c.deratePercent &&
    c.deratePercent % 10 == 0 && within 5 120 c.recoveryHoldS

/-- The owner's part of CONFIGURE (R179); a changed sag enable acts at once (R140). -/
def State.configure (s : State) (body : List Byte) : Taken :=
  let c := paramsAt body
  if c.inRange ∧ fieldAt body 18 1 ≤ 1 then
    accept [] ({ s with control := { s.control with params := c } }.sagConfigured s.params.sagEnable)
  else refuse .range s

/-- CONFIGURE (R179). -/
def execConfigure (s : State) : Result := takeRequest .configure s fun r s => s.configure r.body

/-! ### TIME-SET (R181) -/

/-- The owner's part of TIME-SET (R181). The last stamped minute is not set. -/
def State.timeSet (s : State) (body : List Byte) : Taken :=
  let minute := fieldAt body 2 2
  if minute < Config.minutesPerDay then
    accept [] { s with clock := { s.clock with day := fieldAt body 0 2, minute := minute, zeroAt := s.now, valid := true } }
  else refuse .range s

/-- TIME-SET (R181). -/
def execTimeSet (s : State) : Result := takeRequest .timeSet s fun r s => s.timeSet r.body

/-! ### RESTART (R183) -/

/-- RESTART (R183): the restart begins when its reply, which goes to the tail of the output, and every record ahead of it have been
transmitted. -/
def execRestart (s : State) : Result :=
  takeRequest .restart s fun _ s =>
    accept [] { s with host := { s.host with restartAfter := some (s.host.output.length + 1) } }

end Sys2Proof.Machine
end

