-- ==== Sys2Proof/Machine/HostEvents.lean ====
section
/-! DEFINITION. The meanings of the host link's events: received bytes (R164, R165), the frame timer (R164) and the end of a record's
transmission (R168). -/

namespace Sys2Proof.Machine

/-- Bytes reach the receiver; each good frame among them arrives as a request or is discarded (R164, R165). -/
def execHostFrameReceived (bytes : List RxByte) (s : State) : Result :=
  occur s fun s =>
    match bytes.getLast? with
    | none => none
    | some latest => some ((s.advance latest.time).takeBytes s.host.receiver bytes)

/-- A byte of 0xA5 reaches the receiver: in HUNTING it starts a frame, with the frame timer running from its arrival (R164). -/
def execFrameSyncReceived (time : Nat) (s : State) : Result :=
  occur s fun s =>
    some ((s.advance time).takeBytes s.host.receiver [{ value := Config.syncByte, framingError := false, time := time }])

/-- The frame timer expires in COLLECTING: the frame is bad, and the bytes behind its sync are examined again (R164). -/
def execFrameTimerExpiry (s : State) : Result :=
  occur s fun s =>
    match s.host.receiver with
    | .hunting => none
    | .collecting t got => some ((s.advance (t + Config.frameMs)).takeBytes .hunting got)

/-- The record at the head of the output has been transmitted and leaves it (R168); a requested restart comes one record nearer
(R183). -/
def State.recordSent (s : State) (r : HostRecord) (rest : List HostRecord) : State :=
  { s with host :=
      { s.host with
        output := rest, hostTx := r.wire, restartAfter := s.host.restartAfter.map fun n => n - 1 } }

/-- The record at the head of the output is transmitted whole (R168). Once the reply to RESTART has gone, nothing further is sent
before the restart (R183). -/
def execOutputRecordSent (time : Nat) (s : State) : Result :=
  occur s fun s =>
    match s.host.output with
    | [] => none
    | r :: rest => if s.host.restartAfter = some 0 then none else some ((s.advance time).recordSent r rest)

end Sys2Proof.Machine
end

