-- ==== Sys2Proof/Machine/PedestalRequests.lean ====
section
/-! DEFINITION. The requests of the Field Link Controller: PEDESTAL-RESTART (R156, R38) and PEDESTAL-QUERY (R158). -/

namespace Sys2Proof.Machine

/-- A taken PEDESTAL-RESTART: steps 1 to 4 of R156. -/
def State.restartPedestal (s : State) (p : Pedestal) : State :=
  (((s.advanceEpoch p).placeOrder (.reset p)).endQuery p .pedestalReset []).restartOrdered p

/-- The owner's part of PEDESTAL-RESTART (R156). -/
def State.pedestalRestart (s : State) (body : List Byte) : Taken :=
  match pedestalOf (fieldAt body 0 1) with
  | none => refuse .range s
  | some p =>
    if s.control.commissioned = false then refuse .notCommissioned s
    else if s.rating p = 0 then refuse .range s
    else accept [] (s.restartPedestal p).startTransmit

/-- PEDESTAL-RESTART (R156). -/
def execPedestalRestart (s : State) : Result := takeRequest .pedestalRestart s fun r s => s.pedestalRestart r.body

/-- A taken PEDESTAL-QUERY (R158): the PD-QUERY is placed, the pending query recorded and its timer started. -/
def State.askPedestal (s : State) (p : Pedestal) (tag code : Byte) : State :=
  let l := s.link p
  (s.placeOrder (.query p l.epoch code)).setLink p
    { l with query := some { tag := tag, code := code, epoch := l.epoch, sent := false }, queryTimer := s.after Config.queryMs }

/-- The owner's part of PEDESTAL-QUERY (R158). A taken query has no reply now (R167). -/
def State.pedestalQuery (s : State) (tag : Byte) (body : List Byte) : Taken :=
  match pedestalOf (fieldAt body 0 1) with
  | none => refuse .range s
  | some p =>
    if (s.link p).query.isSome then refuse .busy s
    else if (s.link p).state ≠ .up then refuse .linkDown s
    else if (s.unsentAt (.other p)).isSome then refuse .busy s
    else ((s.askPedestal p tag (body.getD 1 0)).startTransmit, none)

/-- PEDESTAL-QUERY (R158). -/
def execPedestalQuery (s : State) : Result :=
  takeRequest .pedestalQuery s fun r s => s.pedestalQuery r.tag r.body

end Sys2Proof.Machine
end

