-- ==== Sys2Proof/Machine/PortRequests.lean ====
section
/-! DEFINITION. The requests that the Host Link Port itself owns: IDENTIFY, PARK-STATUS, NOTICE-STATUS, NOTICE-MASK, STATUS-CLEAR
(R171 to R175), and the taking of an unknown kind (R166). -/

namespace Sys2Proof.Machine

/-- IDENTIFY (R174). -/
def execIdentify (s : State) : Result := takeRequest .identify s fun _ s => accept s.identityBytes s

/-- PARK-STATUS (R175). -/
def execParkStatus (s : State) : Result := takeRequest .parkStatus s fun _ s => accept s.parkBytes s

/-- NOTICE-STATUS (R173). -/
def execNoticeStatus (s : State) : Result := takeRequest .noticeStatus s fun _ s => accept s.noticeBytes s

/-- One class takes its new mask bit (R171): from masked to unmasked with the pending flag set, its notice is sent and the flag
cleared. -/
def State.maskClass (s : State) (c : NoticeClass) (masked : Bool) : State :=
  let f := s.notices.flags c
  if f.masked ∧ f.pending ∧ masked = false then
    (s.setFlags c { f with masked := false, pending := false }).pushOutput (noticeRecord c)
  else s.setFlags c { f with masked := masked }

/-- The mask bit of a class in a mask bitmap: bits 0 to 4 in the order of the classes (R186). -/
def maskBit (map : Nat) (c : NoticeClass) : Bool := map.testBit (c.code - 1)

/-- The five classes take their mask bits, in the order of R171. -/
def State.maskClasses (s : State) (map : Nat) : State := allClasses.foldl (fun s c => s.maskClass c (maskBit map c)) s

/-- NOTICE-MASK (R171); spare bits are ignored (R186). -/
def execNoticeMask (s : State) : Result :=
  takeRequest .noticeMask s fun r s => accept [] (s.maskClasses (fieldAt r.body 0 1))

/-- The detail of a class is emptied (R172); for SESSION it is the changed flags. -/
def State.clearDetail (s : State) : NoticeClass → State
  | .session => { s with slots := Vector.ofFn fun p => { s.slot p with changed := false } }
  | .settle => s
  | .hold => { s with notices := { s.notices with holdDetail := Vector.replicate 16 false } }
  | .park => { s with notices := { s.notices with parkDetail := .empty } }
  | .field => { s with notices := { s.notices with fieldDetail := .empty } }

/-- A class's latch, detail and pending flag are cleared; its mask stays (R172). -/
def State.clearClass (s : State) (c : NoticeClass) : State :=
  (s.clearDetail c).setFlags c { s.notices.flags c with latch := false, pending := false }

/-- The owner's part of STATUS-CLEAR (R172). -/
def State.statusClear (s : State) (body : List Byte) : Taken :=
  match noticeClassOf (fieldAt body 0 1) with
  | none => refuse .range s
  | some c => accept [] (s.clearClass c)

/-- STATUS-CLEAR (R172). -/
def execStatusClear (s : State) : Result := takeRequest .statusClear s fun r s => s.statusClear r.body

/-- The taking of a request whose kind is none of chapter 12 (R166). -/
def execBadKind (s : State) : Result :=
  match s.headRequest with
  | none => .next s
  | some r => if isRequestKind r.kind then .next s else .next (s.dropHead.reply r (some { code := .badKind }))

end Sys2Proof.Machine
end

