-- ==== Sys2Proof/Machine/PowerRequests.lean ====
section
/-! DEFINITION. The requests of the Apportioner, the Protection Unit and the Module Switch Controller: SESSION-CAP (R106), CURTAIL
(R105), CUTOFF-CLEAR (R136), MODULE-READ (R126), MODULE-RETURN (R125). -/

namespace Sys2Proof.Machine

/-- The owner's part of SESSION-CAP (R106). -/
def State.sessionCap (s : State) (body : List Byte) : Taken :=
  match s.findSession (fieldAt body 0 4) with
  | none => refuse .unknownSession s
  | some p =>
    match capOfCode (fieldAt body 4 2) with
    | none => refuse .range s
    | some cap => accept [] (s.setAllot p { s.allot p with stagedCap := some cap })

/-- SESSION-CAP (R106). -/
def execSessionCap (s : State) : Result := takeRequest .sessionCap s fun r s => s.sessionCap r.body

/-- A taken CURTAIL: a cap no higher than the one in force acts at once, a higher one is staged (R105). -/
def State.curtailTo (s : State) (cap : Nat) : State :=
  if cap ≤ s.alloc.gridCap then
    { s with alloc := { s.alloc with gridCap := cap, stagedGridCap := none } }.considerReduction
  else { s with alloc := { s.alloc with stagedGridCap := some cap } }

/-- The owner's part of CURTAIL (R105). -/
def State.curtail (s : State) (body : List Byte) : Taken :=
  let cap := fieldAt body 0 2
  if s.control.commissioned = false then refuse .notCommissioned s
  else if s.control.record.ceiling < cap then refuse .range s
  else accept [] (s.curtailTo cap).startTransmit

/-- CURTAIL (R105). -/
def execCurtail (s : State) : Result := takeRequest .curtail s fun r s => s.curtail r.body

/-- The owner's part of CUTOFF-CLEAR (R136). -/
def State.cutoffClear (s : State) : Taken :=
  if s.prot.estop.asserted ∨ s.prot.trip.asserted then refuse .cutoffActive s
  else if s.prot.latch then accept [] s.clearCutoff
  else accept [] s

/-- CUTOFF-CLEAR (R136). -/
def execCutoffClear (s : State) : Result := takeRequest .cutoffClear s fun _ s => s.cutoffClear

/-- The owner's part of MODULE-READ (R126). -/
def State.moduleRead (s : State) (body : List Byte) : Taken :=
  match moduleOf (fieldAt body 0 1) with
  | none => refuse .range s
  | some m => accept (s.moduleBytes m) s

/-- MODULE-READ (R126). -/
def execModuleRead (s : State) : Result := takeRequest .moduleRead s fun r s => s.moduleRead r.body

/-- A FAULTED module is returned: its fault and forced mark are cleared and it is opened, naming the first pedestal of its window
(R111, R125). -/
def State.returnModule (s : State) (m : ModuleNo) : State :=
  let r := s.module m
  (s.setModule m { r with fault := none, forced := false, assigned := pedestalOf r.window.first }).openContactor m

/-- The owner's part of MODULE-RETURN (R125). -/
def State.moduleReturn (s : State) (body : List Byte) : Taken :=
  match moduleOf (fieldAt body 0 1) with
  | none => refuse .range s
  | some m => if (s.module m).state = .faulted then accept [] (s.returnModule m).startTransmit else refuse .state s

/-- MODULE-RETURN (R125). -/
def execModuleReturn (s : State) : Result := takeRequest .moduleReturn s fun r s => s.moduleReturn r.body

end Sys2Proof.Machine
end

