-- ==== Sys2Proof/Machine/SessionRequests.lean ====
section
/-! DEFINITION. The requests of the Session Controller and the Settlement Queue: AUTHORISE (R7, R8, R9, R55), DENY (R10), EXTEND-HOLD
(R34, R72), STOP (R14), SESSION-READ (R21), PEDESTAL-MODE (R19), SETTLE-READ (R81), SETTLE-FREE (R82). -/

namespace Sys2Proof.Machine

/-! ### AUTHORISE -/

/-- The optional cap of an AUTHORISE: presence byte and value, or out of range (R186). -/
def optCapAt (body : List Byte) (off : Nat) : Option Cap :=
  match fieldAt body off 1 with
  | 0 => some none
  | 1 => if fieldAt body (off + 1) 2 ≤ Config.powerLimit then some (some (fieldAt body (off + 1) 2)) else none
  | _ => none

/-- The ACTIVE tariff slot of a number, if it names one (R7 check 5). -/
def State.activeTariff (s : State) (n : Nat) : Option TariffNo :=
  (tariffOf n).filter fun t => (s.tariff t).state == .active

/-- The hold is in range (R7 check 6). -/
def holdInRange (hold : Nat) : Bool := 1 ≤ hold && hold ≤ Config.holdLimit

/-- The checks of R7 in order: the first refusal, or the tariff slot and the cap. -/
def State.authoriseChecks (s : State) (p : Pedestal) (tariff hold : Nat) (cap : Option Cap) :
    ResultCode ⊕ TariffNo × Cap :=
  if s.control.commissioned = false then .inl .notCommissioned
  else if s.clock.valid = false then .inl .timeInvalid
  else if (s.slot p).state ≠ .plugged then .inl .state
  else if (s.link p).state ≠ .up then .inl .linkDown
  else
    match s.activeTariff tariff, cap with
    | none, _ => .inl .noTariff
    | some _, none => .inl .range
    | some t, some cap =>
      if holdInRange hold = false then .inl .range
      else if Config.settlementPlaces ≤ s.openCount + s.settlements.length then .inl .queueFull
      else if s.exhausted then .inl .limit
      else .inr (t, cap)

/-- The accrual record opened at authorisation (R55). -/
def openedAccrual (base : Option Nat) (hold : Nat) : Accrual :=
  { base := base, last := base.getD 0, energy := 0, buckets := Vector.replicate 5 0, energyAmount := 0, timeAmount := 0
    idleAmount := 0, fee := 0, chargingMinutes := 0, idleMinutes := 0, grace := 0, hold := hold, topUps := 0
    topUpRequested := false, holdReached := false, strikes := 0, previousArrival := none, previousSetpoint := 0 }

/-- The base register at authorisation: the last accepted register, if one was accepted since the link last came UP (R8 step 4). -/
def Link.baseRegister (l : Link) : Option Nat := if l.fresh then l.register else none

/-- The session opened on a pedestal: steps 1 to 4, 6 and 9 of R8. -/
def State.openedSession (s : State) (p : Pedestal) (t : TariffNo) (hold : Nat) : Session :=
  { number := s.nextSession, tariff := t, version := (s.tariff t).version
    startDay := s.clock.day, startMinute := s.clock.minute, request := none, reasons := .none, finishCause := none
    endOrdered := false, startWait := s.after (s.params.startWaitS * 1000), resumeWindow := none, extensionWindow := none
    interruptions := [], overflow := 0, accrual := openedAccrual (s.link p).baseRegister hold }

/-- The next session number is issued: one is added, and after the last number the numbers are exhausted (R9). That the count stays at
4,294,967,295 beside the exhausted flag is the model's choice (DESIGN CHOICE, log 27): R9 gives it no further value. -/
def State.issueNumber (s : State) : State :=
  if s.nextSession < 4294967295 then { s with nextSession := s.nextSession + 1 } else { s with exhausted := true }

/-- A session is opened on a pedestal: the steps of R8. -/
def State.openSession (s : State) (p : Pedestal) (t : TariffNo) (hold : Nat) (cap : Cap) : State :=
  let e := s.openedSession p t hold
  let s := ((s.issueNumber).setReferences t fun n => n + 1).stamp
  let s := s.setAllot p { s.allot p with stagedCap := some cap }
  let s := s.setSlot p { s.slot p with session := some e, authWait := none }
  (s.goTo p .starting).placeOrder (.beginSession p (e.number % 65536))

/-- The owner's part of AUTHORISE (R7, R8). -/
def State.authorise (s : State) (body : List Byte) : Taken :=
  match pedestalOf (fieldAt body 0 1) with
  | none => refuse .range s
  | some p =>
    let hold := fieldAt body 2 4
    match s.authoriseChecks p (fieldAt body 1 1) hold (optCapAt body 6) with
    | .inl code => refuse code s
    | .inr (t, cap) => accept (leBytes 4 s.nextSession) (s.openSession p t hold cap).startTransmit

/-- AUTHORISE (R8). -/
def execAuthorise (s : State) : Result := takeRequest .authorise s fun r s => s.authorise r.body

/-! ### DENY and STOP -/

/-- The owner's part of DENY (R10). -/
def State.deny (s : State) (body : List Byte) : Taken :=
  match pedestalOf (fieldAt body 0 1) with
  | none => refuse .range s
  | some p => if (s.slot p).state = .plugged then accept [] (s.refuseSlot p).startTransmit else refuse .state s

/-- DENY (R10). -/
def execDeny (s : State) : Result := takeRequest .deny s fun r s => s.deny r.body

/-- The owner's part of STOP (R14). -/
def State.stop (s : State) (body : List Byte) : Taken :=
  match s.findSession (fieldAt body 0 4) with
  | none => refuse .unknownSession s
  | some p =>
    if (s.slot p).state = .finished then refuse .state s else accept [] (s.finish p .hostStop).startTransmit

/-- STOP (R14). -/
def execStop (s : State) : Result := takeRequest .stop s fun r s => s.stop r.body

/-! ### EXTEND-HOLD -/

/-- The new hold of an extended session, one more top-up, and both flags clear (R72 steps 1 to 3). -/
def Accrual.extend (hold : Nat) (a : Accrual) : Accrual :=
  { a with hold := hold, topUps := a.topUps + 1, topUpRequested := false, holdReached := false }

/-- HOLD is removed from a set that holds it, and the extension window stops (R34). -/
def Session.withoutHold (e : Session) : Session :=
  if e.reasons.hold then { e with reasons := e.reasons.remove .hold, extensionWindow := none } else e

/-- A taken EXTEND-HOLD (R34, R72): HOLD is removed before the rerun can add it again, and the set is judged by what is left. -/
def State.extendSession (s : State) (p : Pedestal) (hold : Nat) : State :=
  let s := (s.modifyAccrual p (Accrual.extend hold)).modifySession p Session.withoutHold
  (s.compareHold p).judge p

/-- The owner's part of EXTEND-HOLD (R34). -/
def State.extendHold (s : State) (body : List Byte) : Taken :=
  let hold := fieldAt body 4 4
  match s.findSession (fieldAt body 0 4) with
  | none => refuse .unknownSession s
  | some p =>
    match (s.slot p).session with
    | none => refuse .unknownSession s
    | some e =>
      if hold ≤ e.accrual.hold ∨ Config.holdLimit < hold then refuse .range s
      else if Config.topUpLimit ≤ e.accrual.topUps then refuse .limit s
      else accept [] (s.extendSession p hold).startTransmit

/-- EXTEND-HOLD (R34). -/
def execExtendHold (s : State) : Result := takeRequest .extendHold s fun r s => s.extendHold r.body

/-! ### SESSION-READ and PEDESTAL-MODE -/

/-- The owner's part of SESSION-READ (R21). -/
def State.sessionRead (s : State) (body : List Byte) : Taken :=
  match pedestalOf (fieldAt body 0 1) with
  | none => refuse .range s
  | some p => accept (s.snapshotBytes p) s

/-- SESSION-READ (R21). -/
def execSessionRead (s : State) : Result := takeRequest .sessionRead s fun r s => s.sessionRead r.body

/-- The mode a PEDESTAL-MODE leaves, by the mode requested and the slot's state; none where it is refused with STATE (R19). -/
def modeTaken (requested : PedestalMode) (st : SlotState) : Option PedestalMode :=
  match requested, st with
  | .inService, _ => some .inService
  | .closingDown, .vacant => some .outOfService
  | .closingDown, _ => some .closingDown
  | .outOfService, .vacant => some .outOfService
  | .outOfService, .waitUnplug => some .outOfService
  | .outOfService, _ => none

/-- The owner's part of PEDESTAL-MODE (R19). -/
def State.pedestalMode (s : State) (body : List Byte) : Taken :=
  match pedestalOf (fieldAt body 0 1), pedestalModeOf (fieldAt body 1 1) with
  | some p, some requested =>
    match modeTaken requested (s.slot p).state with
    | some mode => accept [] (s.setSlot p { s.slot p with mode := mode })
    | none => refuse .state s
  | _, _ => refuse .range s

/-- PEDESTAL-MODE (R19). -/
def execPedestalMode (s : State) : Result := takeRequest .pedestalMode s fun r s => s.pedestalMode r.body

/-! ### SETTLE-READ and SETTLE-FREE -/

/-- The owner's part of SETTLE-READ (R81). -/
def State.settleRead (s : State) : Taken :=
  match s.settlements with
  | [] => refuse .empty s
  | head :: _ => accept (leBytes 1 s.settlements.length ++ head.bytes) s

/-- SETTLE-READ (R81). -/
def execSettleRead (s : State) : Result := takeRequest .settleRead s fun _ s => s.settleRead

/-- The owner's part of SETTLE-FREE (R82). -/
def State.settleFree (s : State) (body : List Byte) : Taken :=
  match s.settlements with
  | [] => refuse .empty s
  | head :: rest =>
    if head.number = fieldAt body 0 4 then accept (leBytes 1 rest.length) { s with settlements := rest }
    else refuse .mismatch s

/-- SETTLE-FREE (R82). -/
def execSettleFree (s : State) : Result := takeRequest .settleFree s fun r s => s.settleFree r.body

end Sys2Proof.Machine
end

