-- ==== Sys2Proof/Machine/Restart.lean ====
section
/-! DEFINITION. Restart Control (R182, R184, R185): the restart sequence as a list of actions, each whole, so that an interruption can
abandon it between two of them (log 11), and what a loss of main supply leaves (R182, log 12). -/

namespace Sys2Proof.Machine

/-! ### The steps of R184, for a supply and a commanded restart -/

/-- Step 1, for one session: its close with close cause RESTART (R22). -/
def closeAction (p : Pedestal) (s : State) : State := s.closeSession p .restart

/-- Step 2: every slot becomes VACANT; CLOSING_DOWN becomes OUT_OF_SERVICE (R24). -/
def State.restartSlots (s : State) : State :=
  { s with slots := Vector.ofFn fun p => { Slot.cold with mode := (s.slot p).mode.closed } }

/-- Step 3: both host queues are emptied and the receiver hunts (R176). -/
def State.restartHost (s : State) : State := { s with host := .cold }

/-- Step 4: the field transmit queue and the buffer are emptied, and the CAN controller is on the bus (R162). -/
def State.restartField (s : State) : State := { s with field := { FieldLink.cold with links := s.field.links } }

/-- Step 5: every link goes to NEVER with its epoch advanced by one, and a pending query goes without reply (R162). -/
def State.restartLinks (s : State) : State :=
  { s with field :=
      { s.field with links := Vector.ofFn fun p : Pedestal => { Link.cold with epoch := (s.link p).epoch + 1 } } }

/-- A module at a supply or commanded restart (R130): the pool holds a pedestal only where it has outlived the restart, which it does
not at a supply restart (log 12). -/
def State.restartedModule (s : State) (m : ModuleNo) : ModuleRecord :=
  let w := s.control.record.windows[m.val]
  if s.control.commissioned ∧ w.usable then
    { state := .contactOpen
      window := w
      assigned := match (s.module m).assigned with
        | some p => some p
        | none => pedestalOf w.first
      timer := s.contactTimer
      releaseOnClose := false
      forced := true
      fault := none }
  else { ModuleRecord.cold with window := w }

/-- An MD-OPEN for a module that the restart opens. -/
def openAction (s : State) (m : ModuleNo) : State :=
  if (s.module m).state = .contactOpen then s.placeOrder (.openContact m) else s

/-- Step 6: every commissioned module is forced open, with one MD-OPEN each in ascending number (R130). -/
def State.restartModules (s : State) : State :=
  allModules.foldl openAction { s with modules := Vector.ofFn s.restartedModule }

/-- Step 7: the Apportioner's restart values; the grid cap in force stays (R109). -/
def State.restartApportioner (s : State) : State := { s with alloc := { Apportioner.cold with gridCap := s.alloc.gridCap } }

/-- Step 8: the sag monitor (R145). -/
def State.restartSag (s : State) : State :=
  { s with prot :=
      { s.prot with settling := 3, live := .unknown, derate := false, recoveryHold := none, silence := none } }

/-- Step 9: the cutoff latch, its source set and both lines (R132, R137). -/
def State.restartLatch (s : State) : State :=
  { s with prot :=
      { s.prot with estop := Protection.cold.estop, trip := Protection.cold.trip, latch := true
                    sources := Protection.cold.sources } }

/-- The notice unit after a restart: everything cleared and masked, then PARK set and pending with the restart kind, and SETTLE set and
pending if records are queued (R176). -/
def restartedNotices (kind : RestartKind) (records : Bool) : NoticeUnit :=
  { NoticeUnit.cleared with
    settle := { latch := records, masked := true, pending := records }
    park := { latch := true, masked := true, pending := true }
    parkDetail := { ParkDetail.empty with restart := some kind } }

/-- Step 10: the notice unit, and the kind of the last restart (R176, R182). -/
def State.restartNotices (s : State) (kind : RestartKind) : State :=
  { s with
    notices := restartedNotices kind (!s.settlements.isEmpty)
    control := { s.control with lastKind := kind } }

/-- The sequence has ended: the period timer starts if the part is commissioned, events are taken again, and the first order is
transmitted (R109, R151, R184). -/
def State.endRestart (s : State) : State :=
  { s with
    alloc := { s.alloc with periodTimer := if s.control.commissioned then s.after s.params.periodMs else none }
    control := { s.control with restarting := false } }.startTransmit

/-- Steps 2 to 10 and the end of the sequence, for a supply or a commanded restart. -/
def restartSteps (kind : RestartKind) : List (State → State) :=
  [State.restartSlots, State.restartHost, State.restartField, State.restartLinks, State.restartModules,
   State.restartApportioner, State.restartSag, State.restartLatch, fun s => s.restartNotices kind, State.endRestart]

/-! ### The cold start -/

/-- The retained store and every other value of a block that has lost it take their cold-start values (R23, R52, R85, R108, R129, R161,
R177, R179, R180, R182). The marker is written at the end. A cold start finds the store lost, so this comes before its first step and
no interruption leaves anything of it (R184, R185, log 11). -/
def State.coldStore (s : State) : State :=
  { State.reset with
    pending := s.pending
    now := s.now
    notices := s.notices
    prot := s.prot
    host := s.host
    clock := { State.reset.clock with zeroAt := s.now }
    control :=
      { RestartControl.cold with
        marker := s.control.marker, lastKind := s.control.lastKind, straps := s.control.straps
        mainPresent := s.control.mainPresent, backupPresent := s.control.backupPresent
        restarting := s.control.restarting } }

/-- The end of a cold start: the marker is written and events are taken (R182, R184). -/
def State.endCold (s : State) : State := { s with control := { s.control with marker := true, restarting := false } }

/-- The steps of a cold start behind the loss of the store: steps 3 to 10 of R184; steps 4 to 7 are among the values that
`State.coldStore` has set. -/
def coldSteps : List (State → State) :=
  [State.restartHost, State.restartSag, State.restartLatch, fun s => s.restartNotices .cold, State.endCold]

/-! ### Running a sequence -/

/-- Run a sequence, or its first actions where an interruption abandons it (R185). -/
def runSteps (cut : Option Nat) (steps : List (State → State)) (s : State) : State :=
  let taken := match cut with
    | none => steps
    | some k => steps.take k
  taken.foldl (fun s step => step s) s

/-- A sequence begins: the straps are read, no event is taken until it ends, and a restart awaiting its reply is over. -/
def State.beginRestart (s : State) (straps : BitVec 2) : State :=
  { s with
    control := { s.control with straps := straps, restarting := true }
    host := { s.host with restartAfter := none } }

/-- A supply or commanded restart: the closes of the open sessions in ascending session number, then the other steps (R22, R184). -/
def State.restart (s : State) (kind : RestartKind) (straps : BitVec 2) (cut : Option Nat) : State :=
  let s := s.beginRestart straps
  runSteps cut (s.openBySession.map closeAction ++ restartSteps kind) s

/-- A cold start (R182, R184). -/
def State.coldStart (s : State) (straps : BitVec 2) (cut : Option Nat) : State :=
  runSteps cut coldSteps (s.beginRestart straps).coldStore

/-! ### The supplies (R180, R182) -/

/-- The clock after an outage: day, minute and seconds have counted on, nothing was stamped, and the time is invalid (R180). -/
def ParkClock.afterOutage (c : ParkClock) (now : Nat) : ParkClock :=
  let passed := (now - c.zeroAt) / 60000
  let total := c.day * Config.minutesPerDay + c.minute + passed
  { c with
    day := total / Config.minutesPerDay % 65536
    minute := total % Config.minutesPerDay
    zeroAt := c.zeroAt + passed * 60000
    valid := false }

/-- The main supply returns: a supply restart where the marker is intact, a cold start where it is not (R182). A backup supply that is
missing at the return has been absent together with the main supply, so the marker is lost (00_scope.md section 7). -/
def State.supplyReturn (s : State) (outage : Nat) (straps : BitVec 2) (backup : Bool) (cut : Option Nat) : State :=
  let now := s.now + outage
  let s :=
    { s with
      now := now
      clock := s.clock.afterOutage now
      control := { s.control with mainPresent := true, backupPresent := backup, marker := s.control.marker && backup } }
  if s.control.marker then s.restart .supply straps cut else s.coldStart straps cut

/-- The main supply is lost: the retained store, the epochs among it, is kept on the backup supply; the marker is lost where that is
absent too; everything outside the store is gone (R182, log 12). Whether the backup supply is present is judged at the loss: one that
was missing earlier may have been fitted since (00_scope.md section 7, log 10). -/
def State.supplyLost (s : State) (backup : Bool) : State :=
  { s with
    alloc := { Apportioner.cold with gridCap := s.alloc.gridCap }
    modules := Vector.replicate 32 ModuleRecord.cold
    prot := .cold
    field :=
      { FieldLink.cold with links := Vector.ofFn fun p : Pedestal => { Link.cold with epoch := (s.link p).epoch } }
    host := .cold
    notices := .cleared
    control :=
      { s.control with
        mainPresent := false, backupPresent := backup, marker := s.control.marker && backup, restarting := false } }

end Sys2Proof.Machine
end

