-- ==== Sys2Proof/Machine/SupplyEvents.lean ====
section
/-! DEFINITION. The meanings of the events on the safety lines (R131, R134, R135), the reset line and the two supplies (R182 to R185). -/

namespace Sys2Proof.Machine

/-! ### Safety lines -/

/-- A run of low samples of a line: its filter accepts an assertion when the most recent N are low (R131, R134). -/
def execLineAssertionAccepted (time : Nat) (line : SafetyLine) (lows : Nat) (s : State) : Result :=
  occur s fun s => if lows = 0 then none else some ((s.advance time).sampleLow line lows)

/-- A run of high samples of a line: its filter accepts a release when the most recent N are high (R131, R135). -/
def execLineReleaseAccepted (time : Nat) (line : SafetyLine) (highs : Nat) (s : State) : Result :=
  occur s fun s => if highs = 0 then none else some ((s.advance time).sampleHigh line highs)

/-! ### Supplies and restarts -/

/-- The main supply returns (R182); it cannot return while it is present. -/
def execMainSupplyReturn (outage : Nat) (straps : BitVec 2) (backup : Bool) (cut : Option Nat) (s : State) : Result :=
  if s.control.mainPresent then .next s else .next (s.supplyReturn outage straps backup cut)

/-- The main supply is lost (R182, R185); it cannot be lost while it is absent. -/
def execMainSupplyLoss (loss : SupplyLoss) (s : State) : Result :=
  if s.control.mainPresent then .next ((s.advance loss.time).supplyLost loss.backup) else .next s

/-- A pulse on RESET_N starts a commanded restart at once, also during a restart sequence (R182, R183, R185). -/
def execResetLinePulse (time : Nat) (straps : BitVec 2) (cut : Option Nat) (s : State) : Result :=
  if s.control.mainPresent then .next ((s.advance time).restart .commanded straps cut) else .next s

/-- The commanded restart of a RESTART request begins once its reply has been transmitted (R183). -/
def execCommandedRestartBegin (straps : BitVec 2) (cut : Option Nat) (s : State) : Result :=
  if s.isLive ∧ s.host.restartAfter = some 0 then .next (s.restart .commanded straps cut) else .next s

/-- The backup supply is lost: the retained store marker goes where the main supply is absent too (R182). -/
def execBackupSupplyLoss (s : State) : Result :=
  .next
    { s with control :=
        { s.control with backupPresent := false, marker := s.control.marker && s.control.mainPresent } }

end Sys2Proof.Machine
end

