-- ==== Sys2Proof/Machine/TariffRequests.lean ====
section
/-! DEFINITION. The requests of the Tariff Store: TARIFF-LOAD (R45, R46), TARIFF-RETIRE (R47), TARIFF-READ (R48). -/

namespace Sys2Proof.Machine

/-- Checks 3 and 4 of R45: the idle grace and the eight band minutes. -/
def TariffContents.inRange (c : TariffContents) : Bool :=
  c.grace ≤ 60 && c.bands.toList.all fun b => b.start < Config.minutesPerDay && b.stop < Config.minutesPerDay

/-- The owner's part of TARIFF-LOAD (R43, R45, R46). -/
def State.tariffLoad (s : State) (body : List Byte) : Taken :=
  match tariffOf (fieldAt body 0 1) with
  | none => refuse .range s
  | some t =>
    let x := s.tariff t
    let c := contentsAt body 1
    if x.references ≠ 0 then refuse .inUse s
    else if c.inRange = false then refuse .range s
    else
      accept (leBytes 2 (x.version + 1).toNat)
        (s.setTariff t { x with state := .active, version := x.version + 1, contents := c })

/-- TARIFF-LOAD (R46). -/
def execTariffLoad (s : State) : Result := takeRequest .tariffLoad s fun r s => s.tariffLoad r.body

/-- The owner's part of TARIFF-RETIRE (R47). -/
def State.tariffRetire (s : State) (body : List Byte) : Taken :=
  match tariffOf (fieldAt body 0 1) with
  | none => refuse .range s
  | some t =>
    match (s.tariff t).state with
    | .active => accept [] (s.setTariff t { s.tariff t with state := .retired })
    | .retired => accept [] s
    | .empty => refuse .state s

/-- TARIFF-RETIRE (R47). -/
def execTariffRetire (s : State) : Result := takeRequest .tariffRetire s fun r s => s.tariffRetire r.body

/-- The owner's part of TARIFF-READ (R48). -/
def State.tariffRead (s : State) (body : List Byte) : Taken :=
  match tariffOf (fieldAt body 0 1) with
  | none => refuse .range s
  | some t => accept (s.tariff t).bytes s

/-- TARIFF-READ (R48). -/
def execTariffRead (s : State) : Result := takeRequest .tariffRead s fun r s => s.tariffRead r.body

end Sys2Proof.Machine
end

