-- ==== Sys2Proof/Machine/FieldEvents.lean ====
section
/-! DEFINITION. The meanings of the field link's events: the reports of pedestals, modules and the grid-point meter (R146 to R148), the
discarded frames, and the CAN controller's own events (R151, R152). -/

namespace Sys2Proof.Machine

/-! ### Reports -/

/-- PD-PLUG (R4, R16). -/
def execPdPlug (time pedestal : Nat) (plugged : Bool) (s : State) : Result :=
  occurAtPedestal s pedestal fun p s => s.receiveReport time (.plug p plugged)

/-- PD-TOKEN (R5). -/
def execPdToken (time pedestal : Nat) (token : Token) (s : State) : Result :=
  occurAtPedestal s pedestal fun p s => s.receiveReport time (.token p token)

/-- PD-VEHICLE (R11, R12). -/
def execPdVehicle (time pedestal : Nat) (ready : Bool) (request : BitVec 16) (s : State) : Result :=
  occurAtPedestal s pedestal fun p s => s.receiveReport time (.vehicle p ready request.toNat)

/-- PD-METER (R57 to R64). -/
def execPdMeter (time pedestal : Nat) (register : BitVec 32) (s : State) : Result :=
  occurAtPedestal s pedestal fun p s => s.receiveReport time (.meter p register.toNat)

/-- PD-RESTARTED (R157). -/
def execPdRestarted (time pedestal : Nat) (plugged : Bool) (s : State) : Result :=
  occurAtPedestal s pedestal fun p s => s.receiveReport time (.restarted p plugged)

/-- PD-ANSWER (R159); it carries at most 6 data bytes (R146 condition 4). -/
def execPdAnswer (time pedestal : Nat) (epoch code : Byte) (data : List Byte) (s : State) : Result :=
  occurAtPedestal s pedestal fun p s =>
    if data.length ≤ 6 then s.receiveReport time (.answer p epoch.toNat code data) else none

/-- MD-STATE (R116, R119, R120, R121). -/
def execMdState (time moduleNo : Nat) (value : Contact) (s : State) : Result :=
  occurAtModule s moduleNo fun m s => s.receiveReport time (.moduleState m value)

/-- MD-FAULT (R122). -/
def execMdFault (time moduleNo : Nat) (code : Byte) (s : State) : Result :=
  occurAtModule s moduleNo fun m s => s.receiveReport time (.moduleFault m code)

/-- GM-VOLTS (R141). -/
def execGmVolts (time : Nat) (reading : BitVec 16) (s : State) : Result :=
  occur s fun s => s.receiveReport time (.volts reading.toNat)

/-- A frame the acceptance of R146 discards changes nothing. A frame that it accepts is no discarded frame; it is taken as the report it
carries (log 19). -/
def execFieldFrameDiscarded (time : Nat) (frame : FieldFrame) (s : State) : Result :=
  occur s fun s => (frameReport frame).bind fun r => s.receiveReport time r

/-! ### The CAN controller (R151, R152) -/

/-- The precharge order that was sent is the one of the assignment in progress: the module awaits its send, and no MD-PRECHARGE of
it is still unsent (R114, log 18). -/
def State.awaitsSend (s : State) (m : ModuleNo) : Bool :=
  (s.module m).state == .precharge && (s.module m).timer == .awaitingSend &&
    !(s.field.queue.any fun o => match o with
      | .precharge n _ => n == m
      | _ => false)

/-- An unsent PD-QUERY of the pedestal. -/
def Order.isQueryOf (p : Pedestal) : Order → Bool
  | .query q _ _ => q == p
  | _ => false

/-- The pending query is marked sent, unless its own PD-QUERY is still unsent (R151, log 18). -/
def State.markSent (s : State) (p : Pedestal) : State :=
  if s.field.queue.any (Order.isQueryOf p) then s
  else s.setLink p { s.link p with query := (s.link p).query.map fun q => { q with sent := true } }

/-- What the sending of an order tells its owner (R151). -/
def State.orderReported (s : State) : Order → State
  | .precharge m _ =>
    if s.awaitsSend m then
      s.setModule m { s.module m with timer := .running (s.now + s.params.prechargeMs) }
    else s
  | .query p _ _ => s.markSent p
  | .setpoint _ _ => s
  | .beginSession _ _ => s
  | .endSession _ => s
  | .refuse _ => s
  | .reset _ => s
  | .close _ => s
  | .ramp _ => s
  | .openContact _ => s

/-- The order in the buffer has been sent: the buffer is empty again (R151). -/
def State.orderSent (s : State) (o : Order) : State :=
  { s with field := { s.field with buffer := none, fieldTx := some o.frame } }.orderReported o

/-- The CAN controller completes the transmission of the order in its buffer (R151). -/
def execOrderSent (time : Nat) (s : State) : Result :=
  occur s fun s =>
    match s.field.can, s.field.buffer with
    | .onBus, some o => some ((s.advance time).orderSent o)
    | _, _ => none

/-- Entry to BUS_OFF (R152). -/
def State.enterBusOff (s : State) : State :=
  { s with field := { s.field with can := .busOff } }.raiseField fun d => { d with busOff := true }

/-- Entry to BUS_OFF, while an order is in transmission (R152). -/
def execBusOff (time : Nat) (s : State) : Result :=
  occur s fun s =>
    if s.field.can = .onBus ∧ s.field.buffer.isSome then some (s.advance time).enterBusOff else none

/-- The return to ON_BUS (R152). -/
def State.leaveBusOff (s : State) : State := { s with field := { s.field with can := .onBus } }

/-- The return to ON_BUS (R152). -/
def execBusOffRecovery (time : Nat) (s : State) : Result :=
  occur s fun s => if s.field.can = .busOff then some (s.advance time).leaveBusOff else none

end Sys2Proof.Machine
end

