-- ==== Sys2Proof/Machine/TimerEvents.lean ====
section
/-! DEFINITION. The meanings of the timers' expiries. An expiry happens only while its timer runs; it carries the part to the time the
timer was due (log 3). -/

namespace Sys2Proof.Machine

/-- The auth wait expires in PLUGGED (R6). -/
def execAuthWaitExpiry (pedestal : Nat) (s : State) : Result :=
  occurAtPedestal s pedestal fun p s =>
    match (s.slot p).state, (s.slot p).authWait with
    | .plugged, some due => some ((s.advance due).refuseSlot p)
    | _, _ => none

/-- The start wait expires in STARTING (R13). -/
def execStartWaitExpiry (pedestal : Nat) (s : State) : Result :=
  occurAtPedestal s pedestal fun p s =>
    match (s.slot p).state, (s.slot p).session.bind Session.startWait with
    | .starting, some due => some ((s.advance due).finish p .startFailed)
    | _, _ => none

/-- The resume window expires (R29). -/
def execResumeWindowExpiry (pedestal : Nat) (s : State) : Result :=
  occurAtPedestal s pedestal fun p s =>
    match (s.slot p).session.bind Session.resumeWindow with
    | some due => some ((s.advance due).closeSession p .linkLost)
    | none => none

/-- The extension window expires in SUSPENDED (R33). -/
def execExtensionWindowExpiry (pedestal : Nat) (s : State) : Result :=
  occurAtPedestal s pedestal fun p s =>
    match (s.slot p).state, (s.slot p).session.bind Session.extensionWindow with
    | .suspended, some due => some ((s.advance due).finish p .holdExpired)
    | _, _ => none

/-- The report timer expires in UP (R154, R27). -/
def execReportTimerExpiry (pedestal : Nat) (s : State) : Result :=
  occurAtPedestal s pedestal fun p s =>
    match (s.link p).state, (s.link p).reportTimer with
    | .up, some due => some ((s.advance due).goSilent p)
    | _, _ => none

/-- The apportionment period timer started with the period in force (R90). -/
def State.startPeriod (s : State) : State := { s with alloc := { s.alloc with periodTimer := s.after s.params.periodMs } }

/-- The apportionment period expires: the regular pass runs and the timer starts again (R90, R91). -/
def execApportionmentPeriodExpiry (s : State) : Result :=
  occur s fun s =>
    match s.alloc.periodTimer with
    | some due => some (s.advance due).regularPass.startPeriod
    | none => none

/-- The end of the precharge wait: MD-CLOSE is queued and the contact timer starts (R115). -/
def State.closeContactor (s : State) (m : ModuleNo) : State :=
  let s := s.placeOrder (.close m)
  s.setModule m { s.module m with state := .contactClose, timer := s.contactTimer, releaseOnClose := false }

/-- The precharge timer expires in PRECHARGE (R115). -/
def execPrechargeTimerExpiry (moduleNo : Nat) (s : State) : Result :=
  occurAtModule s moduleNo fun m s =>
    match (s.module m).state, (s.module m).timer with
    | .precharge, .running due => some ((s.advance due).closeContactor m)
    | _, _ => none

/-- The contact timer expires: no closed report in CONTACT_CLOSE (R117), or no open report in CONTACT_OPEN (R120). -/
def execContactTimerExpiry (moduleNo : Nat) (s : State) : Result :=
  occurAtModule s moduleNo fun m s =>
    match (s.module m).state, (s.module m).timer with
    | .contactClose, .running due => some ((s.advance due).faultModule m .closeTimeout 0)
    | .contactOpen, .running due => some ((s.advance due).faultModule m .openTimeout 0)
    | _, _ => none

/-- The ramp timer expires in RAMP_DOWN (R119). -/
def execRampTimerExpiry (moduleNo : Nat) (s : State) : Result :=
  occurAtModule s moduleNo fun m s =>
    match (s.module m).state, (s.module m).timer with
    | .rampDown, .running due => some ((s.advance due).openContactor m)
    | _, _ => none

/-- The recovery hold has passed: derate becomes clear, and the rise waits for the next regular pass (R143). -/
def State.recovered (s : State) : State := { s with prot := { s.prot with derate := false, recoveryHold := none } }

/-- The recovery hold timer expires (R143). -/
def execRecoveryHoldExpiry (s : State) : Result :=
  occur s fun s =>
    match s.prot.recoveryHold with
    | some due => some (s.advance due).recovered
    | none => none

/-- The sag monitor's silence timer expires (R144). -/
def execSilenceTimerExpiry (s : State) : Result :=
  occur s fun s =>
    match s.prot.silence with
    | some due => some (s.advance due).meterSilent
    | none => none

/-- The query ends with NO_ANSWER, and its PD-QUERY is dropped if it is still unsent (R159). -/
def State.queryExpired (s : State) (p : Pedestal) : State :=
  (s.setQueue (s.field.queue.filter fun o => !o.isQueryOf p)).endQuery p .noAnswer []

/-- The query timer expires (R159). -/
def execQueryTimerExpiry (pedestal : Nat) (s : State) : Result :=
  occurAtPedestal s pedestal fun p s =>
    match (s.link p).queryTimer with
    | some due => some ((s.advance due).queryExpired p)
    | none => none

/-- The seconds count passes 59 (R180). -/
def execMinuteExpiry (s : State) : Result := occur s fun s => some s.minutePasses

end Sys2Proof.Machine
end

