-- ==== Sys2Proof/Machine/Dispatch.lean ====
section
/-! DEFINITION. The meaning of every command: one arm per row of spec/opcode_table.json. -/

namespace Sys2Proof.Machine

/-- The effect of a command on everything but the queue of waiting commands. -/
def exec (i : Instr) (s : State) : Host.Outcome State Fault Refusal :=
  match i with
  | .identify => Sys2Proof.Machine.execIdentify s
  | .parkStatus => Sys2Proof.Machine.execParkStatus s
  | .noticeStatus => Sys2Proof.Machine.execNoticeStatus s
  | .noticeMask => Sys2Proof.Machine.execNoticeMask s
  | .statusClear => Sys2Proof.Machine.execStatusClear s
  | .commission => Sys2Proof.Machine.execCommission s
  | .configure => Sys2Proof.Machine.execConfigure s
  | .timeSet => Sys2Proof.Machine.execTimeSet s
  | .tariffLoad => Sys2Proof.Machine.execTariffLoad s
  | .tariffRetire => Sys2Proof.Machine.execTariffRetire s
  | .tariffRead => Sys2Proof.Machine.execTariffRead s
  | .authorise => Sys2Proof.Machine.execAuthorise s
  | .deny => Sys2Proof.Machine.execDeny s
  | .extendHold => Sys2Proof.Machine.execExtendHold s
  | .stop => Sys2Proof.Machine.execStop s
  | .sessionCap => Sys2Proof.Machine.execSessionCap s
  | .sessionRead => Sys2Proof.Machine.execSessionRead s
  | .settleRead => Sys2Proof.Machine.execSettleRead s
  | .settleFree => Sys2Proof.Machine.execSettleFree s
  | .curtail => Sys2Proof.Machine.execCurtail s
  | .cutoffClear => Sys2Proof.Machine.execCutoffClear s
  | .pedestalMode => Sys2Proof.Machine.execPedestalMode s
  | .pedestalRestart => Sys2Proof.Machine.execPedestalRestart s
  | .pedestalQuery => Sys2Proof.Machine.execPedestalQuery s
  | .moduleRead => Sys2Proof.Machine.execModuleRead s
  | .moduleReturn => Sys2Proof.Machine.execModuleReturn s
  | .restart => Sys2Proof.Machine.execRestart s
  | .badKind => Sys2Proof.Machine.execBadKind s
  | .hostFrameReceived bytes => Sys2Proof.Machine.execHostFrameReceived bytes s
  | .frameTimerExpiry => Sys2Proof.Machine.execFrameTimerExpiry s
  | .outputRecordSent time => Sys2Proof.Machine.execOutputRecordSent time s
  | .pdPlug time pedestal plugged => Sys2Proof.Machine.execPdPlug time pedestal plugged s
  | .pdToken time pedestal token => Sys2Proof.Machine.execPdToken time pedestal token s
  | .pdVehicle time pedestal ready request => Sys2Proof.Machine.execPdVehicle time pedestal ready request s
  | .pdMeter time pedestal register => Sys2Proof.Machine.execPdMeter time pedestal register s
  | .pdRestarted time pedestal plugged => Sys2Proof.Machine.execPdRestarted time pedestal plugged s
  | .pdAnswer time pedestal epoch code data => Sys2Proof.Machine.execPdAnswer time pedestal epoch code data s
  | .mdState time moduleNo value => Sys2Proof.Machine.execMdState time moduleNo value s
  | .mdFault time moduleNo code => Sys2Proof.Machine.execMdFault time moduleNo code s
  | .gmVolts time reading => Sys2Proof.Machine.execGmVolts time reading s
  | .fieldFrameDiscarded time frame => Sys2Proof.Machine.execFieldFrameDiscarded time frame s
  | .orderSent time => Sys2Proof.Machine.execOrderSent time s
  | .busOff time => Sys2Proof.Machine.execBusOff time s
  | .busOffRecovery time => Sys2Proof.Machine.execBusOffRecovery time s
  | .lineAssertionAccepted time line lows => Sys2Proof.Machine.execLineAssertionAccepted time line lows s
  | .lineReleaseAccepted time line highs => Sys2Proof.Machine.execLineReleaseAccepted time line highs s
  | .mainSupplyReturn outage straps backup cut => Sys2Proof.Machine.execMainSupplyReturn outage straps backup cut s
  | .mainSupplyLoss loss => Sys2Proof.Machine.execMainSupplyLoss loss s
  | .resetLinePulse time straps cut => Sys2Proof.Machine.execResetLinePulse time straps cut s
  | .commandedRestartBegin straps cut => Sys2Proof.Machine.execCommandedRestartBegin straps cut s
  | .authWaitExpiry pedestal => Sys2Proof.Machine.execAuthWaitExpiry pedestal s
  | .startWaitExpiry pedestal => Sys2Proof.Machine.execStartWaitExpiry pedestal s
  | .resumeWindowExpiry pedestal => Sys2Proof.Machine.execResumeWindowExpiry pedestal s
  | .extensionWindowExpiry pedestal => Sys2Proof.Machine.execExtensionWindowExpiry pedestal s
  | .reportTimerExpiry pedestal => Sys2Proof.Machine.execReportTimerExpiry pedestal s
  | .apportionmentPeriodExpiry => Sys2Proof.Machine.execApportionmentPeriodExpiry s
  | .prechargeTimerExpiry moduleNo => Sys2Proof.Machine.execPrechargeTimerExpiry moduleNo s
  | .contactTimerExpiry moduleNo => Sys2Proof.Machine.execContactTimerExpiry moduleNo s
  | .rampTimerExpiry moduleNo => Sys2Proof.Machine.execRampTimerExpiry moduleNo s
  | .recoveryHoldExpiry => Sys2Proof.Machine.execRecoveryHoldExpiry s
  | .silenceTimerExpiry => Sys2Proof.Machine.execSilenceTimerExpiry s
  | .queryTimerExpiry pedestal => Sys2Proof.Machine.execQueryTimerExpiry pedestal s
  | .minuteExpiry => Sys2Proof.Machine.execMinuteExpiry s
  | .frameSyncReceived time => Sys2Proof.Machine.execFrameSyncReceived time s
  | .backupSupplyLoss => Sys2Proof.Machine.execBackupSupplyLoss s

end Sys2Proof.Machine
end

