-- ==== Sys2Proof/Safety.lean ====
section
/-! DEFINITION. The laws of the device that the manual states over the whole state (R2, R56, R77, R80, R88, R104, R111, R133, R149, R165,
R170), each as a predicate, and the conditions on the state under which a command acts. The statements are written with these. -/

namespace Sys2Proof.Machine

/-! ### When commands act -/

/-- The part takes events: the main supply is present and no restart sequence waits abandoned (R180, R184, R185). -/
abbrev State.Live (s : State) : Prop := s.control.mainPresent = true ∧ s.control.restarting = false

/-- The port takes the request at the head of its queue: the part is live, no RESTART has been taken, the output holds fewer than 16
records, and `r` is at the head (R166, R183). -/
abbrev State.AtHead (s : State) (r : HostRecord) : Prop :=
  s.Live ∧ s.host.restartAfter = none ∧ s.host.output.length < 16 ∧ s.host.requests.head? = some r

/-- The request at the head is of a kind, with the body length of that kind (R166). -/
abbrev State.Takes (s : State) (k : RequestKind) (r : HostRecord) : Prop :=
  s.AtHead r ∧ r.kind = k.code ∧ r.body.length = k.bodyLength

/-- The reply to a request: its kind plus 0x80, its tag, the result code and the fields that follow it (R163, R187). -/
def replyTo (r : HostRecord) (code : ResultCode) (fields : List Byte) : HostRecord :=
  { kind := r.kind + 0x80, tag := r.tag, body := BitVec.ofNat 8 code.code :: fields }

/-- A request answered and nothing else: it leaves the queue, and its reply joins the output (R166, R169). -/
def State.answered (s : State) (r : HostRecord) (code : ResultCode) (fields : List Byte) : State :=
  { s with host := { s.host with requests := s.host.requests.tail, output := s.host.output ++ [replyTo r code fields] } }

/-- A request answered behind the records that its taking raised (R166). -/
def State.answeredAfter (s : State) (r : HostRecord) (raised : List HostRecord) (code : ResultCode) (fields : List Byte) : State :=
  { s with host :=
      { s.host with requests := s.host.requests.tail, output := s.host.output ++ raised ++ [replyTo r code fields] } }

/-- The port with records placed at the tail of its output (R168). -/
def State.emits (s : State) (records : List HostRecord) : HostPort := { s.host with output := s.host.output ++ records }

/-- The notice that an event of a class places in the output: one where the latch is clear and the class unmasked, else none (R170). -/
def State.noticed (s : State) (c : NoticeClass) : List HostRecord :=
  if (s.notices.flags c).latch = false ∧ (s.notices.flags c).masked = false then
    [{ kind := 0xFF, tag := 0, body := [BitVec.ofNat 8 c.code] }]
  else []

/-- The reply that a session order places in the output where it replaces an unsent PD-QUERY of its pedestal (R150, R167). -/
def State.cancelled (s : State) (p : Pedestal) : List HostRecord :=
  match s.unsentAt (.other p), (s.link p).query with
  | some (.query _ _ _), some q => [delayedReply q.tag p .noAnswer []]
  | _, _ => []

/-- The reply to the pedestal's pending query at a restart of the pedestal (R156, R157, R167). -/
def State.resetReplies (s : State) (p : Pedestal) : List HostRecord :=
  match (s.link p).query with
  | some q => [delayedReply q.tag p .pedestalReset []]
  | none => []

/-- The command that takes a request of a kind. -/
def RequestKind.command : RequestKind → Instr
  | .identify => .identify
  | .parkStatus => .parkStatus
  | .noticeStatus => .noticeStatus
  | .noticeMask => .noticeMask
  | .statusClear => .statusClear
  | .commission => .commission
  | .configure => .configure
  | .timeSet => .timeSet
  | .tariffLoad => .tariffLoad
  | .tariffRetire => .tariffRetire
  | .tariffRead => .tariffRead
  | .authorise => .authorise
  | .deny => .deny
  | .extendHold => .extendHold
  | .stop => .stop
  | .sessionCap => .sessionCap
  | .sessionRead => .sessionRead
  | .settleRead => .settleRead
  | .settleFree => .settleFree
  | .curtail => .curtail
  | .cutoffClear => .cutoffClear
  | .pedestalMode => .pedestalMode
  | .pedestalRestart => .pedestalRestart
  | .pedestalQuery => .pedestalQuery
  | .moduleRead => .moduleRead
  | .moduleReturn => .moduleReturn
  | .restart => .restart

/-- Frames of a pedestal reach the part: it is live and on the bus, and the pedestal is installed (R146, R152). -/
abbrev State.Hears (s : State) (p : Pedestal) : Prop := s.Live ∧ s.field.can = .onBus ∧ s.rating p ≠ 0

/-- Frames of a module reach the part (R146, R152). -/
abbrev State.HearsModule (s : State) (m : ModuleNo) : Prop := s.Live ∧ s.field.can = .onBus ∧ (s.module m).state ≠ .absent

/-- An open session in a slot (R2). -/
abbrev State.Holds (s : State) (p : Pedestal) (e : Session) : Prop := (s.slot p).session = some e

/-! ### Releases and assignments (R94, R95, R118) -/

/-- The order of R94 among a pedestal's held modules: those in PRECHARGE, then CONTACT_CLOSE, then ASSIGNED. -/
def ModuleState.releaseStage : ModuleState → Nat
  | .precharge => 0
  | .contactClose => 1
  | .assigned => 2
  | .absent | .free | .rampDown | .contactOpen | .faulted => 3

/-- How many of a pedestal's held modules come before one in the order of R94: those of an earlier state, and those of the same state
with a higher number. -/
def State.releasedAhead (s : State) (p : Pedestal) (m : ModuleNo) : Nat :=
  (allModules.filter fun n =>
    (s.module n).heldFor p &&
      (decide ((s.module n).state.releaseStage < (s.module m).state.releaseStage) ||
        ((s.module n).state == (s.module m).state && decide (m < n)))).length

/-- R94 releases a module where the pedestal holds it and fewer than the excess over `keep` come before it. -/
def State.releases (s : State) (p : Pedestal) (keep : Nat) (m : ModuleNo) : Bool :=
  (s.module m).heldFor p && decide (s.releasedAhead p m < s.heldCount p - keep)

/-- A held module's record after its release (R118). -/
def State.releasedRecord (s : State) (m : ModuleNo) : ModuleRecord :=
  match (s.module m).state with
  | .precharge =>
    { s.module m with state := .contactOpen, timer := .running (s.now + s.params.contactMs), releaseOnClose := false }
  | .contactClose => { s.module m with releaseOnClose := true }
  | .assigned => { s.module m with state := .rampDown, timer := .running (s.now + s.params.rampMs), releaseOnClose := false }
  | .absent | .free | .rampDown | .contactOpen | .faulted => s.module m

/-- The unsent order of a held module after its release (R118): MD-OPEN from PRECHARGE, MD-RAMP from ASSIGNED, none new otherwise. -/
def State.releasedOrder (s : State) (m : ModuleNo) : Option Order :=
  match (s.module m).state with
  | .precharge => some (.openContact m)
  | .assigned => some (.ramp m)
  | .absent | .free | .contactClose | .rampDown | .contactOpen | .faulted => s.unsentAt (.module m)

/-- The modules that R94 releases from a state, highest number first. -/
def State.releasedFrom (s : State) (p : Pedestal) (keep : Nat) (st : ModuleState) : List ModuleNo :=
  allModules.reverse.filter fun m => s.releases p keep m && (s.module m).state == st

/-- A FREE module whose reach window contains the pedestal (R95, R114). -/
def State.offers (s : State) (p : Pedestal) (m : ModuleNo) : Bool :=
  (s.module m).state == .free && decide ((s.module m).window.first ≤ p.val + 1 ∧ p.val + 1 ≤ (s.module m).window.last)

/-- R95 assigns a module to a pedestal where it offers itself and fewer than the shortfall do with a lower number. -/
def State.assigns (s : State) (p : Pedestal) (m : ModuleNo) : Bool :=
  s.offers p m &&
    decide ((allModules.filter fun n => decide (n < m) && s.offers p n).length < (s.allot p).grant - s.heldCount p)

/-! ### Layouts (chapter 12) -/

/-- Fields one after another, each a width in bytes and a number, the number low byte first (R186). -/
def laid (fields : List (Nat × Nat)) : List Byte := fields.flatMap fun f => leBytes f.1 f.2

/-- An optional field of a reply: presence byte 1 and the field's bytes, or presence byte 0 alone (R186). -/
def presence : Option (List (Nat × Nat)) → List (Nat × Nat)
  | none => [(1, 0)]
  | some fields => (1, 1) :: fields

/-! ### What stays -/

/-- The money side is the same: tariffs, settlement records, and the numbers issued. -/
def MoneySame (s t : State) : Prop :=
  t.tariffs = s.tariffs ∧ t.settlements = s.settlements ∧ t.nextSession = s.nextSession ∧ t.exhausted = s.exhausted

/-- Restart Control and the Park Clock are the same. -/
def ControlSame (s t : State) : Prop := t.control = s.control ∧ t.clock = s.clock

/-! ### The laws -/

/-- The queue holds at most one order in each place (R149). -/
def State.OnePerPlace (s : State) : Prop := s.field.queue.Pairwise fun a b => a.place ≠ b.place

/-- The source set is empty while the latch is clear and non-empty while it is set (R133). -/
def State.LatchHasSource (s : State) : Prop :=
  s.prot.latch = true ↔ (s.prot.sources.estop = true ∨ s.prot.sources.trip = true ∨ s.prot.sources.restart = true)

/-- A class is pending only while it is masked and its status latch is set (R170). -/
def State.PendingSound (s : State) : Prop :=
  ∀ c, (s.notices.flags c).pending = true → (s.notices.flags c).masked = true ∧ (s.notices.flags c).latch = true

/-- Open sessions and settlement records never exceed 24 (R80). -/
def State.PlacesBounded (s : State) : Prop := s.openCount + s.settlements.length ≤ 24

/-- The request queue holds at most 4 requests (R165). -/
def State.RequestsBounded (s : State) : Prop := s.host.requests.length ≤ 4

/-- A slot state that holds an open session (R2). -/
def SlotState.isOpen : SlotState → Bool
  | .starting | .running | .suspended | .finished => true
  | .vacant | .plugged | .waitUnplug => false

/-- What R2 relates to the state of a slot that holds a session: the start wait runs in STARTING alone, the extension window in
SUSPENDED with HOLD alone, and the reason set is non-empty in SUSPENDED alone. -/
def Session.fits (e : Session) (st : SlotState) : Prop :=
  (e.startWait.isSome = true → st = .starting) ∧
  (e.extensionWindow.isSome = true → st = .suspended ∧ e.reasons.hold = true) ∧
  (e.reasons.isEmpty = false ↔ st = .suspended)

/-- A slot is as R2 says: a session in the open states alone, the auth wait in PLUGGED alone, power in RUNNING alone, its session's
fields as its state allows; and its mode is one that its state allows (R4, R7, R19). -/
def State.SlotSound (s : State) (p : Pedestal) : Prop :=
  (s.slot p).session.isSome = (s.slot p).state.isOpen ∧
  ((s.slot p).authWait.isSome = true → (s.slot p).state = .plugged) ∧
  ((s.slot p).state ≠ .running → (s.allot p).grant = 0 ∧ (s.allot p).setpoint = 0) ∧
  (∀ e, s.Holds p e → e.fits (s.slot p).state) ∧
  ((s.slot p).mode = .closingDown → (s.slot p).state ≠ .vacant) ∧
  ((s.slot p).mode = .outOfService → (s.slot p).state = .vacant ∨ (s.slot p).state = .waitUnplug)

/-- Every slot is as R2 says. -/
def State.SlotsSound (s : State) : Prop := ∀ p, s.SlotSound p

/-- The energy total of an accrual record is the sum of its buckets (R56). -/
def Accrual.Sums (a : Accrual) : Prop := a.energy = a.buckets.toList.sum

/-- A settlement record is sound: the total is within the hold, total and waived make up the components, and the energy total is the
sum of the buckets (R77). -/
def Settlement.Sound (r : Settlement) : Prop :=
  r.total ≤ r.hold ∧ r.total + r.waived.getD 0 = r.fee + r.energyAmount + r.timeAmount + r.idleAmount ∧
    r.energy = r.buckets.toList.sum

/-- Every open session's accrual record sums, and every queued record is sound (R56, R77). -/
def State.MoneySound (s : State) : Prop :=
  (∀ p e, s.Holds p e → e.accrual.Sums) ∧ ∀ r ∈ s.settlements, r.Sound

/-- A session number that has been issued since the last cold start (R9). Once the flag is set the count holds the last number issued:
the model's choice, log 27. -/
def State.Issued (s : State) (n : Nat) : Prop :=
  1 ≤ n ∧ (n < s.nextSession ∨ (s.exhausted = true ∧ n = s.nextSession))

/-- No session number is issued twice: the numbers of the open sessions and of the queued records are issued ones, all different, and
the count lies in its range (R9). -/
def State.NumbersSound (s : State) : Prop :=
  1 ≤ s.nextSession ∧ s.nextSession ≤ 4294967295 ∧
  (∀ p e, s.Holds p e → s.Issued e.number) ∧
  (∀ p q e f, s.Holds p e → s.Holds q f → e.number = f.number → p = q) ∧
  (∀ r ∈ s.settlements, s.Issued r.number) ∧
  (∀ r ∈ s.settlements, ∀ p e, s.Holds p e → r.number ≠ e.number) ∧
  s.settlements.Pairwise fun a b => a.number ≠ b.number

/-- The number of open sessions that name a tariff slot. -/
def State.sessionsOn (s : State) (t : TariffNo) : Nat :=
  (allPedestals.filter fun p => ((s.slot p).session.map Session.tariff) == some t).length

/-- A tariff slot's reference count is the number of open sessions naming it; while it is above zero the slot is not EMPTY and its
version is the one each of them recorded (R44). -/
def State.ReferencesSound (s : State) : Prop :=
  ∀ t, (s.tariff t).references = s.sessionsOn t ∧
    ∀ p e, s.Holds p e → e.tariff = t → (s.tariff t).state ≠ .empty ∧ (s.tariff t).version = e.version

/-- The sum of a quantity over the sixteen pedestals. -/
def sumOver (f : Pedestal → Nat) : Nat := (allPedestals.map f).sum

/-- The sum of the setpoints never exceeds P_av (R104), with what carries it: each setpoint is within its grant's power, the grants are
within M, M is P_av in whole modules, and P_av is 0 before commissioning (R88, R93, R99). -/
def State.PowerBounded (s : State) : Prop :=
  sumOver (fun p => (s.allot p).setpoint) ≤ s.alloc.pAv ∧
  (∀ p, (s.allot p).setpoint ≤ (s.allot p).grant * s.control.record.rating) ∧
  sumOver (fun p => (s.allot p).grant) ≤ s.alloc.budget ∧
  s.alloc.budget = s.alloc.pAv / s.control.record.rating ∧
  (s.control.commissioned = false → s.alloc.pAv = 0)

/-- No setpoint exceeds its pedestal's assigned count times the module rating (R104). -/
def State.SetpointsBacked (s : State) : Prop :=
  ∀ p, (s.allot p).setpoint ≤ s.assignedCount p * s.control.record.rating

/-- A module state in which a module is switched onto a pedestal or on its way (R133). -/
def ModuleState.switching : ModuleState → Bool
  | .precharge | .contactClose | .assigned | .rampDown => true
  | .absent | .free | .contactOpen | .faulted => false

/-- While the cutoff latch is set, P_av and M are 0 and no module is in PRECHARGE, CONTACT_CLOSE, ASSIGNED or RAMP_DOWN (R133). -/
def State.CutoffHolds (s : State) : Prop :=
  s.prot.latch = true → s.alloc.pAv = 0 ∧ s.alloc.budget = 0 ∧ ∀ m, (s.module m).state.switching = false

/-- A module state that names a pedestal (R111). -/
def ModuleState.names : ModuleState → Bool
  | .precharge | .contactClose | .assigned | .rampDown | .contactOpen => true
  | .absent | .free | .faulted => false

/-- A reach window is one that COMMISSION accepts (R178 check 4). -/
def Window.Sound (w : Window) : Prop := w.first ≤ 16 ∧ w.last ≤ 16 ∧ (w.first ≤ w.last → 1 ≤ w.first)

/-- A module record is as R110 and R111 say: it names a pedestal, inside its window, in the states that name one and in no other; only a
FAULTED module has a fault, with a code for the origin REPORTED alone; the release-on-close mark is set in CONTACT_CLOSE alone and the
forced mark in CONTACT_OPEN and FAULTED alone; the sequence timer is stopped in ABSENT, FREE, ASSIGNED and FAULTED and in no other
state, and awaits its send in PRECHARGE alone; and a module that is not ABSENT has a usable window (R112). -/
def ModuleRecord.Sound (r : ModuleRecord) : Prop :=
  r.assigned.isSome = r.state.names ∧
  (∀ p, r.assigned = some p → r.window.first ≤ p.val + 1 ∧ p.val + 1 ≤ r.window.last) ∧
  (r.fault.isSome = true ↔ r.state = .faulted) ∧
  (∀ f, r.fault = some f → f.origin ≠ .reported → f.code = 0) ∧
  (r.releaseOnClose = true → r.state = .contactClose) ∧
  (r.forced = true → r.state = .contactOpen ∨ r.state = .faulted) ∧
  (r.timer = .stopped ↔ r.state = .absent ∨ r.state = .free ∨ r.state = .assigned ∨ r.state = .faulted) ∧
  (r.timer = .awaitingSend → r.state = .precharge) ∧
  (r.state ≠ .absent → r.window.first ≤ r.window.last) ∧ r.window.Sound

/-- Every module record is sound, every window of the commissioning record is one that COMMISSION accepts, and a module that is not
ABSENT has the window that the record gives it (R110 to R112). -/
def State.ModulesSound (s : State) : Prop :=
  ∀ m, (s.module m).Sound ∧ s.control.record.windows[m.val].Sound ∧
    ((s.module m).state ≠ .absent → (s.module m).window = s.control.record.windows[m.val])

end Sys2Proof.Machine
end

