-- ==== Sys2Proof/Certificates/Slice0/Obligations.lean ====
section
/-! DEFINITION. The statements for the provers. Notation used throughout: `u` is the state that an event finds once running time has
reached its arrival and, for a pedestal's frame, its link has been heard (R147); an expected state is written as the state before it
with the fields that change, so that every field it does not name is unchanged. What is the model's in many of them: that a request
command takes the head of the request queue (log 1), running time and timers as deadlines, `State.advance` (log 3), and that the head of
the field transmit queue moves into an empty buffer at the end of a command, `State.startTransmit` (log 6). -/

section
open Sys2Proof Sys2Proof.Machine

/-! ### The queue of commands, reset, and the laws at reset -/

/-- A step takes the command at the front of the queue and runs it on the state with the rest; on an empty queue the part idles (log 4,
8: the queue and its idling are the model's, not the manual's). -/
def Obligations.StepRunsFrontCommand : Prop :=
  (∀ (c : Instr) (rest : List Instr) (s : State), s.pending = c :: rest → step s = exec c { s with pending := rest }) ∧
  ∀ s : State, s.pending = [] → step s = .next s

/-- Every command answers a next state in every state, and leaves the queue of waiting commands alone. Nothing the manual names stops the
part: a refused request is answered (R169), and by R80, R149 and R168 no queue overflows. That an event which cannot happen in the
present state changes nothing, that the queues have no overflow case, and that commands wait in a queue which no meaning reads, are the
model's: logs 2, 17 and 8. -/
def Obligations.EveryCommandAnswersNext : Prop :=
  ∀ (c : Instr) (s : State), ∃ t, exec c s = .next t ∧ t.pending = s.pending

/-- The values after a cold start that the manual gives (R9, R23, R52, R85, R108, R129, R137, R145, R161, R176, R177,
R179, R180); the numbers-exhausted flag is clear (R9), and the marker is written at the end of the cold start (R182). -/
def Obligations.ResetHoldsColdStartValues : Prop :=
  (∀ p, State.reset.slot p =
    { state := .vacant, mode := .inService, token := none, changed := false, authWait := none, session := none }) ∧
  State.reset.nextSession = 1 ∧ State.reset.exhausted = false ∧
  (∀ t, (State.reset.tariff t).state = .empty ∧ (State.reset.tariff t).version = 0 ∧ (State.reset.tariff t).references = 0 ∧
    (State.reset.tariff t).contents =
      { fee := 0, basePrice := 0, timePrice := 0, idlePrice := 0, grace := 0
        bands := Vector.replicate 4 { start := 1439, stop := 0, price := 0 } }) ∧
  State.reset.settlements = [] ∧
  State.reset.alloc.pAv = 0 ∧ State.reset.alloc.budget = 0 ∧ State.reset.alloc.gridCap = 0 ∧
  State.reset.alloc.stagedGridCap = none ∧ State.reset.alloc.pointer = 15 ∧ State.reset.alloc.periodTimer = none ∧
  (∀ p, State.reset.allot p = { demand := 0, grant := 0, setpoint := 0, cap := none, stagedCap := none }) ∧
  (∀ m, State.reset.module m =
    { state := .absent, window := { first := 1, last := 0 }, assigned := none, timer := .stopped
      releaseOnClose := false, forced := false, fault := none }) ∧
  State.reset.prot =
    { estop := { samples := 0, asserted := true }, trip := { samples := 0, asserted := true }, latch := true
      sources := { estop := false, trip := false, restart := true }, settling := 3, live := .unknown, derate := false
      recoveryHold := none, silence := none } ∧
  State.reset.field.can = .onBus ∧ State.reset.field.queue = [] ∧ State.reset.field.buffer = none ∧
  (∀ p, State.reset.link p =
    { state := .never, reportTimer := none, epoch := 0, register := none, fresh := false, lastArrival := none
      query := none, queryTimer := none }) ∧
  State.reset.host.receiver = .hunting ∧ State.reset.host.requests = [] ∧ State.reset.host.output = [] ∧
  (∀ c, (State.reset.notices.flags c).masked = true) ∧
  (∀ c, c ≠ .park → (State.reset.notices.flags c).latch = false ∧ (State.reset.notices.flags c).pending = false) ∧
  State.reset.notices.park.latch = true ∧ State.reset.notices.park.pending = true ∧
  State.reset.notices.holdDetail = Vector.replicate 16 false ∧ State.reset.notices.fieldDetail = .empty ∧
  State.reset.notices.parkDetail =
    { estop := false, trip := false, sag := false, faulted := Vector.replicate 32 false, restart := some .cold } ∧
  State.reset.control.commissioned = false ∧ State.reset.control.record = .cold ∧ State.reset.control.marker = true ∧
  State.reset.control.params =
    { periodMs := 500, reportTimeoutS := 3, authWaitS := 180, startWaitS := 60, resumeWindowS := 60
      extensionWindowS := 120, topUpPercent := 90, prechargeMs := 200, contactMs := 500, rampMs := 1000
      filterLength := 5, sagEnable := false, sagIndex := 8, deratePercent := 50, recoveryHoldS := 30 } ∧
  State.reset.clock.day = 0 ∧ State.reset.clock.minute = 0 ∧ State.reset.secondsCount = 0 ∧ State.reset.clock.valid = false ∧
  State.reset.clock.stampedDay = 0 ∧ State.reset.clock.stampedMinute = 0

/-- Every law of the device that the statements below keep holds at reset. -/
def Obligations.ResetKeepsEveryLaw : Prop :=
  State.reset.OnePerPlace ∧ State.reset.PlacesBounded ∧ State.reset.RequestsBounded ∧ State.reset.PendingSound ∧
  State.reset.SlotsSound ∧ State.reset.MoneySound ∧ State.reset.NumbersSound ∧ State.reset.ReferencesSound ∧
  State.reset.PowerBounded ∧ State.reset.SetpointsBacked ∧ State.reset.LatchHasSource ∧ State.reset.CutoffHolds ∧
  State.reset.ModulesSound

/-- R180, R182 and R184: a return of the main supply with the marker lost, or without the backup supply, is a cold start: whatever the
part held, it is then as State.reset is, but for the commands that wait, running time, the straps and the backup supply (the seconds
count starts at the return). A return with the marker intact and the backup supply present is a supply restart, with the clock counted
through the outage, its flag clear and nothing stamped. A pulse on the reset line is a commanded restart at once. A loss of the main
supply keeps the retained store; the marker is lost when both supplies are absent together: at a loss of the main supply by whether the
backup supply is present then, whatever it was before, and at a loss of the backup supply while the main supply is absent. (What the commands carry is the model's,
log 10; so are what a loss leaves outside the store, log 12, the backup supply as a bit, log 23, the clock over an outage in whole
minutes, log 24, and that a return or loss which cannot happen changes nothing, log 2.) -/
def Obligations.SuppliesAndResetLineDecideTheRestart : Prop :=
  (∀ (s : State) (outage : Nat) (straps : BitVec 2) (backup : Bool),
    s.control.mainPresent = false → s.control.marker = false ∨ backup = false →
    exec (.mainSupplyReturn outage straps backup none) s = .next
      { State.reset with
        pending := s.pending
        now := s.now + outage
        clock := { State.reset.clock with zeroAt := s.now + outage }
        control := { State.reset.control with straps := straps, backupPresent := backup } }) ∧
  (∀ (s : State) (outage : Nat) (straps : BitVec 2) (cut : Option Nat), s.control.mainPresent = false → s.control.marker = true →
    let minutes := (s.now + outage - s.clock.zeroAt) / 60000
    let counted := s.clock.day * 1440 + s.clock.minute + minutes
    exec (.mainSupplyReturn outage straps true cut) s = .next (State.restart
      { s with
        now := s.now + outage
        clock :=
          { s.clock with
            day := counted / 1440 % 65536, minute := counted % 1440, zeroAt := s.clock.zeroAt + minutes * 60000, valid := false }
        control := { s.control with mainPresent := true, backupPresent := true } } .supply straps cut)) ∧
  (∀ (s : State) (outage : Nat) (straps : BitVec 2) (backup : Bool) (cut : Option Nat), s.control.mainPresent = true →
    exec (.mainSupplyReturn outage straps backup cut) s = .next s) ∧
  (∀ (s : State) (time : Nat) (straps : BitVec 2) (cut : Option Nat),
    (s.control.mainPresent = true →
      exec (.resetLinePulse time straps cut) s = .next ((s.advance time).restart .commanded straps cut)) ∧
    (s.control.mainPresent = false → exec (.resetLinePulse time straps cut) s = .next s)) ∧
  (∀ (s : State) (time : Nat) (backup : Bool),
    (s.control.mainPresent = true →
      ∃ t, exec (.mainSupplyLoss { time := time, backup := backup }) s = .next t ∧ t.control =
          { s.control with
            mainPresent := false, backupPresent := backup, marker := s.control.marker && backup, restarting := false } ∧
        t.slots = s.slots ∧ t.nextSession = s.nextSession ∧ t.exhausted = s.exhausted ∧ t.tariffs = s.tariffs ∧
        t.settlements = s.settlements ∧ t.clock = s.clock ∧ t.alloc.gridCap = s.alloc.gridCap ∧
        (∀ p, (t.link p).epoch = (s.link p).epoch) ∧ t.pending = s.pending ∧ t.now = max s.now time) ∧
    (s.control.mainPresent = false → exec (.mainSupplyLoss { time := time, backup := backup }) s = .next s)) ∧
  ∀ s : State,
    exec .backupSupplyLoss s = .next
      { s with control :=
          { s.control with backupPresent := false, marker := s.control.marker && s.control.mainPresent } }

/-! ### The laws of the device: every step keeps them -/

/-- R80: open sessions and settlement records never exceed 24. -/
def Obligations.SettlementPlacesNeverExceeded : Prop :=
  ∀ s t : State, s.PlacesBounded → step s = .next t → t.PlacesBounded

/-- R149: the field transmit queue holds at most one order in each place. R165: the request queue holds at most 4 requests. R170: a class
is pending only while it is masked and its latch is set. -/
def Obligations.QueuesAndNoticesStaySound : Prop :=
  (∀ s t : State, s.OnePerPlace → step s = .next t → t.OnePerPlace) ∧
  (∀ s t : State, s.RequestsBounded → step s = .next t → t.RequestsBounded) ∧
  ∀ s t : State, s.PendingSound → step s = .next t → t.PendingSound

/-- R2, with the modes of R4, R7 and R19: every slot's session, timers, reason set, power and mode are what its state allows. -/
def Obligations.SlotsStayAsTheirStateSays : Prop :=
  ∀ s t : State, s.SlotsSound → step s = .next t → t.SlotsSound

/-- R56 and R77: accrual records sum, and settlement records are within their hold and add up. -/
def Obligations.MoneyStaysSound : Prop :=
  ∀ s t : State, s.MoneySound → step s = .next t → t.MoneySound

/-- R9: session numbers of open sessions and queued records are issued ones and all different. (That the count holds
the last number once the numbers are exhausted, and so stays in its range, is the model's, log 27.) -/
def Obligations.SessionNumbersStayUnique : Prop :=
  ∀ s t : State, s.NumbersSound → step s = .next t → t.NumbersSound

/-- R44: a tariff slot's reference count is the number of open sessions naming it, and they are billed by the version it holds. -/
def Obligations.ReferenceCountsStayTrue : Prop :=
  ∀ s t : State, s.SlotsSound → s.ReferencesSound → step s = .next t → t.ReferencesSound

/-- R104, first law, with R88: the setpoints sum to at most P_av, and M is P_av in whole modules. -/
def Obligations.SetpointsNeverExceedAvailablePower : Prop :=
  ∀ s t : State, s.PowerBounded → step s = .next t → t.PowerBounded

/-- R104, second law: no setpoint exceeds what the pedestal's ASSIGNED modules give. -/
def Obligations.SetpointsStayBackedByModules : Prop :=
  ∀ s t : State, s.SlotsSound → s.PowerBounded → s.SetpointsBacked → step s = .next t → t.SetpointsBacked

/-- R133: the source set is empty exactly while the latch is clear; while the latch is set, P_av and M are 0 and no module is switched
onto a pedestal. -/
def Obligations.CutoffLatchHoldsPowerOff : Prop :=
  ∀ s t : State, s.PowerBounded → s.LatchHasSource → s.CutoffHolds → step s = .next t → t.LatchHasSource ∧ t.CutoffHolds

/-- R110 to R112: module records stay as their state says: the pedestal named, the fault and its code, both marks, the sequence timer,
and the reach window of the commissioning record. -/
def Obligations.ModuleRecordsStaySound : Prop :=
  ∀ s t : State, s.ModulesSound → step s = .next t → t.ModulesSound

/-! ### Rules that many commands share -/

/-- R170: an event of a class sets its latch; with the latch clear an unmasked class sends its notice and a masked class becomes
pending, and with the latch set nothing more is done. R171: NOTICE-MASK replaces the mask whole; each class that goes from masked to
unmasked while pending sends its notice ahead of the reply and is no longer pending; latches and details stay. R172: STATUS-CLEAR clears
the class's latch and pending flag and empties its detail (for SESSION the changed flags), keeps the mask, and is refused with RANGE for
a value that names no class. -/
def Obligations.NoticeUnitLatchesMasksAndClears : Prop :=
  (∀ (s : State) (c : NoticeClass),
     ((s.notices.flags c).latch = true → s.raise c = s) ∧
     ((s.notices.flags c).latch = false → (s.notices.flags c).masked = false →
       s.raise c =
         { s with
           notices := s.notices.setFlags c { s.notices.flags c with latch := true }
           host := s.emits [{ kind := 0xFF, tag := 0, body := [BitVec.ofNat 8 c.code] }] }) ∧
     ((s.notices.flags c).latch = false → (s.notices.flags c).masked = true →
       s.raise c = { s with notices := s.notices.setFlags c { s.notices.flags c with latch := true, pending := true } })) ∧
  (∀ (s : State) (r : HostRecord), s.Takes .noticeMask r →
     let masked (c : NoticeClass) : Bool := (fieldAt r.body 0 1).testBit (c.code - 1)
     let sent (c : NoticeClass) : Bool :=
       (s.notices.flags c).masked && !masked c && (s.notices.flags c).pending
     let flags (c : NoticeClass) : ClassFlags :=
       { latch := (s.notices.flags c).latch, masked := masked c
         pending := (s.notices.flags c).pending && !sent c }
     let notice (c : NoticeClass) : List HostRecord :=
       if sent c then [{ kind := 0xFF, tag := 0, body := [BitVec.ofNat 8 c.code] }] else []
     exec .noticeMask s = .next
       { s.answeredAfter r (notice .session ++ notice .settle ++ notice .hold ++ notice .park ++ notice .field) .ok [] with
         notices :=
           { s.notices with
             session := flags .session, settle := flags .settle, hold := flags .hold
             park := flags .park, field := flags .field } }) ∧
  ∀ (s : State) (r : HostRecord), s.Takes .statusClear r →
    let cleared (c : NoticeClass) : NoticeUnit :=
      s.notices.setFlags c { s.notices.flags c with latch := false, pending := false }
    (fieldAt r.body 0 1 = 1 →
      exec .statusClear s = .next
        { s.answered r .ok [] with
          notices := cleared .session
          slots := Vector.ofFn fun p => { s.slot p with changed := false } }) ∧
    (fieldAt r.body 0 1 = 2 → exec .statusClear s = .next { s.answered r .ok [] with notices := cleared .settle }) ∧
    (fieldAt r.body 0 1 = 3 →
      exec .statusClear s = .next
        { s.answered r .ok [] with notices := { cleared .hold with holdDetail := Vector.replicate 16 false } }) ∧
    (fieldAt r.body 0 1 = 4 →
      exec .statusClear s = .next
        { s.answered r .ok [] with
          notices :=
            { cleared .park with
              parkDetail :=
                { estop := false, trip := false, sag := false, faulted := Vector.replicate 32 false, restart := none } } }) ∧
    (fieldAt r.body 0 1 = 5 →
      exec .statusClear s = .next
        { s.answered r .ok [] with
          notices :=
            { cleared .field with
              fieldDetail :=
                { conditions :=
                    Vector.replicate 16 { silence := false, restart := false, meterFault := false, overdraw := false }
                  meterSilent := false, busOff := false } } }) ∧
    (fieldAt r.body 0 1 = 0 ∨ 5 < fieldAt r.body 0 1 → exec .statusClear s = .next (s.answered r .range []))

/-- R150: how an order is placed, by its kind and what its place holds. -/
def Obligations.OrdersArePlacedByTheirPlace : Prop :=
  (∀ (s : State) (o : Order),
    (∃ p kw, o = .setpoint p kw) ∨ (∃ m p, o = .precharge m p) ∨ (∃ m, o = .close m ∨ o = .ramp m ∨ o = .openContact m) →
    (s.unsentAt o.place = none → s.placeOrder o = s.setQueue (s.field.queue ++ [o])) ∧
    (s.unsentAt o.place ≠ none →
      s.placeOrder o = s.setQueue (s.field.queue.map fun x => if x.place = o.place then o else x))) ∧
  (∀ (s : State) (p : Pedestal) (o : Order), o = .endSession p ∨ o = .refuse p ∨ (∃ n, o = .beginSession p n) →
    (s.unsentAt (.other p) = none → s.placeOrder o = s.setQueue (s.field.queue ++ [o])) ∧
    (s.unsentAt (.other p) = some (.reset p) → s.placeOrder o = s) ∧
    (∀ x, s.unsentAt (.other p) = some x → x = .endSession p ∨ x = .refuse p ∨ (∃ n, x = .beginSession p n) →
      s.placeOrder o = s.setQueue (s.field.queue.map fun x => if x.place = .other p then o else x)) ∧
    (∀ e c q, s.unsentAt (.other p) = some (.query p e c) → (s.link p).query = some q →
      s.placeOrder o =
        { s with
          field :=
            { s.field with
              queue := s.field.queue.map fun x => if x.place = .other p then o else x
              links := s.field.links.set p.val { s.link p with query := none, queryTimer := none } }
          host := s.emits [delayedReply q.tag p .noAnswer []] }) ∧
    (∀ e c, s.unsentAt (.other p) = some (.query p e c) → (s.link p).query = none →
      s.placeOrder o = s.setQueue (s.field.queue.map fun x => if x.place = .other p then o else x))) ∧
  (∀ (s : State) (p : Pedestal),
    s.placeOrder (.reset p) =
      s.setQueue (s.field.queue.filter (fun x => x.place != .setpoint p && x.place != .other p) ++ [.reset p])) ∧
  ∀ (s : State) (p : Pedestal) (e : BitVec 4) (c : Byte),
    s.placeOrder (.query p e c) = s.setQueue (s.field.queue ++ [.query p e c])

/-- R151 and R152: the head of the queue moves into the empty buffer while the controller is on the bus; the sending of an order empties
the buffer, starts the precharge timer of the module that awaits it, and marks the query it carried; entry to BUS_OFF keeps buffer and
queue and sets FIELD; the return goes on with the buffer. (That the buffer fills at the end of a command is the model's, log 6; that the
order sent is the one of the present assignment or query where no newer one of its kind is unsent is the model's too, log 18.) -/
def Obligations.OrdersAreTransmittedFromTheHead : Prop :=
  (∀ (s : State) (o : Order) (rest : List Order), s.field.can = .onBus → s.field.buffer = none → s.field.queue = o :: rest →
    s.startTransmit = { s with field := { s.field with queue := rest, buffer := some o } }) ∧
  (∀ s : State, s.field.can = .busOff ∨ s.field.buffer ≠ none ∨ s.field.queue = [] → s.startTransmit = s) ∧
  ∀ (s : State) (time : Nat), s.Live →
    let u := s.advance time
    (∀ o, s.field.can = .onBus → s.field.buffer = some o →
      let sent : FieldLink := { u.field with buffer := none, fieldTx := some o.frame }
      ((∀ m p, o ≠ .precharge m p) → (∀ p e c, o ≠ .query p e c) →
        exec (.orderSent time) s = .next (State.startTransmit { u with field := sent })) ∧
      (∀ m p, o = .precharge m p →
        ((s.module m).state = .precharge → (s.module m).timer = .awaitingSend →
          (∀ q, Order.precharge m q ∉ s.field.queue) →
          exec (.orderSent time) s = .next (State.startTransmit
            { u with
              field := sent
              modules := u.modules.set m.val { u.module m with timer := .running (u.now + u.params.prechargeMs) } })) ∧
        ((s.module m).state ≠ .precharge ∨ (s.module m).timer ≠ .awaitingSend ∨ (∃ q, Order.precharge m q ∈ s.field.queue) →
          exec (.orderSent time) s = .next (State.startTransmit { u with field := sent }))) ∧
      (∀ p e c q, o = .query p e c → (s.link p).query = some q → (∀ e' c', Order.query p e' c' ∉ s.field.queue) →
        exec (.orderSent time) s = .next (State.startTransmit
          { u with
            field :=
              { sent with links := u.field.links.set p.val { u.link p with query := some { q with sent := true } } } })) ∧
      (∀ p e c, o = .query p e c → (s.link p).query = none ∨ (∃ e' c', Order.query p e' c' ∈ s.field.queue) →
        exec (.orderSent time) s = .next (State.startTransmit { u with field := sent })) ∧
      exec (.busOff time) s = .next
        (({ u with
            field := { u.field with can := .busOff }
            notices := { u.notices with fieldDetail := { u.notices.fieldDetail with busOff := true } } } : State).raise .field)) ∧
    (s.field.can = .busOff →
      exec (.busOffRecovery time) s = .next (State.startTransmit { u with field := { u.field with can := .onBus } }))

/-- R147 steps 1 to 3 with R28 and R154: an accepted frame of a pedestal brings its link UP, reloads the report timer and, where the
link was SILENT, stops the resume window, removes LINK and returns a slot whose reason set is then empty to RUNNING. -/
def Obligations.AcceptedFrameBringsLinkUp : Prop :=
  ∀ (s : State) (p : Pedestal),
    let l := s.link p
    let up : Link :=
      { l with
        state := .up
        reportTimer := some (s.now + s.params.reportTimeoutS * 1000)
        fresh := if l.state = .up then l.fresh else false
        lastArrival := some s.now }
    (l.state ≠ .silent → s.heardAndJudged p = s.setLink p up) ∧
    (l.state = .silent → (s.slot p).session = none → s.heardAndJudged p = s.setLink p up) ∧
    ∀ e, l.state = .silent → s.Holds p e →
      let e' := { e with resumeWindow := none, reasons := { e.reasons with link := false } }
      ((s.slot p).state ≠ .suspended ∨ e.reasons.cutoff = true ∨ e.reasons.hold = true →
        s.heardAndJudged p = (s.setLink p up).setSlot p { s.slot p with session := some e' }) ∧
      ((s.slot p).state = .suspended → e.reasons.cutoff = false → e.reasons.hold = false →
        s.heardAndJudged p =
          { s with
            field := { s.field with links := s.field.links.set p.val up }
            slots := s.slots.set p.val
              { s.slot p with
                state := .running, changed := true
                session := some
                  { e' with interruptions := e.interruptions.map (Interruption.closeAt s.clock.day s.clock.minute) } }
            notices := (s.raise .session).notices
            host := s.emits (s.noticed .session) })

/-- R88: the computed park power is 0 before commissioning and with the latch set, and otherwise the smallest of the ceiling, the grid
cap in force and D; M is P_av in whole modules. R92: the wanted power is the smallest of the vehicle request, the rating and the cap in
force, NONE left out, and the demand is it in whole modules, rounded up. R96 and R102: a setpoint is the smallest of the wanted power,
the assigned count's power and the grant's power, 0 outside RUNNING, and a changed one is queued as PD-SETPOINT. R98: a reduction pass
is run where the computed park power is below P_av. R103: a setpoint is lowered to a limit. R20, R27 and R32: the resume and the
extension window start with the duration in force, and only where they do not run. (A RUNNING slot without a session or request wants 0:
the model's, log 16.) -/
def Obligations.PowerAndWindowsTakeTheirValues : Prop :=
  (∀ s : State,
    (s.control.commissioned = false ∨ s.prot.latch = true → s.computedPower = 0) ∧
    (s.control.commissioned = true → s.prot.latch = false →
      (s.prot.derate = false → s.computedPower = min s.control.record.ceiling s.alloc.gridCap) ∧
      (s.prot.derate = true →
        s.computedPower =
          min (min s.control.record.ceiling s.alloc.gridCap) (s.control.record.ceiling * s.params.deratePercent / 100))) ∧
    (∀ kw, s.setPower kw = { s with alloc := { s.alloc with pAv := kw, budget := kw / s.control.record.rating } }) ∧
    (s.computedPower < s.alloc.pAv → s.considerReduction = (s.setPower s.computedPower).reductionPass) ∧
    (s.alloc.pAv ≤ s.computedPower → s.considerReduction = s)) ∧
  (∀ (s : State) (p : Pedestal),
    let rating := s.control.record.rating
    let request := match (s.slot p).session with
      | some e => e.request.getD 0
      | none => 0
    let wanted := match (s.allot p).cap with
      | none => min request s.control.record.ratings[p.val]
      | some kw => min (min request s.control.record.ratings[p.val]) kw
    let value := if (s.slot p).state = .running then
        min (min wanted (s.assignedCount p * rating)) ((s.allot p).grant * rating)
      else 0
    s.wantedPower p = wanted ∧ s.setpointValue p = value ∧
    ((s.slot p).state ≠ .running → s.demandOf p = 0) ∧
    ((s.slot p).state = .running → 0 < rating →
      wanted ≤ s.demandOf p * rating ∧ (0 < s.demandOf p → (s.demandOf p - 1) * rating < wanted)) ∧
    ((s.allot p).setpoint = value → s.settleSetpoint p = s) ∧
    ((s.allot p).setpoint ≠ value →
      s.settleSetpoint p = (s.setAllot p { s.allot p with setpoint := value }).placeOrder (.setpoint p value)) ∧
    ∀ limit,
      ((s.allot p).setpoint ≤ limit → s.lowerSetpoint p limit = s) ∧
      (limit < (s.allot p).setpoint →
        s.lowerSetpoint p limit = (s.setAllot p { s.allot p with setpoint := limit }).placeOrder (.setpoint p limit))) ∧
  ∀ (s : State) (p : Pedestal),
    ((s.slot p).session = none → s.startResume p = s ∧ s.startExtension p = s) ∧
    ∀ e, s.Holds p e →
      (e.resumeWindow = none →
        s.startResume p = s.setSlot p
          { s.slot p with session := some { e with resumeWindow := some (s.now + s.params.resumeWindowS * 1000) } }) ∧
      (e.resumeWindow ≠ none → s.startResume p = s) ∧
      (e.extensionWindow = none →
        s.startExtension p = s.setSlot p
          { s.slot p with session := some { e with extensionWindow := some (s.now + s.params.extensionWindowS * 1000) } }) ∧
      (e.extensionWindow ≠ none → s.startExtension p = s)

/-- R93: the modules that a pass shares out. Pass 1 gives one module to each session with a demand, in the order given (ascending session
number), while modules are left. Pass 2 goes round the pedestals from the one after the pointer, and gives each session that has a
module and fewer than its demand one more, round after round, while modules are left: the further module number `j + 1` of a pedestal
comes behind all lower numbers of every pedestal, and behind the same number of the pedestals before it in the cycle. The last pedestal
given one in pass 2 is the new rotation pointer. -/
def Obligations.BudgetIsSharedInTwoPasses : Prop :=
  ∀ (sessions : List Pedestal) (demand : Pedestal → Nat) (pointer : Pedestal) (budget : Nat), sessions.Nodup →
    let t := shareBudget sessions demand pointer budget
    let earlier (p : Pedestal) : Nat := ((sessions.takeWhile fun q => q != p).filter fun q => decide (1 ≤ demand q)).length
    let first (p : Pedestal) : Bool := sessions.contains p && decide (1 ≤ demand p) && decide (earlier p < budget)
    let further (p : Pedestal) : Nat := if first p then demand p - 1 else 0
    let left := budget - sumOver fun p => (first p).toNat
    let given := min left (sumOver further)
    let place (p : Pedestal) : Nat := (p.val + 15 - pointer.val) % 16
    let before (p : Pedestal) (j : Nat) : Nat :=
      sumOver fun q => min (further q) j + (decide (place q < place p) && decide (j < further q)).toNat
    (∀ p, t.grants[p.val] =
      (first p).toNat + ((List.range (further p)).filter fun j => decide (before p j < given)).length) ∧
    (∀ p j, j < further p → before p j + 1 = given → t.last = some p) ∧
    (given = 0 → t.last = none) ∧
    (∀ p, t.grants[p.val] ≤ demand p) ∧
    sumOver (fun p => t.grants[p.val]) = min budget (sumOver fun p => if p ∈ sessions then demand p else 0)

/-- R94 with R118: the modules of a pedestal beyond a count are released in the order of R94, each by its state; where an ASSIGNED one
is among them the setpoint is lowered to the modules that remain, and its order stands ahead of the release orders. R95 with R114: the FREE modules that reach a pedestal are assigned to it, lowest
number first, until its held count equals its grant; and the sessions are taken in ascending session number. -/
def Obligations.ModulesAreReleasedAndAssignedInOrder : Prop :=
  (∀ (s : State) (p : Pedestal) (keep : Nat),
    let t := s.releaseBeyond p keep
    let kw := if (s.releasedFrom p keep .assigned).isEmpty then (s.allot p).setpoint
      else min (s.allot p).setpoint (keep * s.control.record.rating)
    let order := if kw = (s.allot p).setpoint then [] else [Order.setpoint p kw]
    (∀ m, s.releases p keep m = true → t.module m = s.releasedRecord m ∧ t.unsentAt (.module m) = s.releasedOrder m) ∧
    (∀ m, s.releases p keep m = false → t.module m = s.module m ∧ t.unsentAt (.module m) = s.unsentAt (.module m)) ∧
    t.heldCount p = min keep (s.heldCount p) ∧
    (kw ≠ (s.allot p).setpoint → t.unsentAt (.setpoint p) = some (.setpoint p kw)) ∧
    (kw = (s.allot p).setpoint → t.unsentAt (.setpoint p) = s.unsentAt (.setpoint p)) ∧
    (∀ q, q ≠ p → t.unsentAt (.setpoint q) = s.unsentAt (.setpoint q)) ∧
    (∀ q, t.unsentAt (.other q) = s.unsentAt (.other q)) ∧
    (s.unsentAt (.setpoint p) = none → (∀ m, s.releases p keep m = true → s.unsentAt (.module m) = none) →
      t.field.queue = s.field.queue ++ order ++ (s.releasedFrom p keep .precharge).map .openContact ++
        (s.releasedFrom p keep .assigned).map .ramp) ∧
    t = { s with
      alloc := { s.alloc with entries := s.alloc.entries.set p.val { s.allot p with setpoint := kw } }
      modules := t.modules, field := { s.field with queue := t.field.queue } }) ∧
  (∀ (s : State) (p : Pedestal),
    let t := s.assignFor p
    (∀ m, s.assigns p m = true →
      t.module m = { s.module m with state := .precharge, assigned := some p, timer := .awaitingSend } ∧
      t.unsentAt (.module m) = some (.precharge m p)) ∧
    (∀ m, s.assigns p m = false → t.module m = s.module m ∧ t.unsentAt (.module m) = s.unsentAt (.module m)) ∧
    (∀ q, t.unsentAt (.setpoint q) = s.unsentAt (.setpoint q) ∧ t.unsentAt (.other q) = s.unsentAt (.other q)) ∧
    ((∀ m, s.assigns p m = true → s.unsentAt (.module m) = none) →
      t.field.queue = s.field.queue ++ (allModules.filter (s.assigns p)).map fun m => .precharge m p) ∧
    t = { s with modules := t.modules, field := { s.field with queue := t.field.queue } }) ∧
  ∀ s : State,
    s.passAssign = s.runningBySession.foldl State.assignFor s ∧
    (∀ p, p ∈ s.runningBySession ↔ (s.slot p).state = .running ∧ (s.slot p).session ≠ none) ∧ s.runningBySession.Nodup ∧
    (s.runningBySession.map fun p => ((s.slot p).session.map Session.number).getD 0).Pairwise (· ≤ ·)

/-- R100: a session that leaves RUNNING has setpoint, grant and demand 0, a PD-SETPOINT 0 queued where one above 0 was held or is
unsent, and every held module released by its state (R118); no other pedestal's entry and no other module changes. -/
def Obligations.LeavingRunningWithdrawsPower : Prop :=
  ∀ (s : State) (p : Pedestal),
    let t := s.leaveRunning p
    t.alloc = { s.alloc with entries := s.alloc.entries.set p.val { s.allot p with setpoint := 0, grant := 0, demand := 0 } } ∧
    (∀ m, (s.module m).heldFor p = false → t.module m = s.module m ∧ t.unsentAt (.module m) = s.unsentAt (.module m)) ∧
    (∀ m, (s.module m).heldFor p = true →
      ((s.module m).state = .precharge →
        t.module m = { s.module m with state := .contactOpen, timer := .running (s.now + s.params.contactMs), releaseOnClose := false } ∧
        t.unsentAt (.module m) = some (.openContact m)) ∧
      ((s.module m).state = .contactClose →
        t.module m = { s.module m with releaseOnClose := true } ∧ t.unsentAt (.module m) = s.unsentAt (.module m)) ∧
      ((s.module m).state = .assigned →
        t.module m = { s.module m with state := .rampDown, timer := .running (s.now + s.params.rampMs), releaseOnClose := false } ∧
        t.unsentAt (.module m) = some (.ramp m))) ∧
    (∀ q, t.unsentAt (.other q) = s.unsentAt (.other q)) ∧
    (∀ q, q ≠ p → t.unsentAt (.setpoint q) = s.unsentAt (.setpoint q)) ∧
    (0 < (s.allot p).setpoint → t.unsentAt (.setpoint p) = some (.setpoint p 0)) ∧
    ((s.allot p).setpoint = 0 → s.unsentPower p = false → t.unsentAt (.setpoint p) = s.unsentAt (.setpoint p)) ∧
    (s.unsentPower p = true → t.unsentAt (.setpoint p) = some (.setpoint p 0)) ∧
    t = { s with alloc := t.alloc, modules := t.modules, field := { s.field with queue := t.field.queue } }

/-- R25, R30 to R32 and R36: a reason added to a RUNNING slot suspends it with an interruption entry and withdraws its power; a
SUSPENDED slot only gains the reason; other states are unchanged. R26: a SUSPENDED slot whose set is empty returns to RUNNING with its
entry closed and no power. R37: an open interruption entry is closed with the park minutes from its start, 0 at least and 65,535 at
most; a closed entry is unchanged. -/
def Obligations.ReasonsDecideBetweenRunningAndSuspended : Prop :=
  (∀ (s : State) (p : Pedestal) (r : Reason) (e : Session), s.Holds p e →
     ((s.slot p).state = .running →
       let t := s.addReason p r
       t.slots = s.slots.set p.val
         { s.slot p with
           state := .suspended, changed := true
           session := some
             { e with
               reasons := e.reasons.add r
               interruptions :=
                 if e.interruptions.length < 4 then
                   e.interruptions ++
                     [{ reason := r, startDay := s.clock.day, startMinute := s.clock.minute, duration := none }]
                 else e.interruptions
               overflow := if e.interruptions.length < 4 then e.overflow else min 255 (e.overflow + 1) } } ∧
       t.alloc = (s.leaveRunning p).alloc ∧ t.modules = (s.leaveRunning p).modules ∧ t.field = (s.leaveRunning p).field ∧
       t.notices = (s.raise .session).notices ∧ t.host = s.emits (s.noticed .session) ∧
       MoneySame s t ∧ ControlSame s t ∧ t.prot = s.prot ∧ t.now = s.now ∧ t.pending = s.pending) ∧
     ((s.slot p).state = .suspended →
       s.addReason p r = s.setSlot p { s.slot p with session := some { e with reasons := e.reasons.add r } }) ∧
     ((s.slot p).state ≠ .running → (s.slot p).state ≠ .suspended → s.addReason p r = s) ∧
     ((s.slot p).state = .suspended → e.reasons.isEmpty = true →
       s.judge p =
         { s with
           slots := s.slots.set p.val
             { s.slot p with
               state := .running, changed := true
               session := some
                 { e with interruptions := e.interruptions.map (Interruption.closeAt s.clock.day s.clock.minute) } }
           notices := (s.raise .session).notices
           host := s.emits (s.noticed .session) }) ∧
     ((s.slot p).state ≠ .suspended ∨ e.reasons.isEmpty = false → s.judge p = s)) ∧
  ∀ (i : Interruption) (day minute : Nat),
    (∀ d, i.duration = some d → i.closeAt day minute = i) ∧
    (i.duration = none →
      i.closeAt day minute =
        { i with duration := some (min 65535 ((day * 1440 + minute) - (i.startDay * 1440 + i.startMinute))) })

/-- R15: entry to FINISHED from STARTING, RUNNING or SUSPENDED records the cause, empties the reason set, stops the extension window and
the start wait, closes the interruption entry, orders the end once, withdraws the power and loads the grace; from any other state it
changes nothing. (That the SESSION notice stands before the reply of a query which the PD-END cancels is the model's, log 13.) -/
def Obligations.EntryToFinishedDoesWhatR15Lists : Prop :=
  (∀ (s : State) (p : Pedestal) (cause : FinishCause) (e : Session), s.Holds p e →
    (s.slot p).state = .starting ∨ (s.slot p).state = .running ∨ (s.slot p).state = .suspended →
    let t := s.finish p cause
    let ordered := if e.endOrdered then s else s.placeOrder (.endSession p)
    t.slots = s.slots.set p.val
      { s.slot p with
        state := .finished, changed := true
        session := some
          { e with
            finishCause := some cause
            reasons := { link := false, cutoff := false, hold := false }
            extensionWindow := none
            startWait := none
            interruptions := e.interruptions.map (Interruption.closeAt s.clock.day s.clock.minute)
            endOrdered := true
            accrual := { e.accrual with grace := (s.tariff e.tariff).contents.grace } } } ∧
    t.alloc = (s.leaveRunning p).alloc ∧ t.modules = (s.leaveRunning p).modules ∧ t.field = (ordered.leaveRunning p).field ∧
    t.notices = (s.raise .session).notices ∧
    t.host = s.emits (s.noticed .session ++ if e.endOrdered then [] else s.cancelled p) ∧
    MoneySame s t ∧ ControlSame s t ∧ t.prot = s.prot ∧ t.now = s.now ∧ t.pending = s.pending) ∧
  ∀ (s : State) (p : Pedestal) (cause : FinishCause),
    (s.slot p).state = .vacant ∨ (s.slot p).state = .plugged ∨ (s.slot p).state = .finished ∨ (s.slot p).state = .waitUnplug →
    s.finish p cause = s

/-- R17 with R22, R29, R73, R74, R76 and R79: a close stops the timers, stamps the end minute, orders the end once, rounds and caps the
amounts, appends the settlement record, lets go of the tariff, withdraws the power and frees the slot. -/
def Obligations.CloseSettlesTheSession : Prop :=
  ∀ (s : State) (p : Pedestal) (cause : CloseCause) (e : Session), s.Holds p e →
    let t := s.closeSession p cause
    let day := if cause = .restart then s.clock.stampedDay else s.clock.day
    let minute := if cause = .restart then s.clock.stampedMinute else s.clock.minute
    let orders := cause ≠ .restart ∧ e.endOrdered = false
    let ordered := if orders then s.placeOrder (.endSession p) else s
    let a := e.accrual
    let components := a.fee + (a.energyAmount + 500) / 1000 + (a.timeAmount + 500) / 1000 + (a.idleAmount + 500) / 1000
    t.slots = s.slots.set p.val
      { s.slot p with
        state := if cause = .linkLost then .waitUnplug else .vacant
        mode := if (s.slot p).mode = .closingDown then .outOfService else (s.slot p).mode
        token := if cause = .linkLost then (s.slot p).token else none
        changed := true
        session := none } ∧
    t.settlements = s.settlements ++
      [{ number := e.number, pedestal := p, tariff := e.tariff, version := e.version, token := (s.slot p).token
         startDay := e.startDay, startMinute := e.startMinute, endDay := day, endMinute := minute
         finishCause := e.finishCause, closeCause := cause
         energy := a.energy, buckets := a.buckets, chargingMinutes := a.chargingMinutes, idleMinutes := a.idleMinutes
         fee := a.fee
         energyAmount := (a.energyAmount + 500) / 1000
         timeAmount := (a.timeAmount + 500) / 1000
         idleAmount := (a.idleAmount + 500) / 1000
         total := min components a.hold
         waived := if components ≤ a.hold then none else some (components - a.hold)
         hold := a.hold, topUps := a.topUps
         interruptions := e.interruptions.map (Interruption.closeAt day minute)
         overflow := e.overflow }] ∧
    t.tariffs = s.tariffs.set e.tariff.val
      { s.tariff e.tariff with references := (s.tariff e.tariff).references - 1 } ∧
    t.clock = { s.clock with stampedDay := day, stampedMinute := minute } ∧
    t.alloc = { s.alloc with
      entries := s.alloc.entries.set p.val { demand := 0, grant := 0, setpoint := 0, cap := none, stagedCap := none } } ∧
    t.modules = (s.leaveRunning p).modules ∧ t.field = (ordered.leaveRunning p).field ∧
    t.notices = ((s.raise .settle).raise .session).notices ∧
    t.host = s.emits ((if orders then s.cancelled p else []) ++ s.noticed .settle ++ s.noticed .session) ∧
    t.nextSession = s.nextSession ∧ t.exhausted = s.exhausted ∧ t.prot = s.prot ∧ t.control = s.control ∧
    t.now = s.now ∧ t.pending = s.pending

/-! ### The host port's gate (R165, R166, R169, R183) -/

/-- R166 and R183: the port takes nothing while the part is not live, once RESTART has been taken, or with 16 records in the output; and
a command takes only a request of its own kind at the head. Nothing changes then. R166: a request of a wrong body length is answered
BAD_LENGTH, and one whose kind is none of chapter 12 BAD_KIND; each leaves the queue and changes nothing else. -/
def Obligations.UntakenAndMalformedRequestsDoNothingElse : Prop :=
  ((∀ (k : RequestKind) (s : State), (∀ r, s.AtHead r → r.kind ≠ k.code) → exec k.command s = .next s) ∧
   ∀ s : State, (∀ r, s.AtHead r → ∃ k : RequestKind, r.kind = k.code) → exec .badKind s = .next s) ∧
  ((∀ (k : RequestKind) (s : State) (r : HostRecord), s.AtHead r → r.kind = k.code → r.body.length ≠ k.bodyLength →
     exec k.command s = .next (s.answered r .badLength [])) ∧
   ∀ (s : State) (r : HostRecord), s.AtHead r → (∀ k : RequestKind, r.kind ≠ k.code) →
     exec .badKind s = .next (s.answered r .badKind []))

/-- R166 and R169: every request taken leaves the queue and is answered at the tail of the output, and a result other than OK changes
nothing but the two queues; a taken PEDESTAL-QUERY alone has no reply now (R167). -/
def Obligations.RefusedRequestChangesNothing : Prop :=
  ∀ (k : RequestKind) (s : State) (r : HostRecord), s.Takes k r →
    ∃ t, exec k.command s = .next t ∧ t.host.requests = s.host.requests.tail ∧
      ((∃ code, code ≠ .ok ∧ t = s.answered r code []) ∨
       (∃ raised fields, t.host.output = s.host.output ++ raised ++ [replyTo r .ok fields]) ∨
       (k = .pedestalQuery ∧ t.host.output = s.host.output))

/-! ### Reads -/

/-- R21, R126, R173, R174, R175: IDENTIFY, PARK-STATUS, NOTICE-STATUS, SESSION-READ and MODULE-READ reply with the state as it stands
and change nothing; a pedestal or module number out of range is refused. -/
def Obligations.ReadsReplyAndChangeNothing : Prop :=
  ∀ (s : State) (r : HostRecord),
    (s.Takes .identify r →
      exec .identify s = .next (s.answered r .ok
        [0x47, 16, 1, BitVec.ofNat 8 s.control.straps.toNat, if s.control.commissioned then 1 else 0,
         match s.control.lastKind with
         | .cold => 1
         | .supply => 2
         | .commanded => 3])) ∧
    (s.Takes .parkStatus r →
      exec .parkStatus s = .next (s.answered r .ok (s.setRequests s.host.requests.tail).parkBytes)) ∧
    (s.Takes .noticeStatus r → exec .noticeStatus s = .next (s.answered r .ok s.noticeBytes)) ∧
    (s.Takes .sessionRead r →
      (∀ p, pedestalOf (fieldAt r.body 0 1) = some p →
        exec .sessionRead s = .next (s.answered r .ok (s.snapshotBytes p))) ∧
      (pedestalOf (fieldAt r.body 0 1) = none → exec .sessionRead s = .next (s.answered r .range []))) ∧
    (s.Takes .moduleRead r →
      (∀ m, moduleOf (fieldAt r.body 0 1) = some m → exec .moduleRead s = .next (s.answered r .ok (s.moduleBytes m))) ∧
      (moduleOf (fieldAt r.body 0 1) = none → exec .moduleRead s = .next (s.answered r .range [])))

/-- R186: enumerations have the codes listed there, a set is a bitmap with its first member in bit 0, an optional field has a presence
byte, and numbers stand low byte first, each field at the sum of the widths before it. R189 with R21, R48, R76, R126, R160, R173 and
R175: the fields of notice status, park status, the session snapshot, the settlement record, the module record and the tariff contents,
in the order listed, and the lengths given there. -/
def Obligations.RepliesAreLaidOutAsChapterTwelveSays : Prop :=
  ([ResultCode.ok, .busy, .badKind, .badLength, .range, .state, .locked, .notCommissioned, .timeInvalid, .linkDown, .noTariff,
      .inUse, .queueFull, .unknownSession, .limit, .mismatch, .empty, .pedestalReset, .noAnswer, .cutoffActive].map
        ResultCode.code = List.range 20 ∧
    [SlotState.vacant, .plugged, .starting, .running, .suspended, .finished, .waitUnplug].map SlotState.code = List.range 7 ∧
    [PedestalMode.inService, .closingDown, .outOfService].map PedestalMode.code = List.range 3 ∧
    [FinishCause.vehicleDone, .hostStop, .startFailed, .holdExpired, .overdraw, .meterFault, .pedestalRestart].map
      FinishCause.code = [1, 2, 3, 4, 5, 6, 7] ∧
    [CloseCause.unplug, .linkLost, .restart].map CloseCause.code = [1, 2, 3] ∧
    [Reason.link, .cutoff, .hold].map Reason.code = [1, 2, 3] ∧
    [TariffState.empty, .active, .retired].map TariffState.code = List.range 3 ∧
    [ModuleState.absent, .free, .precharge, .contactClose, .assigned, .rampDown, .contactOpen, .faulted].map
      ModuleState.code = List.range 8 ∧
    [FaultOrigin.reported, .closeTimeout, .openTimeout, .unexpectedClosed, .unexpectedOpen].map FaultOrigin.code =
      [1, 2, 3, 4, 5] ∧
    [LinkState.never, .up, .silent].map LinkState.code = List.range 3 ∧
    [LiveResult.unknown, .normal, .sag].map LiveResult.code = List.range 3 ∧
    [none, some RestartKind.cold, some .supply, some .commanded].map restartCode = List.range 4) ∧
  ((∀ (l : List Bool) (i : Nat), (bitmapOf l).testBit i = l.getD i false) ∧
   (∀ (before after : List (Nat × Nat)) (width n : Nat),
     fieldAt (laid (before ++ (width, n) :: after)) (before.map Prod.fst).sum width = n % 256 ^ width) ∧
   ∀ fields : List (Nat × Nat), (laid fields).length = (fields.map Prod.fst).sum) ∧
  (∀ s : State,
    let n := s.notices
    let map (f : ClassFlags → Bool) : Nat := bitmapOf [f n.session, f n.settle, f n.hold, f n.park, f n.field]
    s.noticeBytes = laid
      ([(1, map ClassFlags.latch), (1, map ClassFlags.masked), (1, map ClassFlags.pending),
        (2, bitmapOf (allPedestals.map fun p => (s.slot p).changed)), (2, bitmapOf n.holdDetail.toList),
        (1, bitmapOf [n.parkDetail.estop, n.parkDetail.trip]), (1, n.parkDetail.sag.toNat),
        (4, bitmapOf n.parkDetail.faulted.toList), (1, restartCode n.parkDetail.restart)] ++
        (n.fieldDetail.conditions.toList.map fun c => (1, bitmapOf [c.silence, c.restart, c.meterFault, c.overdraw])) ++
        [(1, n.fieldDetail.meterSilent.toNat), (1, n.fieldDetail.busOff.toNat)]) ∧
    s.noticeBytes.length = 32) ∧
  (∀ s : State,
    let a := s.alloc
    let b := s.prot
    let seconds (t : Timer) : Nat := match t with
      | some due => (due - s.now + 999) / 1000
      | none => 0
    let link (p : Pedestal) : List (Nat × Nat) :=
      let l := s.link p
      [(1, l.state.code), (1, l.epoch.toNat)] ++ presence (l.register.map fun w => [(4, w)]) ++
        [(1, l.fresh.toNat),
         (4, match l.lastArrival with
           | some t => min 4294967295 (s.now - t)
           | none => 0),
         (1, l.query.isSome.toNat)]
    s.parkBytes = laid
      ([(1, s.control.commissioned.toNat), (1, s.clock.valid.toNat), (2, s.clock.day), (2, s.clock.minute), (1, s.openCount),
        (1, s.settlements.length), (2, a.pAv), (1, a.budget), (2, a.gridCap)] ++
        presence (a.stagedGridCap.map fun kw => [(2, kw)]) ++
        [(1, a.pointer.val + 1), (1, b.latch.toNat), (1, bitmapOf [b.sources.estop, b.sources.trip, b.sources.restart]),
         (1, bitmapOf [b.estop.asserted, b.trip.asserted]), (1, s.params.sagEnable.toNat), (1, b.settling), (1, b.live.code),
         (1, b.derate.toNat), (2, seconds b.recoveryHold), (2, seconds b.silence),
         (1, if s.field.can = .busOff then 1 else 0), (1, s.field.queue.length)] ++
        allPedestals.flatMap link ++ [(1, s.host.requests.length), (1, s.host.output.length)]) ∧
    s.parkBytes.length ≤ 240) ∧
  (∀ (s : State) (p : Pedestal),
    let x := s.slot p
    let seconds (t : Timer) : Nat := match t with
      | some due => (due - s.now + 999) / 1000
      | none => 0
    let kw (c : Cap) : Nat := match c with
      | some n => n
      | none => 0xFFFF
    let entry (i : Interruption) : List (Nat × Nat) :=
      [(1, i.reason.code), (2, i.startDay), (2, i.startMinute)] ++ presence (i.duration.map fun n => [(2, n)])
    let money (c : Accrual) : List (Nat × Nat) :=
      presence (c.base.map fun w => [(4, w)]) ++ [(4, c.last), (4, c.energy)] ++ c.buckets.toList.map (fun n => (4, n)) ++
        [(8, c.energyAmount), (8, c.timeAmount), (8, c.idleAmount), (2, c.fee), (4, c.chargingMinutes), (4, c.idleMinutes),
         (1, c.grace), (4, c.hold), (1, c.topUps), (1, bitmapOf [c.topUpRequested, c.holdReached]), (1, c.strikes)]
    let opened (e : Session) : List (Nat × Nat) :=
      [(4, e.number), (1, e.tariff.val + 1), (2, e.version.toNat), (2, e.startDay), (2, e.startMinute)] ++
        presence (e.request.map fun n => [(2, n)]) ++ [(1, bitmapOf [e.reasons.link, e.reasons.cutoff, e.reasons.hold])] ++
        presence (e.finishCause.map fun c => [(1, c.code)]) ++
        [(1, e.endOrdered.toNat), (2, seconds e.startWait), (2, seconds e.resumeWindow), (2, seconds e.extensionWindow),
         (1, e.interruptions.length)] ++ e.interruptions.flatMap entry ++ [(1, e.overflow)] ++ money e.accrual
    s.snapshotBytes p = laid
      ([(1, x.state.code), (1, x.mode.code), (1, x.changed.toNat)] ++ presence (x.token.map fun k => [(8, k.toNat)]) ++
        [(2, seconds x.authWait)] ++ presence (x.session.map opened) ++
        [(1, (s.allot p).grant), (2, (s.allot p).setpoint), (2, kw (s.allot p).cap)] ++
        presence ((s.allot p).stagedCap.map fun c => [(2, kw c)])) ∧
    ((∀ e, s.Holds p e → e.interruptions.length ≤ 4) → (s.snapshotBytes p).length ≤ 156)) ∧
  (∀ r : Settlement,
    r.bytes = laid
      ([(4, r.number), (1, r.pedestal.val + 1), (1, r.tariff.val + 1), (2, r.version.toNat)] ++
        presence (r.token.map fun k => [(8, k.toNat)]) ++
        [(2, r.startDay), (2, r.startMinute), (2, r.endDay), (2, r.endMinute)] ++
        presence (r.finishCause.map fun c => [(1, c.code)]) ++ [(1, r.closeCause.code), (4, r.energy)] ++
        r.buckets.toList.map (fun n => (4, n)) ++
        [(4, r.chargingMinutes), (4, r.idleMinutes), (2, r.fee), (8, r.energyAmount), (8, r.timeAmount), (8, r.idleAmount),
         (4, r.total)] ++ presence (r.waived.map fun n => [(8, n)]) ++
        [(4, r.hold), (1, r.topUps), (1, r.interruptions.length)] ++
        r.interruptions.flatMap (fun i =>
          [(1, i.reason.code), (2, i.startDay), (2, i.startMinute), (2, i.duration.getD 0)]) ++ [(1, r.overflow)]) ∧
    (r.interruptions.length ≤ 4 → r.bytes.length ≤ 134)) ∧
  (∀ (s : State) (m : ModuleNo),
    let r := s.module m
    s.moduleBytes m = laid
      ([(1, r.state.code), (1, r.window.first), (1, r.window.last)] ++ presence (r.assigned.map fun p => [(1, p.val + 1)]) ++
        [(2, match r.timer with
           | .running due => due - s.now
           | .stopped | .awaitingSend => 0),
         (1, if r.timer = .awaitingSend then 1 else 0), (1, bitmapOf [r.releaseOnClose, r.forced])] ++
        presence (r.fault.map fun f => [(1, f.origin.code), (1, f.code.toNat)]))) ∧
  ∀ c : TariffContents,
    c.bytes = laid
      ([(2, c.fee), (2, c.basePrice), (2, c.timePrice), (2, c.idlePrice), (1, c.grace)] ++
        c.bands.toList.flatMap fun b => [(2, b.start), (2, b.stop), (2, b.price)]) ∧
    c.bytes.length = 33

/-- R81: SETTLE-READ replies with the occupancy and the head record, or EMPTY, and changes nothing. R82: SETTLE-FREE removes the head
record if it has the number given, and is refused with EMPTY or MISMATCH otherwise. -/
def Obligations.SettlementQueueIsReadAndFreedAtTheHead : Prop :=
  (∀ (s : State) (r : HostRecord), s.Takes .settleRead r →
     (s.settlements = [] → exec .settleRead s = .next (s.answered r .empty [])) ∧
     ∀ head rest, s.settlements = head :: rest →
       exec .settleRead s = .next (s.answered r .ok (BitVec.ofNat 8 (rest.length + 1) :: head.bytes))) ∧
  ∀ (s : State) (r : HostRecord), s.Takes .settleFree r →
    (s.settlements = [] → exec .settleFree s = .next (s.answered r .empty [])) ∧
    ∀ head rest, s.settlements = head :: rest →
      (head.number ≠ fieldAt r.body 0 4 → exec .settleFree s = .next (s.answered r .mismatch [])) ∧
      (head.number = fieldAt r.body 0 4 →
        exec .settleFree s =
          .next { s.answered r .ok [BitVec.ofNat 8 rest.length] with settlements := rest })

/-! ### Commissioning, configuration, time -/

/-- R178 and R112: COMMISSION checks the flag, the powers, the ratings and the windows in that order; taken, it writes the record, makes
each module FREE or ABSENT by its window, sets the grid cap to the ceiling and starts the period timer. -/
def Obligations.CommissionChecksAndWritesTheRecord : Prop :=
  ∀ (s : State) (r : HostRecord), s.Takes .commission r →
    let ceiling := fieldAt r.body 0 2
    let rating := fieldAt r.body 2 1
    let kw (p : Pedestal) : Nat := fieldAt r.body (3 + 2 * p.val) 2
    let window (m : ModuleNo) : Window := { first := fieldAt r.body (35 + 2 * m.val) 1, last := fieldAt r.body (36 + 2 * m.val) 1 }
    let good : Prop :=
      (50 ≤ ceiling ∧ ceiling ≤ 2000 ∧ 10 ≤ rating ∧ rating ≤ 60) ∧ (∀ p, kw p = 0 ∨ (50 ≤ kw p ∧ kw p ≤ 500)) ∧
        ∀ m, (window m).first ≤ 16 ∧ (window m).last ≤ 16 ∧ ((window m).first ≤ (window m).last → 1 ≤ (window m).first)
    (s.control.commissioned = true → exec .commission s = .next (s.answered r .locked [])) ∧
    (s.control.commissioned = false → ¬ good → exec .commission s = .next (s.answered r .range [])) ∧
    (s.control.commissioned = false → good →
      exec .commission s = .next
        { s.answered r .ok [] with
          control :=
            { s.control with
              commissioned := true
              record := { ceiling := ceiling, rating := rating, ratings := Vector.ofFn kw, windows := Vector.ofFn window } }
          modules := Vector.ofFn fun m =>
            { state := if (window m).first ≤ (window m).last then .free else .absent
              window := window m, assigned := none, timer := .stopped, releaseOnClose := false, forced := false, fault := none }
          alloc :=
            { s.alloc with
              gridCap := ceiling, stagedGridCap := none, periodTimer := some (s.now + s.control.params.periodMs) } })

/-- R179 and R140: CONFIGURE takes all fifteen values or none; a change of sag enable acts at once. R181: TIME-SET sets day, minute and
the time-valid flag and restarts the seconds count, but not the last stamped minute; a minute above 1439 is refused. -/
def Obligations.ConfigureAndTimeSetTakeAllOrNothing : Prop :=
  (∀ (s : State) (r : HostRecord), s.Takes .configure r →
     let v (off width : Nat) : Nat := fieldAt r.body off width
     let good : Prop :=
       (200 ≤ v 0 2 ∧ v 0 2 ≤ 2000 ∧ v 0 2 % 100 = 0) ∧ (1 ≤ v 2 1 ∧ v 2 1 ≤ 10) ∧ (30 ≤ v 3 2 ∧ v 3 2 ≤ 600) ∧
       (10 ≤ v 5 1 ∧ v 5 1 ≤ 120) ∧ (10 ≤ v 6 2 ∧ v 6 2 ≤ 300) ∧ (30 ≤ v 8 2 ∧ v 8 2 ≤ 600) ∧ (50 ≤ v 10 1 ∧ v 10 1 ≤ 99) ∧
       (50 ≤ v 11 2 ∧ v 11 2 ≤ 1000) ∧ (100 ≤ v 13 2 ∧ v 13 2 ≤ 2000) ∧ (100 ≤ v 15 2 ∧ v 15 2 ≤ 5000) ∧
       (2 ≤ v 17 1 ∧ v 17 1 ≤ 16) ∧ v 18 1 ≤ 1 ∧ (1 ≤ v 19 1 ∧ v 19 1 ≤ 15) ∧
       (10 ≤ v 20 1 ∧ v 20 1 ≤ 100 ∧ v 20 1 % 10 = 0) ∧ (5 ≤ v 21 1 ∧ v 21 1 ≤ 120)
     let params : Params :=
       { periodMs := v 0 2, reportTimeoutS := v 2 1, authWaitS := v 3 2, startWaitS := v 5 1, resumeWindowS := v 6 2
         extensionWindowS := v 8 2, topUpPercent := v 10 1, prechargeMs := v 11 2, contactMs := v 13 2, rampMs := v 15 2
         filterLength := v 17 1, sagEnable := v 18 1 == 1, sagIndex := v 19 1, deratePercent := v 20 1, recoveryHoldS := v 21 1 }
     (¬ good → exec .configure s = .next (s.answered r .range [])) ∧
     (good →
       exec .configure s = .next
         { s.answered r .ok [] with
           control := { s.control with params := params }
           prot :=
             if s.params.sagEnable = params.sagEnable then s.prot
             else if params.sagEnable = true then { s.prot with settling := 3 }
             else { s.prot with derate := false, recoveryHold := none, silence := none, live := .unknown, settling := 3 } })) ∧
  ∀ (s : State) (r : HostRecord), s.Takes .timeSet r →
    (1439 < fieldAt r.body 2 2 → exec .timeSet s = .next (s.answered r .range [])) ∧
    (fieldAt r.body 2 2 ≤ 1439 →
      exec .timeSet s = .next
        { s.answered r .ok [] with
          clock := { s.clock with day := fieldAt r.body 0 2, minute := fieldAt r.body 2 2, zeroAt := s.now, valid := true } })

/-! ### Tariffs -/

/-- R43, R45 and R46: TARIFF-LOAD checks the slot number, the reference count, the grace and the eight band minutes in that order;
taken, it writes the contents whole, advances the version and makes the slot ACTIVE. R47: TARIFF-RETIRE takes ACTIVE to RETIRED, leaves
RETIRED as it is, and is refused in EMPTY. R48: TARIFF-READ replies with state, version, reference count and contents of any slot 1 to
8, and changes nothing. R49 and R50: band selection yields the lowest-numbered enabled band that contains the minute, with its price, or
base. -/
def Obligations.TariffRequestsAndBandSelection : Prop :=
  (∀ (s : State) (r : HostRecord), s.Takes .tariffLoad r →
     let start (i : Fin 4) : Nat := fieldAt r.body (10 + 6 * i.val) 2
     let stop (i : Fin 4) : Nat := fieldAt r.body (12 + 6 * i.val) 2
     let good : Prop := fieldAt r.body 9 1 ≤ 60 ∧ ∀ i, start i ≤ 1439 ∧ stop i ≤ 1439
     (tariffOf (fieldAt r.body 0 1) = none → exec .tariffLoad s = .next (s.answered r .range [])) ∧
     ∀ n, tariffOf (fieldAt r.body 0 1) = some n →
       ((s.tariff n).references ≠ 0 → exec .tariffLoad s = .next (s.answered r .inUse [])) ∧
       ((s.tariff n).references = 0 → ¬ good → exec .tariffLoad s = .next (s.answered r .range [])) ∧
       ((s.tariff n).references = 0 → good →
         exec .tariffLoad s = .next
           { s.answered r .ok (leBytes 2 ((s.tariff n).version + 1).toNat) with
             tariffs := s.tariffs.set n.val
               { state := .active
                 version := (s.tariff n).version + 1
                 references := 0
                 contents :=
                   { fee := fieldAt r.body 1 2, basePrice := fieldAt r.body 3 2, timePrice := fieldAt r.body 5 2
                     idlePrice := fieldAt r.body 7 2, grace := fieldAt r.body 9 1
                     bands := Vector.ofFn fun i =>
                       { start := start i, stop := stop i, price := fieldAt r.body (14 + 6 * i.val) 2 } } } })) ∧
  (∀ (s : State) (r : HostRecord), s.Takes .tariffRetire r →
     (tariffOf (fieldAt r.body 0 1) = none → exec .tariffRetire s = .next (s.answered r .range [])) ∧
     ∀ n, tariffOf (fieldAt r.body 0 1) = some n →
       ((s.tariff n).state = .active →
         exec .tariffRetire s = .next
           { s.answered r .ok [] with tariffs := s.tariffs.set n.val { s.tariff n with state := .retired } }) ∧
       ((s.tariff n).state = .retired → exec .tariffRetire s = .next (s.answered r .ok [])) ∧
       ((s.tariff n).state = .empty → exec .tariffRetire s = .next (s.answered r .state []))) ∧
  (∀ (s : State) (r : HostRecord), s.Takes .tariffRead r →
     (tariffOf (fieldAt r.body 0 1) = none → exec .tariffRead s = .next (s.answered r .range [])) ∧
     ∀ n, tariffOf (fieldAt r.body 0 1) = some n →
       exec .tariffRead s = .next (s.answered r .ok
         (leBytes 1 (s.tariff n).state.code ++ leBytes 2 (s.tariff n).version.toNat ++ leBytes 1 (s.tariff n).references ++
           (s.tariff n).contents.bytes))) ∧
  ∀ (c : TariffContents) (minute : Nat),
    (∀ i : Fin 4, c.bands[i.val].start ≤ minute → minute ≤ c.bands[i.val].stop →
      (∀ j : Fin 4, j < i → ¬ (c.bands[j.val].start ≤ minute ∧ minute ≤ c.bands[j.val].stop)) →
      c.select minute = (i.succ, c.bands[i.val].price)) ∧
    ((∀ i : Fin 4, ¬ (c.bands[i.val].start ≤ minute ∧ minute ≤ c.bands[i.val].stop)) → c.select minute = (0, c.basePrice))

/-! ### Requests about sessions -/

/-- R7: the checks of AUTHORISE, in order; each refusal is given whatever the checks behind it would say. -/
def Obligations.AuthoriseIsRefusedByItsFirstFailedCheck : Prop :=
  ∀ (s : State) (r : HostRecord), s.Takes .authorise r →
    let tariff := fieldAt r.body 1 1
    let hold := fieldAt r.body 2 4
    let capMark := fieldAt r.body 6 1
    let cap := fieldAt r.body 7 2
    let refused (code : ResultCode) : Prop := exec .authorise s = .next (s.answered r code [])
    (pedestalOf (fieldAt r.body 0 1) = none → refused .range) ∧
    ∀ p, pedestalOf (fieldAt r.body 0 1) = some p →
      (s.control.commissioned = false → refused .notCommissioned) ∧
      (s.control.commissioned = true →
        (s.clock.valid = false → refused .timeInvalid) ∧
        (s.clock.valid = true →
          ((s.slot p).state ≠ .plugged → refused .state) ∧
          ((s.slot p).state = .plugged →
            ((s.link p).state ≠ .up → refused .linkDown) ∧
            ((s.link p).state = .up →
              ((∀ n, tariffOf tariff = some n → (s.tariff n).state ≠ .active) → refused .noTariff) ∧
              ∀ n, tariffOf tariff = some n → (s.tariff n).state = .active →
                (hold < 1 ∨ 1000000 < hold ∨ 1 < capMark ∨ (capMark = 1 ∧ 500 < cap) → refused .range) ∧
                (1 ≤ hold ∧ hold ≤ 1000000 → capMark = 0 ∨ (capMark = 1 ∧ cap ≤ 500) →
                  (24 ≤ s.openCount + s.settlements.length → refused .queueFull) ∧
                  (s.openCount + s.settlements.length < 24 → s.exhausted = true → refused .limit))))))

/-- R8, R9 and R55: an AUTHORISE that passes every check opens the session with the values listed there, and replies with its number.
(That the count of next numbers stays at 4,294,967,295 once that number is issued is the model's, log 27; R9 gives it no further
value.) -/
def Obligations.AuthoriseOpensTheSession : Prop :=
  ∀ (s : State) (r : HostRecord) (p : Pedestal) (n : TariffNo), s.Takes .authorise r →
    let hold := fieldAt r.body 2 4
    let capMark := fieldAt r.body 6 1
    let cap := fieldAt r.body 7 2
    pedestalOf (fieldAt r.body 0 1) = some p → s.control.commissioned = true → s.clock.valid = true →
    (s.slot p).state = .plugged → (s.link p).state = .up →
    tariffOf (fieldAt r.body 1 1) = some n → (s.tariff n).state = .active →
    1 ≤ hold → hold ≤ 1000000 → (capMark = 0 ∨ (capMark = 1 ∧ cap ≤ 500)) →
    s.openCount + s.settlements.length < 24 → s.exhausted = false →
    let base := if (s.link p).fresh then (s.link p).register else none
    exec .authorise s = .next
      { s.answeredAfter r (s.noticed .session ++ s.cancelled p) .ok (leBytes 4 s.nextSession) with
        slots := s.slots.set p.val
          { s.slot p with
            state := .starting, changed := true, authWait := none
            session := some
              { number := s.nextSession, tariff := n, version := (s.tariff n).version
                startDay := s.clock.day, startMinute := s.clock.minute, request := none
                reasons := { link := false, cutoff := false, hold := false }
                finishCause := none, endOrdered := false
                startWait := some (s.now + s.params.startWaitS * 1000), resumeWindow := none, extensionWindow := none
                interruptions := [], overflow := 0
                accrual :=
                  { base := base, last := base.getD 0, energy := 0, buckets := Vector.replicate 5 0
                    energyAmount := 0, timeAmount := 0, idleAmount := 0, fee := 0, chargingMinutes := 0, idleMinutes := 0
                    grace := 0, hold := hold, topUps := 0, topUpRequested := false, holdReached := false, strikes := 0
                    previousArrival := none, previousSetpoint := 0 } } }
        nextSession := if s.nextSession < 4294967295 then s.nextSession + 1 else s.nextSession
        exhausted := decide (4294967295 ≤ s.nextSession)
        tariffs := s.tariffs.set n.val { s.tariff n with references := (s.tariff n).references + 1 }
        alloc :=
          { s.alloc with
            entries := s.alloc.entries.set p.val
              { s.allot p with stagedCap := some (if capMark = 0 then none else some cap) } }
        clock := { s.clock with stampedDay := s.clock.day, stampedMinute := s.clock.minute }
        field := (s.placeOrder (.beginSession p (s.nextSession % 65536))).startTransmit.field
        notices := (s.raise .session).notices }

/-- R10: DENY takes a PLUGGED slot to WAIT_UNPLUG with PD-REFUSE queued, and is refused in any other state. R14: STOP finishes the session
of the number given with HOST_STOP; UNKNOWN_SESSION where no slot holds it, STATE where it has finished. R19: PEDESTAL-MODE by the mode
requested and the slot's state. -/
def Obligations.DenyStopAndPedestalModeActByState : Prop :=
  (∀ (s : State) (r : HostRecord), s.Takes .deny r →
     (pedestalOf (fieldAt r.body 0 1) = none → exec .deny s = .next (s.answered r .range [])) ∧
     ∀ p, pedestalOf (fieldAt r.body 0 1) = some p →
       ((s.slot p).state ≠ .plugged → exec .deny s = .next (s.answered r .state [])) ∧
       ((s.slot p).state = .plugged →
         exec .deny s = .next
           { s.answeredAfter r (s.noticed .session ++ s.cancelled p) .ok [] with
             slots := s.slots.set p.val { s.slot p with state := .waitUnplug, authWait := none, changed := true }
             field := (s.placeOrder (.refuse p)).startTransmit.field
             notices := (s.raise .session).notices })) ∧
  (∀ (s : State) (r : HostRecord), s.Takes .stop r →
     let number := fieldAt r.body 0 4
     ((∀ p e, s.Holds p e → e.number ≠ number) → exec .stop s = .next (s.answered r .unknownSession [])) ∧
     ∀ p e, s.Holds p e → e.number = number → (∀ q f, s.Holds q f → f.number = number → q = p) →
       ((s.slot p).state = .finished → exec .stop s = .next (s.answered r .state [])) ∧
       ((s.slot p).state = .starting ∨ (s.slot p).state = .running ∨ (s.slot p).state = .suspended →
         let f := (s.finish p .hostStop).startTransmit
         exec .stop s = .next
           { f with
             host := { s.host with requests := s.host.requests.tail, output := f.host.output ++ [replyTo r .ok []] } })) ∧
  ∀ (s : State) (r : HostRecord), s.Takes .pedestalMode r →
    let mode := fieldAt r.body 1 1
    let becomes (p : Pedestal) (m : PedestalMode) : Prop :=
      exec .pedestalMode s = .next { s.answered r .ok [] with slots := s.slots.set p.val { s.slot p with mode := m } }
    (pedestalOf (fieldAt r.body 0 1) = none ∨ 2 < mode → exec .pedestalMode s = .next (s.answered r .range [])) ∧
    ∀ p, pedestalOf (fieldAt r.body 0 1) = some p →
      (mode = 0 → becomes p .inService) ∧
      (mode = 1 → (s.slot p).state = .vacant → becomes p .outOfService) ∧
      (mode = 1 → (s.slot p).state ≠ .vacant → becomes p .closingDown) ∧
      (mode = 2 → (s.slot p).state = .vacant ∨ (s.slot p).state = .waitUnplug → becomes p .outOfService) ∧
      (mode = 2 → (s.slot p).state ≠ .vacant → (s.slot p).state ≠ .waitUnplug →
        exec .pedestalMode s = .next (s.answered r .state []))

/-- R34 and R72: EXTEND-HOLD sets the hold, counts the top-up, clears both flags, removes HOLD with its window, reruns the comparison
and judges the set; its three checks refuse in order. -/
def Obligations.ExtendHoldRaisesTheHold : Prop :=
  ∀ (s : State) (r : HostRecord), s.Takes .extendHold r →
    let number := fieldAt r.body 0 4
    let hold := fieldAt r.body 4 4
    ((∀ p e, s.Holds p e → e.number ≠ number) → exec .extendHold s = .next (s.answered r .unknownSession [])) ∧
    ∀ p e, s.Holds p e → e.number = number → (∀ q f, s.Holds q f → f.number = number → q = p) →
      (hold ≤ e.accrual.hold ∨ 1000000 < hold → exec .extendHold s = .next (s.answered r .range [])) ∧
      (e.accrual.hold < hold → hold ≤ 1000000 → 15 ≤ e.accrual.topUps →
        exec .extendHold s = .next (s.answered r .limit [])) ∧
      (e.accrual.hold < hold → hold ≤ 1000000 → e.accrual.topUps < 15 →
        let extended : Session :=
          { e with
            reasons := { e.reasons with hold := false }
            extensionWindow := if e.reasons.hold then none else e.extensionWindow
            accrual :=
              { e.accrual with
                hold := hold, topUps := e.accrual.topUps + 1, topUpRequested := false, holdReached := false } }
        let raised := s.setSlot p { s.slot p with session := some extended }
        let f := ((raised.compareHold p).judge p).startTransmit
        exec .extendHold s = .next
          { f with
            host := { s.host with requests := s.host.requests.tail, output := f.host.output ++ [replyTo r .ok []] } })

/-- R56, R69 and R70, with R32: the hold comparison sets the top-up flag at the threshold and the hold-reached flag at the hold, each
with the HOLD status and once only; a hold reached suspends a RUNNING or SUSPENDED slot with HOLD and starts the extension window. -/
def Obligations.HoldComparisonSetsFlagsOnce : Prop :=
  ∀ (s : State) (p : Pedestal) (e : Session), s.Holds p e →
    let a := e.accrual
    let accrued := a.energyAmount + a.timeAmount + a.idleAmount + 1000 * a.fee
    let topUp : Prop := a.hold * s.params.topUpPercent * 10 ≤ accrued ∧ a.topUpRequested = false
    let reached : Prop := a.hold * 1000 ≤ accrued ∧ a.holdReached = false
    let flagged (v : State) : State :=
      ({ v with notices := { v.notices with holdDetail := v.notices.holdDetail.set p.val true } } : State).raise .hold
    (¬ topUp → s.compareTopUp p = s) ∧
    (topUp → s.compareTopUp p =
      flagged (s.setSlot p { s.slot p with session := some { e with accrual := { a with topUpRequested := true } } })) ∧
    (¬ reached → s.compareReached p = s) ∧
    (reached →
      let v := flagged (s.setSlot p { s.slot p with session := some { e with accrual := { a with holdReached := true } } })
      ((s.slot p).state = .running ∨ (s.slot p).state = .suspended →
        s.compareReached p = (v.addReason p .hold).startExtension p) ∧
      ((s.slot p).state ≠ .running → (s.slot p).state ≠ .suspended → s.compareReached p = v)) ∧
    s.compareHold p = (s.compareTopUp p).compareReached p

/-- R105 and R106: SESSION-CAP stages a cap for the session's pedestal; CURTAIL puts a lower grid cap in force at once, with the
reduction pass where the computed park power has fallen below P_av (R98), and stages a higher one. R98 and R99: a reduction pass
recomputes the grants from the recorded demands within the new M and raises none, lowers each setpoint to its grant's power with a
PD-SETPOINT for each one lowered, then releases what each pedestal holds beyond its grant in the order of R94, every setpoint's order
ahead of the releases; it changes no cap, demand or pointer, and assigns no module. -/
def Obligations.CapsAreStagedOrCutAtOnce : Prop :=
  ((∀ (s : State) (r : HostRecord), s.Takes .sessionCap r →
     let number := fieldAt r.body 0 4
     let cap := fieldAt r.body 4 2
     ((∀ p e, s.Holds p e → e.number ≠ number) → exec .sessionCap s = .next (s.answered r .unknownSession [])) ∧
     ∀ p e, s.Holds p e → e.number = number → (∀ q f, s.Holds q f → f.number = number → q = p) →
       (500 < cap → cap ≠ 0xFFFF → exec .sessionCap s = .next (s.answered r .range [])) ∧
       (cap ≤ 500 ∨ cap = 0xFFFF →
         exec .sessionCap s = .next
           { s.answered r .ok [] with
             alloc :=
               { s.alloc with
                 entries := s.alloc.entries.set p.val
                   { s.allot p with stagedCap := some (if cap = 0xFFFF then none else some cap) } } })) ∧
   ∀ (s : State) (r : HostRecord), s.Takes .curtail r →
     let cap := fieldAt r.body 0 2
     (s.control.commissioned = false → exec .curtail s = .next (s.answered r .notCommissioned [])) ∧
     (s.control.commissioned = true →
       (s.control.record.ceiling < cap → exec .curtail s = .next (s.answered r .range [])) ∧
       (cap ≤ s.control.record.ceiling → s.alloc.gridCap < cap →
         exec .curtail s = .next
           { s.answered r .ok [] with
             alloc := { s.alloc with stagedGridCap := some cap }
             field := s.startTransmit.field }) ∧
       (cap ≤ s.control.record.ceiling → cap ≤ s.alloc.gridCap →
         let v : State := { s with alloc := { s.alloc with gridCap := cap, stagedGridCap := none } }
         let f := (if v.computedPower < v.alloc.pAv then (v.setPower v.computedPower).reductionPass else v).startTransmit
         exec .curtail s = .next
           { s.answered r .ok [] with alloc := f.alloc, modules := f.modules, field := f.field }))) ∧
  ∀ s : State,
    let t := s.reductionPass
    let shared := shareBudget s.runningBySession (fun p => (s.allot p).demand) s.alloc.pointer s.alloc.budget
    let grant (p : Pedestal) : Nat := min (s.allot p).grant shared.grants[p.val]
    let limit (p : Pedestal) : Nat := grant p * s.control.record.rating
    (∀ p, t.allot p = { s.allot p with grant := grant p, setpoint := min (s.allot p).setpoint (limit p) }) ∧
    sumOver (fun p => (t.allot p).grant) ≤ s.alloc.budget ∧
    (∀ p, (limit p < (s.allot p).setpoint → t.unsentAt (.setpoint p) = some (.setpoint p (limit p))) ∧
      ((s.allot p).setpoint ≤ limit p → t.unsentAt (.setpoint p) = s.unsentAt (.setpoint p)) ∧
      t.unsentAt (.other p) = s.unsentAt (.other p)) ∧
    (∀ p m, (s.module m).heldFor p = true →
      (s.releases p (grant p) m = true →
        t.module m = s.releasedRecord m ∧ t.unsentAt (.module m) = s.releasedOrder m) ∧
      (s.releases p (grant p) m = false → t.module m = s.module m ∧ t.unsentAt (.module m) = s.unsentAt (.module m))) ∧
    (∀ m, (∀ p, (s.module m).heldFor p = false) →
      t.module m = s.module m ∧ t.unsentAt (.module m) = s.unsentAt (.module m)) ∧
    (s.field.queue = [] →
      t.field.queue =
        ((allPedestals.filter fun p => decide (limit p < (s.allot p).setpoint)).map fun p => .setpoint p (limit p)) ++
          allPedestals.flatMap fun p =>
            (s.releasedFrom p (grant p) .precharge).map .openContact ++ (s.releasedFrom p (grant p) .assigned).map .ramp) ∧
    t = { s with
      alloc := { s.alloc with entries := t.alloc.entries }, modules := t.modules
      field := { s.field with queue := t.field.queue } }

/-- R31 and R136: CUTOFF-CLEAR is refused while a line is ASSERTED; with the latch clear it changes nothing; with it set, latch and
sources clear and CUTOFF leaves every session that holds it, which returns a slot to RUNNING where the set is then empty; the SESSION
status is set where a slot returns, and no record but the reply is placed where none does. -/
def Obligations.CutoffClearReleasesTheLatch : Prop :=
  ∀ (s : State) (r : HostRecord), s.Takes .cutoffClear r →
    (s.prot.estop.asserted = true ∨ s.prot.trip.asserted = true →
      exec .cutoffClear s = .next (s.answered r .cutoffActive [])) ∧
    (s.prot.estop.asserted = false → s.prot.trip.asserted = false →
      (s.prot.latch = false → exec .cutoffClear s = .next (s.answered r .ok [])) ∧
      (s.prot.latch = true →
        let left (e : Session) : ReasonSet := { e.reasons with cutoff := false }
        let returns (p : Pedestal) : Prop :=
          ∃ e, s.Holds p e ∧ e.reasons.cutoff = true ∧ (s.slot p).state = .suspended ∧ (left e).isEmpty = true
        ∃ t, exec .cutoffClear s = .next t ∧
          t.prot = { s.prot with latch := false, sources := { estop := false, trip := false, restart := false } } ∧
          (∀ p, (∀ e, s.Holds p e → e.reasons.cutoff = false) → t.slot p = s.slot p) ∧
          (∀ p e, s.Holds p e → e.reasons.cutoff = true →
            t.slot p =
              if (s.slot p).state = .suspended ∧ (left e).isEmpty = true then
                { s.slot p with
                  state := .running, changed := true
                  session := some
                    { e with
                      reasons := left e
                      interruptions := e.interruptions.map (Interruption.closeAt s.clock.day s.clock.minute) } }
              else { s.slot p with session := some { e with reasons := left e } }) ∧
          ((∃ p, returns p) →
            t.host = (s.answeredAfter r (s.noticed .session) .ok []).host ∧ t.notices = (s.raise .session).notices) ∧
          ((∀ p, ¬ returns p) → t.host = (s.answered r .ok []).host ∧ t.notices = s.notices) ∧
          t = { s with slots := t.slots, prot := t.prot, host := t.host, notices := t.notices }))

/-! ### Requests about the field -/

/-- R156 with R38 and R155: PEDESTAL-RESTART advances the epoch, drops the pedestal's unsent orders and places PD-RESET, ends a pending
query with PEDESTAL_RESET, and finishes an open session with its end marked as ordered. -/
def Obligations.PedestalRestartResetsThePedestal : Prop :=
  ∀ (s : State) (r : HostRecord), s.Takes .pedestalRestart r →
    (pedestalOf (fieldAt r.body 0 1) = none → exec .pedestalRestart s = .next (s.answered r .range [])) ∧
    ∀ p, pedestalOf (fieldAt r.body 0 1) = some p →
      (s.control.commissioned = false → exec .pedestalRestart s = .next (s.answered r .notCommissioned [])) ∧
      (s.control.commissioned = true → s.rating p = 0 → exec .pedestalRestart s = .next (s.answered r .range [])) ∧
      (s.control.commissioned = true → s.rating p ≠ 0 →
        let v : State :=
          { s with
            field :=
              { s.field with
                queue := s.field.queue.filter (fun o => o.place != .setpoint p && o.place != .other p) ++ [.reset p]
                links := s.field.links.set p.val
                  { s.link p with epoch := (s.link p).epoch + 1, query := none
                                  queryTimer := if (s.link p).query.isSome then none else (s.link p).queryTimer } }
            slots := s.slots.set p.val
              { s.slot p with session := (s.slot p).session.map fun e => { e with endOrdered := true } }
            host := s.emits (s.resetReplies p) }
        let f := (v.finish p .pedestalRestart).startTransmit
        exec .pedestalRestart s = .next
          { f with
            host := { s.host with requests := s.host.requests.tail, output := f.host.output ++ [replyTo r .ok []] } })

/-- R158: PEDESTAL-QUERY is checked in order; taken, it places PD-QUERY, records the pending query and starts its 2 s timer, with no
reply. R159 and R167: an answer that matches the sent pending query ends it with OK and its data, any other is discarded behind the
link's part of the frame (R147); the query timer's expiry ends it with NO_ANSWER and drops its unsent PD-QUERY. -/
def Obligations.QueriesArePlacedTimedAndEnded : Prop :=
  (∀ (s : State) (r : HostRecord), s.Takes .pedestalQuery r →
     let l (p : Pedestal) := s.link p
     (pedestalOf (fieldAt r.body 0 1) = none → exec .pedestalQuery s = .next (s.answered r .range [])) ∧
     ∀ p, pedestalOf (fieldAt r.body 0 1) = some p →
       ((l p).query ≠ none → exec .pedestalQuery s = .next (s.answered r .busy [])) ∧
       ((l p).query = none → (l p).state ≠ .up → exec .pedestalQuery s = .next (s.answered r .linkDown [])) ∧
       ((l p).query = none → (l p).state = .up → s.unsentAt (.other p) ≠ none →
         exec .pedestalQuery s = .next (s.answered r .busy [])) ∧
       ((l p).query = none → (l p).state = .up → s.unsentAt (.other p) = none →
         exec .pedestalQuery s = .next (State.startTransmit
           { s with
             host := { s.host with requests := s.host.requests.tail }
             field :=
               { s.field with
                 queue := s.field.queue ++ [.query p (l p).epoch (r.body.getD 1 0)]
                 links := s.field.links.set p.val
                   { l p with
                     query := some { tag := r.tag, code := r.body.getD 1 0, epoch := (l p).epoch, sent := false }
                     queryTimer := some (s.now + 2000) } } }))) ∧
  ((∀ (s : State) (time : Nat) (p : Pedestal) (epoch code : Byte) (data : List Byte), s.Hears p → data.length ≤ 6 →
     let u := (s.advance time).heardAndJudged p
     ((∀ q, (s.link p).query = some q → q.sent = false ∨ epoch.toNat ≠ q.epoch.toNat ∨ code ≠ q.code) →
       exec (.pdAnswer time (p.val + 1) epoch code data) s = .next u.startTransmit) ∧
     ∀ q, (s.link p).query = some q → q.sent = true → epoch.toNat = q.epoch.toNat → code = q.code →
       exec (.pdAnswer time (p.val + 1) epoch code data) s = .next (State.startTransmit
         { u with
           field := { u.field with links := u.field.links.set p.val { u.link p with query := none, queryTimer := none } }
           host := u.emits
             [{ kind := 0x98, tag := q.tag
                body := 0 :: BitVec.ofNat 8 (p.val + 1) :: BitVec.ofNat 8 data.length :: data }] })) ∧
   ∀ (s : State) (p : Pedestal) (due : Nat) (q : PendingQuery), s.Live → (s.link p).queryTimer = some due →
     (s.link p).query = some q →
     let u := s.advance due
     exec (.queryTimerExpiry (p.val + 1)) s = .next (State.startTransmit
       { u with
         field :=
           { u.field with
             queue := u.field.queue.filter fun o => match o with
               | .query p' _ _ => p' != p
               | _ => true
             links := u.field.links.set p.val { u.link p with query := none, queryTimer := none } }
         host := u.emits [{ kind := 0x98, tag := q.tag, body := [18, BitVec.ofNat 8 (p.val + 1)] }] }))

/-! ### The host link's events (R163 to R168, R183) -/

/-- R163 to R165: the bytes of a good frame, received in HUNTING within 20 ms of the sync and without a framing error, arrive as the
record they carry: a request joins the queue below 4, is answered BUSY at 4 where the output is below 16, and is dropped otherwise; a
kind in 0x7F to 0xFF is dropped. R164: the receiver takes byte after byte. In HUNTING every byte but a sync is passed over, and one with
a framing error too; in COLLECTING a framing error, a length below 2 or above 248, a CRC that does not match and the frame timer's
expiry each make the frame bad, and the bytes behind its sync are then examined again as if just received, so that the next sync among
them starts a frame of its own; a good frame is handed over, and hunting goes on behind it. Bytes that complete no good frame change
nothing but the receiver. (The model's own: at a full queue behind RESTART nothing is answered, R165 read with R183, log 13; a command
carries a run of bytes, log 20; a byte at exactly 20 ms belongs to the frame and a later one finds it bad, log 26.) -/
def Obligations.HostFramesAreCollectedAndArrive : Prop :=
  (∀ (s : State) (r : HostRecord) (bytes : List RxByte) (first last : RxByte), s.Live → s.host.receiver = .hunting →
     r.body.length ≤ 246 → bytes.map RxByte.value = r.wire → (∀ b ∈ bytes, b.framingError = false) →
     bytes.head? = some first → bytes.getLast? = some last → (∀ b ∈ bytes, b.time ≤ first.time + 20) →
     let u := s.advance last.time
     (0x7F ≤ r.kind.toNat → exec (.hostFrameReceived bytes) s = .next u.startTransmit) ∧
     (r.kind.toNat < 0x7F →
       (s.host.requests.length < 4 →
         exec (.hostFrameReceived bytes) s =
           .next (State.startTransmit { u with host := { u.host with requests := u.host.requests ++ [r] } })) ∧
       (4 ≤ s.host.requests.length → s.host.output.length < 16 → s.host.restartAfter = none →
         exec (.hostFrameReceived bytes) s = .next (State.startTransmit { u with host := u.emits [replyTo r .busy []] })) ∧
       (4 ≤ s.host.requests.length → 16 ≤ s.host.output.length ∨ s.host.restartAfter ≠ none →
         exec (.hostFrameReceived bytes) s = .next u.startTransmit))) ∧
  ((∀ r : Receiver, receive r [] = (r, [])) ∧
   (∀ (b : RxByte) (bs : List RxByte),
     (b.value = 0xA5 → b.framingError = false → receive .hunting (b :: bs) = receive (.collecting b.time []) bs) ∧
     (b.value ≠ 0xA5 ∨ b.framingError = true → receive .hunting (b :: bs) = receive .hunting bs)) ∧
   ∀ (t : Nat) (got : List RxByte) (b : RxByte) (bs : List RxByte),
     let length := match got with
       | [] => b.value.toNat
       | first :: _ => first.value.toNat
     let bytes := (got ++ [b]).map RxByte.value
     let matched := crc16 (bytes.take (length + 1)) = BitVec.ofNat 16 (ofLe (bytes.drop (length + 1)))
     let broken := b.framingError = true ∨ t + 20 < b.time ∨ length < 2 ∨ 248 < length
     let full := length + 3 ≤ got.length + 1
     (broken ∨ (full ∧ ¬ matched) → receive (.collecting t got) (b :: bs) = receive .hunting (got ++ b :: bs)) ∧
     (¬ broken → full → matched →
       receive (.collecting t got) (b :: bs) = ((receive .hunting bs).1, recordOf (got ++ [b]) :: (receive .hunting bs).2)) ∧
     (¬ broken → ¬ full → receive (.collecting t got) (b :: bs) = receive (.collecting t (got ++ [b])) bs)) ∧
  ((∀ (s : State) (bytes : List RxByte) (last : RxByte), s.Live → bytes.getLast? = some last →
     let got := receive s.host.receiver bytes
     let u := s.advance last.time
     let v : State := { u with host := { u.host with receiver := got.1 } }
     exec (.hostFrameReceived bytes) s = .next (got.2.foldl State.arrive v).startTransmit ∧
     (got.2 = [] → exec (.hostFrameReceived bytes) s = .next v.startTransmit)) ∧
   (∀ (s : State) (time : Nat), s.Live →
     exec (.frameSyncReceived time) s =
       exec (.hostFrameReceived [{ value := 0xA5, framingError := false, time := time }]) s) ∧
   ∀ (s : State) (t : Nat) (bytes : List RxByte), s.Live → s.host.receiver = .collecting t bytes →
     let got := receive .hunting bytes
     let u := s.advance (t + 20)
     exec .frameTimerExpiry s =
       .next (got.2.foldl State.arrive { u with host := { u.host with receiver := got.1 } }).startTransmit) ∧
  ((∀ (s : State) (time : Nat), s.Live → s.host.receiver = .hunting →
     let u := s.advance time
     exec (.frameSyncReceived time) s =
       .next (State.startTransmit { u with host := { u.host with receiver := .collecting time [] } })) ∧
   (∀ (s : State) (t : Nat) (got : List RxByte), s.Live → s.host.receiver = .collecting t got →
     (∀ b ∈ got, b.value ≠ 0xA5 ∨ b.framingError = true) →
     let u := s.advance (t + 20)
     exec .frameTimerExpiry s = .next (State.startTransmit { u with host := { u.host with receiver := .hunting } })) ∧
   (∀ (s : State) (t : Nat) (sync : RxByte) (before : List RxByte), s.Live →
     s.host.receiver = .collecting t (before ++ [sync]) → (∀ b ∈ before, b.value ≠ 0xA5 ∨ b.framingError = true) →
     sync.value = 0xA5 → sync.framingError = false →
     let u := s.advance (t + 20)
     exec .frameTimerExpiry s =
       .next (State.startTransmit { u with host := { u.host with receiver := .collecting sync.time [] } })) ∧
   ∀ s : State, s.host.receiver = .hunting → exec .frameTimerExpiry s = .next s)

/-- R168 and R183: the head of the output is transmitted and leaves it; RESTART is taken in every state with OK, after which no request
is taken, and the commanded restart begins once every record up to its reply has gone, and not before. -/
def Obligations.RestartWaitsForItsReply : Prop :=
  (∀ (s : State) (time : Nat) (r : HostRecord) (rest : List HostRecord), s.Live → s.host.output = r :: rest →
    s.host.restartAfter ≠ some 0 →
    let u := s.advance time
    exec (.outputRecordSent time) s = .next (State.startTransmit
      { u with host :=
          { u.host with output := rest, hostTx := r.wire, restartAfter := s.host.restartAfter.map fun n => n - 1 } })) ∧
  (∀ (s : State) (r : HostRecord), s.Takes .restart r →
    exec .restart s = .next
      { s with host :=
          { s.host with
            requests := s.host.requests.tail, output := s.host.output ++ [replyTo r .ok []]
            restartAfter := some (s.host.output.length + 1) } }) ∧
  (∀ (k : RequestKind) (s : State) (n : Nat), s.host.restartAfter = some n → exec k.command s = .next s) ∧
  (∀ (s : State) (straps : BitVec 2) (cut : Option Nat), s.Live → s.host.restartAfter = some 0 →
    exec (.commandedRestartBegin straps cut) s = .next (s.restart .commanded straps cut)) ∧
  ∀ (s : State) (straps : BitVec 2) (cut : Option Nat), s.host.restartAfter ≠ some 0 →
    exec (.commandedRestartBegin straps cut) s = .next s

/-! ### Pedestal reports -/

/-- R4 and R16: a plug report by the slot's state and mode. -/
def Obligations.PlugReportsMoveTheSlot : Prop :=
  ∀ (s : State) (time : Nat) (p : Pedestal), s.Hears p →
    let u := (s.advance time).heardAndJudged p
    let plugged := exec (.pdPlug time (p.val + 1) true) s
    let unplugged := exec (.pdPlug time (p.val + 1) false) s
    ((u.slot p).state = .vacant → (u.slot p).mode = .inService →
      plugged = .next (State.startTransmit
        { u with
          slots := u.slots.set p.val
            { u.slot p with state := .plugged, authWait := some (u.now + u.params.authWaitS * 1000), changed := true }
          notices := (u.raise .session).notices
          host := u.emits (u.noticed .session) })) ∧
    ((u.slot p).state = .vacant → (u.slot p).mode ≠ .inService →
      plugged = .next (State.startTransmit
        { u with
          slots := u.slots.set p.val { u.slot p with state := .waitUnplug, authWait := none, changed := true }
          field := (u.placeOrder (.refuse p)).field
          notices := (u.raise .session).notices
          host := u.emits (u.noticed .session ++ u.cancelled p) })) ∧
    ((u.slot p).state ≠ .vacant → plugged = .next u.startTransmit) ∧
    ((u.slot p).state = .starting ∨ (u.slot p).state = .running ∨ (u.slot p).state = .suspended ∨
        (u.slot p).state = .finished →
      unplugged = .next (u.closeSession p .unplug).startTransmit) ∧
    ((u.slot p).state = .plugged ∨ (u.slot p).state = .waitUnplug →
      unplugged = .next (State.startTransmit
        { u with
          slots := u.slots.set p.val
            { u.slot p with
              state := .vacant, authWait := none, token := none, changed := true
              mode := if (u.slot p).mode = .closingDown then .outOfService else (u.slot p).mode }
          notices := (u.raise .session).notices
          host := u.emits (u.noticed .session) })) ∧
    ((u.slot p).state = .vacant → unplugged = .next u.startTransmit)

/-- R5: a token is stored in PLUGGED alone. R11, R12, R32 and R65: READY starts a STARTING session, with the fee charged and the hold
compared before its state is settled, and replaces the request of a RUNNING or SUSPENDED one; DONE finishes it. -/
def Obligations.TokenAndVehicleReportsAreTakenByState : Prop :=
  ∀ (s : State) (time : Nat) (p : Pedestal), s.Hears p →
    let u := (s.advance time).heardAndJudged p
    (∀ token,
      ((u.slot p).state = .plugged →
        exec (.pdToken time (p.val + 1) token) s = .next (State.startTransmit
          { u with
            slots := u.slots.set p.val { u.slot p with token := some token, changed := true }
            notices := (u.raise .session).notices
            host := u.emits (u.noticed .session) })) ∧
      ((u.slot p).state ≠ .plugged → exec (.pdToken time (p.val + 1) token) s = .next u.startTransmit)) ∧
    (∀ (kw : BitVec 16) (e : Session), u.Holds p e →
      let ready := exec (.pdVehicle time (p.val + 1) true kw) s
      let request := min kw.toNat 500
      ((u.slot p).state = .running ∨ (u.slot p).state = .suspended →
        ready = .next (State.startTransmit
          (u.setSlot p { u.slot p with session := some { e with request := some request } }))) ∧
      ((u.slot p).state = .starting →
        let charged := u.setSlot p
          { u.slot p with
            session := some
              { e with startWait := none, accrual := { e.accrual with fee := (u.tariff e.tariff).contents.fee } } }
        let v := charged.compareHold p
        ∃ e', v.Holds p e' ∧
          (u.prot.latch = false → e'.accrual.holdReached = false →
            ready = .next (State.startTransmit
              { v with
                slots := v.slots.set p.val
                  { v.slot p with
                    state := .running, changed := true
                    session := some
                      { e' with
                        request := some request, reasons := { link := false, cutoff := false, hold := false } } }
                notices := (v.raise .session).notices
                host := v.emits (v.noticed .session) })) ∧
          (u.prot.latch = true ∨ e'.accrual.holdReached = true →
            ready = .next (State.startTransmit
              { v with
                slots := v.slots.set p.val
                  { v.slot p with
                    state := .suspended, changed := true
                    session := some
                      { e' with
                        request := some request
                        reasons := { link := false, cutoff := u.prot.latch, hold := e'.accrual.holdReached }
                        extensionWindow :=
                          if e'.accrual.holdReached = true then
                            v.startWindow e'.extensionWindow v.params.extensionWindowS
                          else e'.extensionWindow } }
                notices := (v.raise .session).notices
                host := v.emits (v.noticed .session) })))) ∧
    (∀ kw : BitVec 16,
      ((u.slot p).state = .vacant ∨ (u.slot p).state = .plugged ∨ (u.slot p).state = .finished ∨
          (u.slot p).state = .waitUnplug →
        exec (.pdVehicle time (p.val + 1) true kw) s = .next u.startTransmit ∧
        exec (.pdVehicle time (p.val + 1) false kw) s = .next u.startTransmit) ∧
      ((u.slot p).state = .running ∨ (u.slot p).state = .suspended →
        exec (.pdVehicle time (p.val + 1) false kw) s = .next (u.finish p .vehicleDone).startTransmit) ∧
      ((u.slot p).state = .starting →
        exec (.pdVehicle time (p.val + 1) false kw) s = .next (u.finish p .startFailed).startTransmit))

/-- R57 to R59 and R61 to R64: a backward register is a meter fault and is not kept; a forward one is kept with the fresh mark and, in
an open session, opens the metering or is priced at the band of the minute, checked for overdraw and compared with the hold. R57, R59
and R147: a PD-METER is heard and then checked and priced. Over a SILENT link into a SUSPENDED slot that its own return would bring to
RUNNING and its own hold comparison back to SUSPENDED, the slot never leaves SUSPENDED (R26; that the report is priced against the
suspended slot is the model's, log 14). -/
def Obligations.MeterReportsAreHeardCheckedAndPriced : Prop :=
  (∀ (u : State) (p : Pedestal) (w : Nat),
     let result := u.takeMeter p w
     let kept := u.setLink p { u.link p with register := some w, fresh := true }
     (∀ last, (u.link p).register = some last → w < last →
       result = (u.raiseCondition p fun c => { c with meterFault := true }).finish p .meterFault) ∧
     ((∀ last, (u.link p).register = some last → last ≤ w) →
       ((u.slot p).session = none → result = kept) ∧
       ∀ e, u.Holds p e →
         let a := e.accrual
         let setpoint := (u.allot p).setpoint
         let withAccrual (x : Accrual) : State := kept.setSlot p { u.slot p with session := some { e with accrual := x } }
         let overdrawn (v : State) : State := v.raiseCondition p fun c => { c with overdraw := true }
         (a.base = none →
           result = withAccrual
             { a with base := some w, last := w, previousArrival := some u.now, previousSetpoint := setpoint }) ∧
         (∀ base, a.base = some base →
           let delta := w - a.last
           let band := (u.tariff e.tariff).contents.select u.clock.minute
           let larger := max setpoint a.previousSetpoint
           let allowed := larger + max (larger / 10) 5
           let priced : Accrual :=
             { a with
               energy := a.energy + delta
               buckets := a.buckets.set band.1.val (a.buckets[band.1.val] + delta)
               energyAmount := a.energyAmount + delta * band.2
               last := w }
           let checked (strikes : Nat) : Accrual :=
             { priced with strikes := strikes, previousArrival := some u.now, previousSetpoint := setpoint }
           (a.previousArrival = none ∨ (∃ t, a.previousArrival = some t ∧ u.now - t < 100) →
             result = (withAccrual (checked a.strikes)).compareHold p) ∧
           ∀ t, a.previousArrival = some t → 100 ≤ u.now - t →
             (delta * 3600 ≤ allowed * (u.now - t) → result = (withAccrual (checked 0)).compareHold p) ∧
             (allowed * (u.now - t) < delta * 3600 →
               (a.strikes < 2 → result = (withAccrual (checked (a.strikes + 1))).compareHold p) ∧
               (a.strikes = 2 →
                 ∃ e', ((overdrawn (withAccrual { priced with strikes := 3 })).finish p .overdraw).Holds p e' ∧
                   result =
                     (((overdrawn (withAccrual { priced with strikes := 3 })).finish p .overdraw).setSlot p
                       { ((overdrawn (withAccrual { priced with strikes := 3 })).finish p .overdraw).slot p with
                         session := some
                           { e' with
                             accrual :=
                               { e'.accrual with previousArrival := some u.now, previousSetpoint := setpoint } } }).compareHold
                       p) ∧
               (3 ≤ a.strikes → result = (overdrawn (withAccrual (checked a.strikes))).compareHold p))))) ∧
  ∀ (s : State) (time : Nat) (p : Pedestal) (register : BitVec 32), s.Hears p →
    let u := (s.advance time).heardAndJudged p
    let stays := (s.slot p).state = .suspended ∧ (u.slot p).state = .running ∧
      ((u.takeMeter p register.toNat).slot p).state = .suspended
    (¬ stays → exec (.pdMeter time (p.val + 1) register) s = .next (u.takeMeter p register.toNat).startTransmit) ∧
    (stays → ∀ e, s.Holds p e →
      let heard := (u.setSlot p
        { s.slot p with
          session := some { e with resumeWindow := none, reasons := { e.reasons with link := false } } })
      exec (.pdMeter time (p.val + 1) register) s = .next (State.startTransmit
        (State.takeMeter { heard with notices := s.notices, host := s.host } p register.toNat)))

/-- R157 with R18, R39 and R155: PD-RESTARTED advances the epoch, drops the pedestal's unsent orders, ends a pending query with
PEDESTAL_RESET, sets FIELD with restart, and is then taken by the slot's state and the connector's position. -/
def Obligations.PedestalRestartReportIsTakenInFull : Prop :=
  ∀ (s : State) (time : Nat) (p : Pedestal) (plugged : Bool), s.Hears p →
    let u := (s.advance time).heardAndJudged p
    let reset : State :=
      { u with
        field :=
          { u.field with
            queue := u.field.queue.filter fun o => o.place != .setpoint p && o.place != .other p
            links := u.field.links.set p.val
              { u.link p with epoch := (u.link p).epoch + 1, query := none
                              queryTimer := if (u.link p).query.isSome then none else (u.link p).queryTimer } }
        host := u.emits (u.resetReplies p) }
    let v := reset.raiseCondition p fun c => { c with restart := true }
    let result := exec (.pdRestarted time (p.val + 1) plugged) s
    let marked := v.setSlot p { v.slot p with session := (v.slot p).session.map fun e => { e with endOrdered := true } }
    ((u.slot p).state = .vacant → plugged = false → result = .next v.startTransmit) ∧
    ((u.slot p).state = .vacant → plugged = true → result = .next (v.plugIn p).startTransmit) ∧
    ((u.slot p).state = .plugged → plugged = true → result = .next v.startTransmit) ∧
    ((u.slot p).state = .waitUnplug → plugged = true → result = .next (v.placeOrder (.refuse p)).startTransmit) ∧
    ((u.slot p).state = .plugged ∨ (u.slot p).state = .waitUnplug → plugged = false →
      result = .next (v.freeSlot p).startTransmit) ∧
    ((u.slot p).state = .starting ∨ (u.slot p).state = .running ∨ (u.slot p).state = .suspended ∨
        (u.slot p).state = .finished →
      (plugged = true → result = .next (marked.finish p .pedestalRestart).startTransmit) ∧
      (plugged = false → result = .next (marked.closeSession p .unplug).startTransmit))

/-- R6, R13, R29 and R33: the auth wait, the start wait, the resume window and the extension window expire while they run, and then do
what their rules say; a stopped one does not expire. R27 and R154: the report timer's expiry in UP takes the link to SILENT, sets FIELD
with silence, suspends a RUNNING or SUSPENDED slot with LINK, and starts the resume window of every open session once. -/
def Obligations.SlotAndReportTimersExpireByTheirRules : Prop :=
  (∀ (s : State) (p : Pedestal), s.Live →
     (∀ due, (s.slot p).state = .plugged → (s.slot p).authWait = some due →
       let u := s.advance due
       exec (.authWaitExpiry (p.val + 1)) s = .next (State.startTransmit
         { u with
           slots := u.slots.set p.val { u.slot p with state := .waitUnplug, authWait := none, changed := true }
           field := (u.placeOrder (.refuse p)).field
           notices := (u.raise .session).notices
           host := u.emits (u.noticed .session ++ u.cancelled p) })) ∧
     ((s.slot p).authWait = none → exec (.authWaitExpiry (p.val + 1)) s = .next s) ∧
     (∀ e, s.Holds p e →
       (∀ due, (s.slot p).state = .starting → e.startWait = some due →
         exec (.startWaitExpiry (p.val + 1)) s = .next ((s.advance due).finish p .startFailed).startTransmit) ∧
       (∀ due, e.resumeWindow = some due →
         exec (.resumeWindowExpiry (p.val + 1)) s = .next ((s.advance due).closeSession p .linkLost).startTransmit) ∧
       (∀ due, (s.slot p).state = .suspended → e.extensionWindow = some due →
         exec (.extensionWindowExpiry (p.val + 1)) s = .next ((s.advance due).finish p .holdExpired).startTransmit) ∧
       (e.startWait = none → exec (.startWaitExpiry (p.val + 1)) s = .next s) ∧
       (e.resumeWindow = none → exec (.resumeWindowExpiry (p.val + 1)) s = .next s) ∧
       (e.extensionWindow = none → exec (.extensionWindowExpiry (p.val + 1)) s = .next s)) ∧
     ((s.slot p).session = none →
       exec (.startWaitExpiry (p.val + 1)) s = .next s ∧ exec (.resumeWindowExpiry (p.val + 1)) s = .next s ∧
       exec (.extensionWindowExpiry (p.val + 1)) s = .next s)) ∧
  ∀ (s : State) (p : Pedestal) (due : Nat), s.Live → (s.link p).state = .up → (s.link p).reportTimer = some due →
    let u := s.advance due
    let v := (u.setLink p { u.link p with state := .silent, reportTimer := none }).raiseCondition p
      fun c => { c with silence := true }
    let result := exec (.reportTimerExpiry (p.val + 1)) s
    let window (e : Session) : Timer :=
      match e.resumeWindow with
      | some d => some d
      | none => some (v.now + v.params.resumeWindowS * 1000)
    ((s.slot p).state = .vacant ∨ (s.slot p).state = .plugged ∨ (s.slot p).state = .waitUnplug →
      result = .next v.startTransmit) ∧
    (∀ e, s.Holds p e → (s.slot p).state = .starting ∨ (s.slot p).state = .finished →
      result = .next (State.startTransmit
        (v.setSlot p { v.slot p with session := some { e with resumeWindow := window e } }))) ∧
    (∀ e, s.Holds p e → (s.slot p).state = .suspended →
      result = .next (State.startTransmit
        (v.setSlot p
          { v.slot p with
            session := some { e with reasons := { e.reasons with link := true }, resumeWindow := window e } }))) ∧
    ∀ e, s.Holds p e → (s.slot p).state = .running →
      ∃ e', (v.addReason p .link).Holds p e' ∧ e'.resumeWindow = e.resumeWindow ∧
        result = .next (State.startTransmit
          ((v.addReason p .link).setSlot p
            { (v.addReason p .link).slot p with session := some { e' with resumeWindow := window e } }))

/-! ### Modules (R114 to R125) -/

/-- R96, R102, R115, R116, R119 and R120: the switching sequence of a module, by its reports and its timers: the precharge timer closes,
a closed report assigns (and sets the setpoint to the smallest of the wanted power, the assigned power and the grant) or ramps a marked
module down, a zero report or the ramp timer opens, an open report frees. R121: other reports of contact are ignored. -/
def Obligations.ModulesFollowTheSwitchingSequence : Prop :=
  ∀ (s : State) (m : ModuleNo),
    let r := s.module m
    let opened (u : State) : Result := .next (State.startTransmit
      { u with
        modules := u.modules.set m.val
          { r with state := .contactOpen, timer := .running (u.now + u.params.contactMs), releaseOnClose := false }
        field := (u.placeOrder (.openContact m)).field })
    (∀ due, s.Live → r.state = .precharge → r.timer = .running due →
      let u := s.advance due
      exec (.prechargeTimerExpiry (m.val + 1)) s = .next (State.startTransmit
        { u with
          modules := u.modules.set m.val
            { r with state := .contactClose, timer := .running (u.now + u.params.contactMs), releaseOnClose := false }
          field := (u.placeOrder (.close m)).field })) ∧
    (∀ due, s.Live → r.state = .rampDown → r.timer = .running due →
      exec (.rampTimerExpiry (m.val + 1)) s = opened (s.advance due)) ∧
    ∀ time, s.HearsModule m →
      let u := s.advance time
      let report (c : Contact) : Result := exec (.mdState time (m.val + 1) c) s
      (∀ p, r.state = .contactClose → r.releaseOnClose = false → r.assigned = some p →
        let v := u.setModule m { r with state := .assigned, timer := .stopped }
        let rating := s.control.record.rating
        let request := match (s.slot p).session with
          | some e => e.request.getD 0
          | none => 0
        let wanted := match (s.allot p).cap with
          | none => min request (s.rating p)
          | some kw => min (min request (s.rating p)) kw
        let kw := if (s.slot p).state = .running then
            min (min wanted (v.assignedCount p * rating)) ((s.allot p).grant * rating)
          else 0
        report .closed = .next (State.startTransmit
          (if (u.allot p).setpoint = kw then v
           else (v.setAllot p { v.allot p with setpoint := kw }).placeOrder (.setpoint p kw)))) ∧
      (r.state = .contactClose → r.releaseOnClose = true →
        report .closed = .next (State.startTransmit
          { u with
            modules := u.modules.set m.val
              { r with state := .rampDown, timer := .running (u.now + u.params.rampMs), releaseOnClose := false }
            field := (u.placeOrder (.ramp m)).field })) ∧
      (r.state = .rampDown → report .zero = opened u) ∧
      (r.state = .contactOpen →
        report .opened = .next (State.startTransmit
          (u.setModule m { r with state := .free, timer := .stopped, assigned := none, forced := false }))) ∧
      (∀ c, (r.state = .free ∧ c ≠ .closed) ∨ (r.state = .precharge ∧ c ≠ .closed) ∨ (r.state = .contactClose ∧ c ≠ .closed) ∨
          (r.state = .assigned ∧ c ≠ .opened) ∨ (r.state = .rampDown ∧ c = .closed) ∨
          (r.state = .contactOpen ∧ c ≠ .opened) ∨ r.state = .faulted →
        report c = .next u.startTransmit)

/-- R117, R120 to R123 and R103: a contact timer that runs out, a contact report that contradicts the state, and a module's own fault
take it to FAULTED: fault recorded, timer stopped, pedestal removed, the setpoint lowered where it was ASSIGNED, MD-OPEN queued and PARK
set. R125: MODULE-RETURN opens a FAULTED module again, and no other. -/
def Obligations.FaultsTakeModulesOutOfService : Prop :=
  (∀ (s : State) (m : ModuleNo),
    let r := s.module m
    let faulted (u : State) (origin : FaultOrigin) (code : Byte) : Result :=
      let v := u.setModule m
        { r with
          state := .faulted, timer := .stopped, releaseOnClose := false, assigned := none
          fault := some { origin := origin, code := code } }
      let lowered : State :=
        match r.state, r.assigned with
        | .assigned, some p => v.lowerSetpoint p (v.assignedCount p * v.control.record.rating)
        | _, _ => v
      let w := lowered.placeOrder (.openContact m)
      .next (State.startTransmit (({ w with
        notices :=
          { w.notices with
            parkDetail := { w.notices.parkDetail with faulted := w.notices.parkDetail.faulted.set m.val true } } } :
        State).raise .park))
    (∀ due, s.Live → r.timer = .running due →
      (r.state = .contactClose → exec (.contactTimerExpiry (m.val + 1)) s = faulted (s.advance due) .closeTimeout 0) ∧
      (r.state = .contactOpen → exec (.contactTimerExpiry (m.val + 1)) s = faulted (s.advance due) .openTimeout 0)) ∧
    ∀ time, s.HearsModule m →
      let u := s.advance time
      (r.state = .free ∨ r.state = .precharge →
        exec (.mdState time (m.val + 1) .closed) s = faulted u .unexpectedClosed 0) ∧
      (r.state = .assigned ∨ r.state = .rampDown →
        exec (.mdState time (m.val + 1) .opened) s = faulted u .unexpectedOpen 0) ∧
      ∀ code : Byte,
        (r.state ≠ .faulted → exec (.mdFault time (m.val + 1) code) s = faulted u .reported code) ∧
        (r.state = .faulted → exec (.mdFault time (m.val + 1) code) s = .next u.startTransmit)) ∧
  ∀ (s : State) (r : HostRecord), s.Takes .moduleReturn r →
    (moduleOf (fieldAt r.body 0 1) = none → exec .moduleReturn s = .next (s.answered r .range [])) ∧
    ∀ m, moduleOf (fieldAt r.body 0 1) = some m →
      ((s.module m).state ≠ .faulted → exec .moduleReturn s = .next (s.answered r .state [])) ∧
      ((s.module m).state = .faulted →
        exec .moduleReturn s = .next
          { s.answered r .ok [] with
            modules := s.modules.set m.val
              { s.module m with
                state := .contactOpen, assigned := pedestalOf (s.module m).window.first
                timer := .running (s.now + s.params.contactMs), releaseOnClose := false, forced := false, fault := none }
            field := (s.placeOrder (.openContact m)).startTransmit.field })

/-! ### Grid meter and safety lines (R131 to R144) -/

/-- R141 to R144: a GM-VOLTS reading is ignored with sag enable off, counted while settling, and otherwise compared: below the threshold
derate becomes active with a reduction pass considered and PARK set, at or above it the recovery hold runs; its expiry clears derate,
and the silence timer's expiry sets FIELD and counts as a low reading. -/
def Obligations.GridMeterReadingsDecideDerate : Prop :=
  ∀ s : State, s.Live →
    let low (u : State) : State :=
      let v : State := { u with prot := { u.prot with live := .sag, recoveryHold := none, derate := true } }
      if u.prot.derate = true then v
      else
        let w := if v.computedPower < v.alloc.pAv then (v.setPower v.computedPower).reductionPass else v
        ({ w with notices := { w.notices with parkDetail := { w.notices.parkDetail with sag := true } } } : State).raise .park
    (∀ (time : Nat) (reading : BitVec 16), s.field.can = .onBus →
      let u := s.advance time
      let timed : State := { u with prot := { u.prot with silence := some (u.now + u.params.reportTimeoutS * 1000) } }
      let result := exec (.gmVolts time reading) s
      (s.params.sagEnable = false → result = .next u.startTransmit) ∧
      (s.params.sagEnable = true → 1 < s.prot.settling →
        result = .next (State.startTransmit { u with prot := { u.prot with settling := u.prot.settling - 1 } })) ∧
      (s.params.sagEnable = true → s.prot.settling = 1 →
        result = .next (State.startTransmit { timed with prot := { timed.prot with settling := 0 } })) ∧
      (s.params.sagEnable = true → s.prot.settling = 0 →
        (reading.toNat < 800 + 10 * (s.params.sagIndex - 1) → result = .next (low timed).startTransmit) ∧
        (800 + 10 * (s.params.sagIndex - 1) ≤ reading.toNat →
          result = .next (State.startTransmit
            { timed with prot :=
                { timed.prot with
                  live := .normal
                  recoveryHold :=
                    match s.prot.derate, s.prot.recoveryHold with
                    | true, none => some (u.now + u.params.recoveryHoldS * 1000)
                    | _, running => running } })))) ∧
    (∀ due, s.prot.recoveryHold = some due →
      let u := s.advance due
      exec .recoveryHoldExpiry s =
        .next (State.startTransmit { u with prot := { u.prot with derate := false, recoveryHold := none } })) ∧
    (s.prot.recoveryHold = none → exec .recoveryHoldExpiry s = .next s) ∧
    (∀ due, s.prot.silence = some due →
      let u := s.advance due
      let v := ({ u with
        notices := { u.notices with fieldDetail := { u.notices.fieldDetail with meterSilent := true } } } : State).raise .field
      exec .silenceTimerExpiry s = .next
        (low { v with prot := { v.prot with silence := some (v.now + v.params.reportTimeoutS * 1000) } }).startTransmit) ∧
    (s.prot.silence = none → exec .silenceTimerExpiry s = .next s)

/-- R131, R134 and R135: a line's level is accepted when its most recent N samples agree against it. An accepted assertion records its
source; with the latch clear it sets the latch, applies R98, forces every module open and adds CUTOFF to every RUNNING or SUSPENDED
session; and it sets PARK. An accepted release changes the line's level and nothing else. (That a command carries a run of n equal
samples, judged at its end, and only shifts them in where they are too few, is the model's, log 9.) -/
def Obligations.LinesAreFilteredAndSetTheLatch : Prop :=
  ∀ (s : State) (time : Nat) (line : SafetyLine) (n : Nat), s.Live → 1 ≤ n →
    let u := s.advance time
    let f := s.prot.filter line
    let lows : BitVec 16 := f.samples <<< n
    let highs : BitVec 16 := ~~~(~~~f.samples <<< n)
    let allLow : Prop := ∀ i, i < s.params.filterLength → lows.getLsbD i = false
    let allHigh : Prop := ∀ i, i < s.params.filterLength → highs.getLsbD i = true
    let sourced (v : State) : State :=
      { v with prot := { v.prot with
          latch := true
          sources := match line with
            | .estop => { v.prot.sources with estop := true }
            | .trip => { v.prot.sources with trip := true } } }
    let parked (v : State) : State :=
      ({ v with notices := { v.notices with
          parkDetail := match line with
            | .estop => { v.notices.parkDetail with estop := true }
            | .trip => { v.notices.parkDetail with trip := true } } } : State).raise .park
    let asserted := sourced (u.setFilter line { samples := lows, asserted := true })
    s.params.filterLength ≤ 16 →
    (f.asserted = true ∨ ¬ allLow →
      exec (.lineAssertionAccepted time line n) s =
        .next (u.setFilter line { f with samples := lows }).startTransmit) ∧
    (f.asserted = false → allLow →
      (s.prot.latch = true → exec (.lineAssertionAccepted time line n) s = .next (parked asserted).startTransmit) ∧
      (s.prot.latch = false →
        let cut := if 0 < s.alloc.pAv then (asserted.setPower 0).reductionPass else asserted
        exec (.lineAssertionAccepted time line n) s = .next (parked cut.forceAll.addCutoff).startTransmit)) ∧
    (f.asserted = false ∨ ¬ allHigh →
      exec (.lineReleaseAccepted time line n) s = .next (u.setFilter line { f with samples := highs }).startTransmit) ∧
    (f.asserted = true → allHigh →
      exec (.lineReleaseAccepted time line n) s =
        .next (u.setFilter line { samples := highs, asserted := false }).startTransmit)

/-- R124 and R103: the forced opening opens every switching module with its mark set and one MD-OPEN, and leaves the others; a pedestal
that had an ASSIGNED module has setpoint 0 afterwards, with PD-SETPOINT 0 where it was above 0, and no other setpoint or order changes.
R30 with R25: the cutoff is then added to every RUNNING or SUSPENDED session and to no other; a RUNNING one is suspended and its power
withdrawn (R100), and one SESSION notice at most is sent. -/
def Obligations.CutoffOpensModulesAndSuspendsSessions : Prop :=
  (∀ s : State,
    let t := s.forceAll
    (∀ m, (s.module m).state.switching = true →
      t.module m =
        { s.module m with
          state := .contactOpen, timer := .running (s.now + s.params.contactMs), releaseOnClose := false, forced := true } ∧
      t.unsentAt (.module m) = some (.openContact m)) ∧
    (∀ m, (s.module m).state.switching = false →
      t.module m = s.module m ∧ t.unsentAt (.module m) = s.unsentAt (.module m)) ∧
    (∀ p, t.allot p = { s.allot p with setpoint := if 0 < s.assignedCount p then 0 else (s.allot p).setpoint }) ∧
    (∀ p, (0 < s.assignedCount p → 0 < (s.allot p).setpoint → t.unsentAt (.setpoint p) = some (.setpoint p 0)) ∧
      (s.assignedCount p = 0 ∨ (s.allot p).setpoint = 0 → t.unsentAt (.setpoint p) = s.unsentAt (.setpoint p)) ∧
      t.unsentAt (.other p) = s.unsentAt (.other p)) ∧
    t = { s with
      alloc := { s.alloc with entries := t.alloc.entries }, modules := t.modules
      field := { s.field with queue := t.field.queue } }) ∧
  ∀ s : State,
    let t := s.addCutoff
    (∀ p, (s.slot p).state ≠ .running → (s.slot p).state ≠ .suspended → t.slot p = s.slot p) ∧
    (∀ p e, s.Holds p e → (s.slot p).state = .suspended →
      t.slot p = { s.slot p with session := some { e with reasons := { e.reasons with cutoff := true } } }) ∧
    (∀ p e, s.Holds p e → (s.slot p).state = .running →
      (t.slot p).state = .suspended ∧
        ∃ e', t.Holds p e' ∧ e'.reasons = { e.reasons with cutoff := true } ∧ e'.accrual = e.accrual) ∧
    (∀ p, t.allot p = if (s.slot p).state = .running then { s.allot p with setpoint := 0, grant := 0, demand := 0 } else s.allot p) ∧
    (∀ p, t.unsentAt (.other p) = s.unsentAt (.other p) ∧
      ((s.slot p).state ≠ .running → t.unsentAt (.setpoint p) = s.unsentAt (.setpoint p))) ∧
    (∀ m, (∀ p, (s.slot p).state = .running → (s.module m).heldFor p = false) →
      t.module m = s.module m ∧ t.unsentAt (.module m) = s.unsentAt (.module m)) ∧
    ((∃ p, (s.slot p).state = .running) → t.notices = (s.raise .session).notices ∧ t.host = s.emits (s.noticed .session)) ∧
    ((∀ p, (s.slot p).state ≠ .running) → t.notices = s.notices ∧ t.host = s.host) ∧
    t = { s with
      slots := t.slots, alloc := { s.alloc with entries := t.alloc.entries }, modules := t.modules
      field := { s.field with queue := t.field.queue }, notices := t.notices, host := t.host }

/-! ### Discarded frames -/

/-- R146 and R152: a frame that the acceptance discards, and any frame in BUS_OFF or of a node that is not installed, changes nothing.
(A FIELD_FRAME_DISCARDED that carries an acceptable frame is taken as its report: the model's choice, log 19.) -/
def Obligations.UnacceptedFramesChangeNothing : Prop :=
  (∀ (s : State) (time : Nat) (f : FieldFrame), frameReport f = none → exec (.fieldFrameDiscarded time f) s = .next s) ∧
  (∀ (s : State) (time n : Nat), (∀ p, n = p.val + 1 → ¬ s.Hears p) →
    (∀ b, exec (.pdPlug time n b) s = .next s) ∧ (∀ k, exec (.pdToken time n k) s = .next s) ∧
    (∀ b kw, exec (.pdVehicle time n b kw) s = .next s) ∧ (∀ w, exec (.pdMeter time n w) s = .next s) ∧
    (∀ b, exec (.pdRestarted time n b) s = .next s) ∧ ∀ e c d, exec (.pdAnswer time n e c d) s = .next s) ∧
  (∀ (s : State) (time n : Nat), (∀ m, n = m.val + 1 → ¬ s.HearsModule m) →
    (∀ c, exec (.mdState time n c) s = .next s) ∧ ∀ c, exec (.mdFault time n c) s = .next s) ∧
  (∀ (s : State) (time : Nat) (reading : BitVec 16), s.field.can = .busOff → exec (.gmVolts time reading) s = .next s) ∧
  ∀ f : FieldFrame,
    f.extended = true ∨ f.remote = true ∨ 8 < f.data.length ∨ f.ident.toNat % 128 = 0 ∨
      (16 < f.ident.toNat % 128 ∧ f.ident.toNat % 128 < 33) ∨
      (64 < f.ident.toNat % 128 ∧ f.ident.toNat % 128 ≠ 80) ∨
      (f.ident.toNat % 128 ≤ 16 ∧ (f.ident.toNat / 128 < 7 ∨ 12 < f.ident.toNat / 128)) →
    frameReport f = none

/-! ### The regular pass and the minute -/

/-- R90 to R96: at the expiry of the period, staged caps come into force, P_av and M are set from the computed park power (R88), demands
are recorded, the grants and the rotation pointer are those of R93 (`shareBudget`), each pedestal's held modules beyond its grant are
released in the order of R94, FREE modules that reach a pedestal are assigned until its held count equals its grant or no such module
remains, and every setpoint is the smallest of wanted power, assigned power and grant, 0 outside RUNNING, with a PD-SETPOINT where it has
changed; the timer starts again. -/
def Obligations.RegularPassSharesTheBudget : Prop :=
  ∀ (s : State) (due : Nat), s.Live → s.alloc.periodTimer = some due →
    let u := s.advance due
    let rating := s.control.record.rating
    let ceiling := s.control.record.ceiling
    let gridCap := match s.alloc.stagedGridCap with
      | some kw => kw
      | none => s.alloc.gridCap
    let power :=
      if s.control.commissioned = false ∨ s.prot.latch = true then 0
      else min (min ceiling gridCap) (if s.prot.derate = true then ceiling * s.params.deratePercent / 100 else ceiling)
    let cap (p : Pedestal) : Cap := match (s.allot p).stagedCap with
      | some c => c
      | none => (s.allot p).cap
    let request (p : Pedestal) : Nat := match (s.slot p).session with
      | some e => e.request.getD 0
      | none => 0
    let wanted (p : Pedestal) : Nat := match cap p with
      | none => min (request p) (s.rating p)
      | some kw => min (min (request p) (s.rating p)) kw
    let demand (p : Pedestal) : Nat := if (s.slot p).state = .running then (wanted p + rating - 1) / rating else 0
    let shared := shareBudget s.runningBySession demand s.alloc.pointer (power / rating)
    let grant (p : Pedestal) : Nat := shared.grants[p.val]
    let reaches (m : ModuleNo) (p : Pedestal) : Prop :=
      (s.module m).window.first ≤ p.val + 1 ∧ p.val + 1 ≤ (s.module m).window.last
    ∃ t : State, exec .apportionmentPeriodExpiry s = .next t.startTransmit ∧
      t.alloc.gridCap = gridCap ∧ t.alloc.stagedGridCap = none ∧ t.alloc.pAv = power ∧ t.alloc.budget = power / rating ∧
      t.alloc.periodTimer = some (u.now + s.params.periodMs) ∧ t.alloc.pointer = shared.last.getD s.alloc.pointer ∧
      (∀ p, (t.allot p).cap = cap p ∧ (t.allot p).stagedCap = none ∧ (t.allot p).demand = demand p ∧
        (t.allot p).grant = grant p) ∧
      (∀ p, grant p ≤ demand p) ∧ sumOver grant ≤ power / rating ∧
      ((∀ p, (s.slot p).state = .running → (s.slot p).session ≠ none) →
        sumOver demand ≤ power / rating → ∀ p, grant p = demand p) ∧
      (∀ p, (t.allot p).setpoint =
        if (s.slot p).state = .running then min (min (wanted p) (t.assignedCount p * rating)) (grant p * rating) else 0) ∧
      (∀ p, ((t.allot p).setpoint ≠ (s.allot p).setpoint →
          t.unsentAt (.setpoint p) = some (.setpoint p (t.allot p).setpoint)) ∧
        ((t.allot p).setpoint = (s.allot p).setpoint → t.unsentAt (.setpoint p) = s.unsentAt (.setpoint p)) ∧
        t.unsentAt (.other p) = s.unsentAt (.other p)) ∧
      (∀ p, t.heldCount p ≤ grant p) ∧
      (∀ p m, (s.module m).heldFor p = true →
        (s.releases p (grant p) m = true →
          t.module m = u.releasedRecord m ∧ t.unsentAt (.module m) = u.releasedOrder m) ∧
        (s.releases p (grant p) m = false → t.module m = s.module m ∧ t.unsentAt (.module m) = s.unsentAt (.module m))) ∧
      (∀ m, (∀ p, (s.module m).heldFor p = false) → (s.module m).state ≠ .free →
        t.module m = s.module m ∧ t.unsentAt (.module m) = s.unsentAt (.module m)) ∧
      (∀ m, (s.module m).state = .free →
        (t.module m = s.module m ∧ t.unsentAt (.module m) = s.unsentAt (.module m)) ∨
        ∃ p, (s.slot p).state = .running ∧ reaches m p ∧
          t.module m = { s.module m with state := .precharge, assigned := some p, timer := .awaitingSend } ∧
          t.unsentAt (.module m) = some (.precharge m p)) ∧
      (∀ p, (s.slot p).state = .running → (s.slot p).session ≠ none → t.heldCount p < grant p →
        ∀ m, (t.module m).state = .free → ¬ reaches m p) ∧
      t = { u with alloc := t.alloc, modules := t.modules, field := { u.field with queue := t.field.queue } }

/-- R180 with R66 and R67: the minute advances and, with the time valid, is stamped; then the open sessions are charged one after
another in ascending session number: a RUNNING one with a setpoint above 0 a charging minute, a FINISHED one with its link UP a grace
minute or an idle minute, and no other anything. -/
def Obligations.MinuteExpiryChargesTheSessions : Prop :=
  (∀ s : State, s.Live →
    let now := max s.now (s.clock.zeroAt + 60000)
    let minute := if s.clock.minute < 1439 then s.clock.minute + 1 else 0
    let day := if s.clock.minute < 1439 then s.clock.day else (s.clock.day + 1) % 65536
    let v : State :=
      { s with
        now := now
        clock :=
          { s.clock with
            day := day, minute := minute, zeroAt := s.clock.zeroAt + 60000
            stampedDay := if s.clock.valid then day else s.clock.stampedDay
            stampedMinute := if s.clock.valid then minute else s.clock.stampedMinute } }
    exec .minuteExpiry s = .next (s.openBySession.foldl State.chargeSession v).startTransmit) ∧
  (∀ s : State,
    (∀ p, p ∈ s.openBySession ↔ (s.slot p).session ≠ none) ∧ s.openBySession.Nodup ∧
    (s.openBySession.map fun p => ((s.slot p).session.map Session.number).getD 0).Pairwise (· ≤ ·)) ∧
  ∀ (s : State) (p : Pedestal) (e : Session), s.Holds p e →
    let a := e.accrual
    let prices := (s.tariff e.tariff).contents
    let withAccrual (x : Accrual) : State := s.setSlot p { s.slot p with session := some { e with accrual := x } }
    ((s.slot p).state = .running → 0 < (s.allot p).setpoint →
      s.chargeSession p =
        (withAccrual
          { a with
            chargingMinutes := a.chargingMinutes + 1, timeAmount := a.timeAmount + 1000 * prices.timePrice }).compareHold p) ∧
    ((s.slot p).state = .running → (s.allot p).setpoint = 0 → s.chargeSession p = s) ∧
    ((s.slot p).state = .starting ∨ (s.slot p).state = .suspended → s.chargeSession p = s) ∧
    ((s.slot p).state = .finished → (s.link p).state ≠ .up → s.chargeSession p = s) ∧
    ((s.slot p).state = .finished → (s.link p).state = .up →
      (0 < a.grace → s.chargeSession p = withAccrual { a with grace := a.grace - 1 }) ∧
      (a.grace = 0 → a.holdReached = true → s.chargeSession p = s) ∧
      (a.grace = 0 → a.holdReached = false →
        s.chargeSession p =
          (withAccrual
            { a with
              idleMinutes := a.idleMinutes + 1, idleAmount := a.idleAmount + 1000 * prices.idlePrice }).compareHold p))

/-! ### Supplies and restarts -/

/-- R22, R24, R53, R86, R109, R130, R137, R145, R162, R176 and R184: what a supply or commanded restart that runs to its end leaves, in a
part whose slots are sound (R2) and whose open sessions and records are within 24 (R80): every open session closed and recorded with
close cause RESTART in ascending session number, the tariff reference counts let go (R53; 0 where they were true, R44), and every block
at its restart values. (The pedestal that an opened module names is the one it named where the Module Pool still holds it: it does not
after a loss of the main supply, log 12.) -/
def Obligations.RestartSettlesEverySession : Prop :=
  ∀ (s : State) (kind : RestartKind) (straps : BitVec 2), s.SlotsSound → s.PlacesBounded →
    let t := s.restart kind straps none
    let opened (m : ModuleNo) : Bool :=
      s.control.commissioned && s.control.record.windows[m.val].first ≤ s.control.record.windows[m.val].last
    (∀ p, t.slot p =
      { state := .vacant, token := none, changed := false, authWait := none, session := none
        mode := if (s.slot p).mode = .closingDown then .outOfService else (s.slot p).mode }) ∧
    (∃ closed : List Settlement, t.settlements = s.settlements ++ closed ∧ closed.length = s.openCount ∧
      (closed.map Settlement.number).Pairwise (· ≤ ·) ∧
      ∀ r ∈ closed, r.closeCause = .restart ∧ r.endDay = s.clock.stampedDay ∧ r.endMinute = s.clock.stampedMinute ∧
        ∃ e, s.Holds r.pedestal e ∧ r.number = e.number ∧ r.finishCause = e.finishCause) ∧
    t.nextSession = s.nextSession ∧ t.exhausted = s.exhausted ∧ t.clock = s.clock ∧ t.now = s.now ∧ t.pending = s.pending ∧
    (∀ n, t.tariff n = { s.tariff n with references := (s.tariff n).references - s.sessionsOn n }) ∧
    (s.ReferencesSound → ∀ n, (t.tariff n).references = 0) ∧
    t.alloc = { Apportioner.cold with
      gridCap := s.alloc.gridCap
      periodTimer := if s.control.commissioned then some (s.now + s.params.periodMs) else none } ∧
    (∀ m, opened m = true →
      (t.module m).state = .contactOpen ∧ (t.module m).timer = .running (s.now + s.params.contactMs) ∧
      (t.module m).forced = true ∧ (t.module m).releaseOnClose = false ∧ (t.module m).fault = none ∧
      (t.module m).assigned =
        (match (s.module m).assigned with
         | some p => some p
         | none => pedestalOf s.control.record.windows[m.val].first)) ∧
    (∀ m, opened m = false → t.module m = { ModuleRecord.cold with window := s.control.record.windows[m.val] }) ∧
    t.prot = Protection.cold ∧
    t.field.can = .onBus ∧ (t.field.buffer.toList ++ t.field.queue) = (allModules.filter opened).map Order.openContact ∧
    (∀ p, t.link p = { Link.cold with epoch := (s.link p).epoch + 1 }) ∧
    t.host = HostPort.cold ∧
    t.notices =
      { NoticeUnit.cleared with
        park := { latch := true, masked := true, pending := true }
        settle := { latch := !t.settlements.isEmpty, masked := true, pending := !t.settlements.isEmpty }
        parkDetail := { ParkDetail.empty with restart := some kind } } ∧
    t.control = { s.control with straps := straps, lastKind := kind, restarting := false }

/-- R185: a restart sequence that is abandoned at any point keeps the sum of open sessions and records, the slots sound and the session
numbers unique, so that it may be abandoned again; followed by a reset pulse, or by a loss and a return of the main supply with the
backup supply present, whose restart runs to its end, it has settled every session once: no session is open, every number is in the
queue behind the records before, and the sum is the same. A cold start, abandoned at any point or not, leaves no session and no record,
and so does a reset pulse after it (R184). (Where a sequence can be cut, and that a cold start begins from the store's cold-start values,
are the model's, log 11; what the commands carry is log 10.) -/
def Obligations.AbandonedRestartSettlesOnce : Prop :=
  (∀ (s : State) (kind : RestartKind) (straps : BitVec 2) (k : Nat), s.SlotsSound → s.NumbersSound →
    let a := s.restart kind straps (some k)
    let settled (t : State) : Prop :=
      t.openCount = 0 ∧ t.settlements.length = s.openCount + s.settlements.length ∧ s.settlements <+: t.settlements ∧
        (∀ p e, s.Holds p e → ∃ r ∈ t.settlements, r.number = e.number ∧ r.closeCause = .restart) ∧ t.NumbersSound
    (a.openCount + a.settlements.length = s.openCount + s.settlements.length ∧ a.SlotsSound ∧ a.NumbersSound) ∧
    (s.control.mainPresent = true → ∀ (time : Nat) (straps' : BitVec 2),
      ∃ t, exec (.resetLinePulse time straps' none) a = .next t ∧ settled t) ∧
    (s.control.mainPresent = true → s.control.marker = true →
      ∀ (time outage : Nat) (straps' : BitVec 2), ∃ v t,
        exec (.mainSupplyLoss { time := time, backup := true }) a = .next v ∧
          exec (.mainSupplyReturn outage straps' true none) v = .next t ∧ settled t)) ∧
  ∀ (s : State) (outage time : Nat) (straps straps' : BitVec 2) (backup : Bool) (cut : Option Nat),
    s.control.mainPresent = false → s.control.marker = false ∨ backup = false →
    ∃ a t, exec (.mainSupplyReturn outage straps backup cut) s = .next a ∧ a.openCount = 0 ∧ a.settlements = [] ∧
      exec (.resetLinePulse time straps' none) a = .next t ∧ t.openCount = 0 ∧ t.settlements = []
end
end

