-- ==== Sys2Proof/Laws/State.lean ====
section
/-! SUPPORT. What each update of the state changes and what it leaves: one lemma for the fields an update leaves alone, one for what the
field it changes reads afterwards. Later proofs cite these and unfold no record update. -/

namespace Sys2Proof.Machine

/-! ### What an update leaves alone -/

/-- `setSlot` changes the slots alone. -/
@[simp] theorem setSlot_frame (s : State) (p : Pedestal) (x : Slot) :
    (s.setSlot p x).pending = s.pending ∧ (s.setSlot p x).now = s.now ∧ (s.setSlot p x).nextSession = s.nextSession ∧
    (s.setSlot p x).exhausted = s.exhausted ∧ (s.setSlot p x).tariffs = s.tariffs ∧
    (s.setSlot p x).settlements = s.settlements ∧ (s.setSlot p x).alloc = s.alloc ∧ (s.setSlot p x).modules = s.modules ∧
    (s.setSlot p x).prot = s.prot ∧ (s.setSlot p x).field = s.field ∧ (s.setSlot p x).host = s.host ∧
    (s.setSlot p x).notices = s.notices ∧ (s.setSlot p x).clock = s.clock ∧ (s.setSlot p x).control = s.control ∧
    (∀ q, (s.setSlot p x).link q = s.link q) ∧ (∀ q, (s.setSlot p x).allot q = s.allot q) ∧
    (∀ m, (s.setSlot p x).module m = s.module m) ∧ (∀ n, (s.setSlot p x).tariff n = s.tariff n) ∧
    (s.setSlot p x).params = s.params ∧ (∀ q, (s.setSlot p x).rating q = s.rating q) :=
  ⟨rfl, rfl, rfl, rfl, rfl, rfl, rfl, rfl, rfl, rfl, rfl, rfl, rfl, rfl, fun _ => rfl, fun _ => rfl, fun _ => rfl, fun _
    => rfl, rfl, fun _ => rfl⟩

/-- `setLink` changes the links alone. -/
@[simp] theorem setLink_frame (s : State) (p : Pedestal) (x : Link) :
    (s.setLink p x).pending = s.pending ∧ (s.setLink p x).now = s.now ∧ (s.setLink p x).slots = s.slots ∧
    (s.setLink p x).nextSession = s.nextSession ∧ (s.setLink p x).exhausted = s.exhausted ∧
    (s.setLink p x).tariffs = s.tariffs ∧ (s.setLink p x).settlements = s.settlements ∧ (s.setLink p x).alloc = s.alloc ∧
    (s.setLink p x).modules = s.modules ∧ (s.setLink p x).prot = s.prot ∧ (s.setLink p x).field.can = s.field.can ∧
    (s.setLink p x).field.queue = s.field.queue ∧ (s.setLink p x).field.buffer = s.field.buffer ∧
    (s.setLink p x).field.fieldTx = s.field.fieldTx ∧ (s.setLink p x).host = s.host ∧ (s.setLink p x).notices = s.notices ∧
    (s.setLink p x).clock = s.clock ∧ (s.setLink p x).control = s.control ∧ (∀ q, (s.setLink p x).slot q = s.slot q) ∧
    (∀ q, (s.setLink p x).allot q = s.allot q) ∧ (∀ m, (s.setLink p x).module m = s.module m) ∧
    (∀ n, (s.setLink p x).tariff n = s.tariff n) ∧
    (s.setLink p x).params = s.params ∧ (∀ q, (s.setLink p x).rating q = s.rating q) :=
  ⟨rfl, rfl, rfl, rfl, rfl, rfl, rfl, rfl, rfl, rfl, rfl, rfl, rfl, rfl, rfl, rfl, rfl, rfl, fun _ => rfl, fun _ => rfl,
    fun _ => rfl, fun _ => rfl, rfl, fun _ => rfl⟩

/-- `setAllot` changes the Allotment Table alone. -/
@[simp] theorem setAllot_frame (s : State) (p : Pedestal) (x : Allotment) :
    (s.setAllot p x).pending = s.pending ∧ (s.setAllot p x).now = s.now ∧ (s.setAllot p x).slots = s.slots ∧
    (s.setAllot p x).nextSession = s.nextSession ∧ (s.setAllot p x).exhausted = s.exhausted ∧
    (s.setAllot p x).tariffs = s.tariffs ∧ (s.setAllot p x).settlements = s.settlements ∧
    (s.setAllot p x).alloc.pAv = s.alloc.pAv ∧ (s.setAllot p x).alloc.budget = s.alloc.budget ∧
    (s.setAllot p x).alloc.gridCap = s.alloc.gridCap ∧ (s.setAllot p x).alloc.stagedGridCap = s.alloc.stagedGridCap ∧
    (s.setAllot p x).alloc.pointer = s.alloc.pointer ∧ (s.setAllot p x).alloc.periodTimer = s.alloc.periodTimer ∧
    (s.setAllot p x).modules = s.modules ∧ (s.setAllot p x).prot = s.prot ∧ (s.setAllot p x).field = s.field ∧
    (s.setAllot p x).host = s.host ∧ (s.setAllot p x).notices = s.notices ∧ (s.setAllot p x).clock = s.clock ∧
    (s.setAllot p x).control = s.control ∧ (∀ q, (s.setAllot p x).slot q = s.slot q) ∧
    (∀ q, (s.setAllot p x).link q = s.link q) ∧ (∀ m, (s.setAllot p x).module m = s.module m) ∧
    (∀ n, (s.setAllot p x).tariff n = s.tariff n) ∧
    (s.setAllot p x).params = s.params ∧ (∀ q, (s.setAllot p x).rating q = s.rating q) :=
  ⟨rfl, rfl, rfl, rfl, rfl, rfl, rfl, rfl, rfl, rfl, rfl, rfl, rfl, rfl, rfl, rfl, rfl, rfl, rfl, rfl, fun _ => rfl, fun
    _ => rfl, fun _ => rfl, fun _ => rfl, rfl, fun _ => rfl⟩

/-- `setModule` changes the modules alone. -/
@[simp] theorem setModule_frame (s : State) (m : ModuleNo) (x : ModuleRecord) :
    (s.setModule m x).pending = s.pending ∧ (s.setModule m x).now = s.now ∧ (s.setModule m x).slots = s.slots ∧
    (s.setModule m x).nextSession = s.nextSession ∧ (s.setModule m x).exhausted = s.exhausted ∧
    (s.setModule m x).tariffs = s.tariffs ∧ (s.setModule m x).settlements = s.settlements ∧ (s.setModule m x).alloc = s.alloc ∧
    (s.setModule m x).prot = s.prot ∧ (s.setModule m x).field = s.field ∧ (s.setModule m x).host = s.host ∧
    (s.setModule m x).notices = s.notices ∧ (s.setModule m x).clock = s.clock ∧ (s.setModule m x).control = s.control ∧
    (∀ q, (s.setModule m x).slot q = s.slot q) ∧ (∀ q, (s.setModule m x).link q = s.link q) ∧
    (∀ q, (s.setModule m x).allot q = s.allot q) ∧ (∀ n, (s.setModule m x).tariff n = s.tariff n) ∧
    (s.setModule m x).params = s.params ∧ (∀ q, (s.setModule m x).rating q = s.rating q) :=
  ⟨rfl, rfl, rfl, rfl, rfl, rfl, rfl, rfl, rfl, rfl, rfl, rfl, rfl, rfl, fun _ => rfl, fun _ => rfl, fun _ => rfl, fun _
    => rfl, rfl, fun _ => rfl⟩

/-- `setTariff` changes the tariffs alone. -/
@[simp] theorem setTariff_frame (s : State) (n : TariffNo) (x : TariffSlot) :
    (s.setTariff n x).pending = s.pending ∧ (s.setTariff n x).now = s.now ∧ (s.setTariff n x).slots = s.slots ∧
    (s.setTariff n x).nextSession = s.nextSession ∧ (s.setTariff n x).exhausted = s.exhausted ∧
    (s.setTariff n x).settlements = s.settlements ∧ (s.setTariff n x).alloc = s.alloc ∧ (s.setTariff n x).modules = s.modules ∧
    (s.setTariff n x).prot = s.prot ∧ (s.setTariff n x).field = s.field ∧ (s.setTariff n x).host = s.host ∧
    (s.setTariff n x).notices = s.notices ∧ (s.setTariff n x).clock = s.clock ∧ (s.setTariff n x).control = s.control ∧
    (∀ q, (s.setTariff n x).slot q = s.slot q) ∧ (∀ q, (s.setTariff n x).link q = s.link q) ∧
    (∀ q, (s.setTariff n x).allot q = s.allot q) ∧ (∀ m, (s.setTariff n x).module m = s.module m) ∧
    (s.setTariff n x).params = s.params ∧ (∀ q, (s.setTariff n x).rating q = s.rating q) :=
  ⟨rfl, rfl, rfl, rfl, rfl, rfl, rfl, rfl, rfl, rfl, rfl, rfl, rfl, rfl, fun _ => rfl, fun _ => rfl, fun _ => rfl, fun _
    => rfl, rfl, fun _ => rfl⟩

/-- `modifySession` changes the slots alone. -/
@[simp] theorem modifySession_frame (s : State) (p : Pedestal) (f : Session → Session) :
    (s.modifySession p f).pending = s.pending ∧ (s.modifySession p f).now = s.now ∧
    (s.modifySession p f).nextSession = s.nextSession ∧ (s.modifySession p f).exhausted = s.exhausted ∧
    (s.modifySession p f).tariffs = s.tariffs ∧ (s.modifySession p f).settlements = s.settlements ∧
    (s.modifySession p f).alloc = s.alloc ∧ (s.modifySession p f).modules = s.modules ∧ (s.modifySession p f).prot = s.prot ∧
    (s.modifySession p f).field = s.field ∧ (s.modifySession p f).host = s.host ∧ (s.modifySession p f).notices = s.notices ∧
    (s.modifySession p f).clock = s.clock ∧ (s.modifySession p f).control = s.control ∧
    (∀ q, (s.modifySession p f).link q = s.link q) ∧ (∀ q, (s.modifySession p f).allot q = s.allot q) ∧
    (∀ m, (s.modifySession p f).module m = s.module m) ∧ (∀ n, (s.modifySession p f).tariff n = s.tariff n) ∧
    (s.modifySession p f).params = s.params ∧ (∀ q, (s.modifySession p f).rating q = s.rating q) :=
  ⟨rfl, rfl, rfl, rfl, rfl, rfl, rfl, rfl, rfl, rfl, rfl, rfl, rfl, rfl, fun _ => rfl, fun _ => rfl, fun _ => rfl, fun _
    => rfl, rfl, fun _ => rfl⟩

/-- `modifyAccrual` changes the slots alone. -/
@[simp] theorem modifyAccrual_frame (s : State) (p : Pedestal) (f : Accrual → Accrual) :
    (s.modifyAccrual p f).pending = s.pending ∧ (s.modifyAccrual p f).now = s.now ∧
    (s.modifyAccrual p f).nextSession = s.nextSession ∧ (s.modifyAccrual p f).exhausted = s.exhausted ∧
    (s.modifyAccrual p f).tariffs = s.tariffs ∧ (s.modifyAccrual p f).settlements = s.settlements ∧
    (s.modifyAccrual p f).alloc = s.alloc ∧ (s.modifyAccrual p f).modules = s.modules ∧ (s.modifyAccrual p f).prot = s.prot ∧
    (s.modifyAccrual p f).field = s.field ∧ (s.modifyAccrual p f).host = s.host ∧ (s.modifyAccrual p f).notices = s.notices ∧
    (s.modifyAccrual p f).clock = s.clock ∧ (s.modifyAccrual p f).control = s.control ∧
    (∀ q, (s.modifyAccrual p f).link q = s.link q) ∧ (∀ q, (s.modifyAccrual p f).allot q = s.allot q) ∧
    (∀ m, (s.modifyAccrual p f).module m = s.module m) ∧ (∀ n, (s.modifyAccrual p f).tariff n = s.tariff n) ∧
    (s.modifyAccrual p f).params = s.params ∧ (∀ q, (s.modifyAccrual p f).rating q = s.rating q) :=
  ⟨rfl, rfl, rfl, rfl, rfl, rfl, rfl, rfl, rfl, rfl, rfl, rfl, rfl, rfl, fun _ => rfl, fun _ => rfl, fun _ => rfl, fun _
    => rfl, rfl, fun _ => rfl⟩

/-- `pushOutput` changes the output alone. -/
@[simp] theorem pushOutput_frame (s : State) (r : HostRecord) :
    (s.pushOutput r).pending = s.pending ∧ (s.pushOutput r).now = s.now ∧ (s.pushOutput r).slots = s.slots ∧
    (s.pushOutput r).nextSession = s.nextSession ∧ (s.pushOutput r).exhausted = s.exhausted ∧
    (s.pushOutput r).tariffs = s.tariffs ∧ (s.pushOutput r).settlements = s.settlements ∧ (s.pushOutput r).alloc = s.alloc ∧
    (s.pushOutput r).modules = s.modules ∧ (s.pushOutput r).prot = s.prot ∧ (s.pushOutput r).field = s.field ∧
    (s.pushOutput r).host.receiver = s.host.receiver ∧ (s.pushOutput r).host.requests = s.host.requests ∧
    (s.pushOutput r).host.restartAfter = s.host.restartAfter ∧ (s.pushOutput r).host.hostTx = s.host.hostTx ∧
    (s.pushOutput r).notices = s.notices ∧ (s.pushOutput r).clock = s.clock ∧ (s.pushOutput r).control = s.control ∧
    (∀ q, (s.pushOutput r).slot q = s.slot q) ∧ (∀ q, (s.pushOutput r).link q = s.link q) ∧
    (∀ q, (s.pushOutput r).allot q = s.allot q) ∧ (∀ m, (s.pushOutput r).module m = s.module m) ∧
    (∀ n, (s.pushOutput r).tariff n = s.tariff n) ∧
    (s.pushOutput r).params = s.params ∧ (∀ q, (s.pushOutput r).rating q = s.rating q) :=
  ⟨rfl, rfl, rfl, rfl, rfl, rfl, rfl, rfl, rfl, rfl, rfl, rfl, rfl, rfl, rfl, rfl, rfl, rfl, fun _ => rfl, fun _ => rfl,
    fun _ => rfl, fun _ => rfl, fun _ => rfl, rfl, fun _ => rfl⟩

/-- `setQueue` changes the field transmit queue alone. -/
@[simp] theorem setQueue_frame (s : State) (l : List Order) :
    (s.setQueue l).pending = s.pending ∧ (s.setQueue l).now = s.now ∧ (s.setQueue l).slots = s.slots ∧
    (s.setQueue l).nextSession = s.nextSession ∧ (s.setQueue l).exhausted = s.exhausted ∧ (s.setQueue l).tariffs = s.tariffs ∧
    (s.setQueue l).settlements = s.settlements ∧ (s.setQueue l).alloc = s.alloc ∧ (s.setQueue l).modules = s.modules ∧
    (s.setQueue l).prot = s.prot ∧ (s.setQueue l).field.can = s.field.can ∧ (s.setQueue l).field.buffer = s.field.buffer ∧
    (s.setQueue l).field.links = s.field.links ∧ (s.setQueue l).field.fieldTx = s.field.fieldTx ∧
    (s.setQueue l).host = s.host ∧ (s.setQueue l).notices = s.notices ∧ (s.setQueue l).clock = s.clock ∧
    (s.setQueue l).control = s.control ∧ (∀ q, (s.setQueue l).slot q = s.slot q) ∧ (∀ q, (s.setQueue l).link q = s.link q) ∧
    (∀ q, (s.setQueue l).allot q = s.allot q) ∧ (∀ m, (s.setQueue l).module m = s.module m) ∧
    (∀ n, (s.setQueue l).tariff n = s.tariff n) ∧
    (s.setQueue l).params = s.params ∧ (∀ q, (s.setQueue l).rating q = s.rating q) :=
  ⟨rfl, rfl, rfl, rfl, rfl, rfl, rfl, rfl, rfl, rfl, rfl, rfl, rfl, rfl, rfl, rfl, rfl, rfl, fun _ => rfl, fun _ => rfl,
    fun _ => rfl, fun _ => rfl, fun _ => rfl, rfl, fun _ => rfl⟩

/-- `setFlags` changes the notice unit alone. -/
@[simp] theorem setFlags_frame (s : State) (c : NoticeClass) (f : ClassFlags) :
    (s.setFlags c f).pending = s.pending ∧ (s.setFlags c f).now = s.now ∧ (s.setFlags c f).slots = s.slots ∧
    (s.setFlags c f).nextSession = s.nextSession ∧ (s.setFlags c f).exhausted = s.exhausted ∧
    (s.setFlags c f).tariffs = s.tariffs ∧ (s.setFlags c f).settlements = s.settlements ∧ (s.setFlags c f).alloc = s.alloc ∧
    (s.setFlags c f).modules = s.modules ∧ (s.setFlags c f).prot = s.prot ∧ (s.setFlags c f).field = s.field ∧
    (s.setFlags c f).host = s.host ∧ (s.setFlags c f).clock = s.clock ∧ (s.setFlags c f).control = s.control ∧
    (∀ q, (s.setFlags c f).slot q = s.slot q) ∧ (∀ q, (s.setFlags c f).link q = s.link q) ∧
    (∀ q, (s.setFlags c f).allot q = s.allot q) ∧ (∀ m, (s.setFlags c f).module m = s.module m) ∧
    (∀ n, (s.setFlags c f).tariff n = s.tariff n) ∧
    (s.setFlags c f).params = s.params ∧ (∀ q, (s.setFlags c f).rating q = s.rating q) :=
  ⟨rfl, rfl, rfl, rfl, rfl, rfl, rfl, rfl, rfl, rfl, rfl, rfl, rfl, rfl, fun _ => rfl, fun _ => rfl, fun _ => rfl, fun _
    => rfl, fun _ => rfl, rfl, fun _ => rfl⟩

/-- `setRequests` changes the request queue alone. -/
@[simp] theorem setRequests_frame (s : State) (l : List HostRecord) :
    (s.setRequests l).pending = s.pending ∧ (s.setRequests l).now = s.now ∧ (s.setRequests l).slots = s.slots ∧
    (s.setRequests l).nextSession = s.nextSession ∧ (s.setRequests l).exhausted = s.exhausted ∧
    (s.setRequests l).tariffs = s.tariffs ∧ (s.setRequests l).settlements = s.settlements ∧ (s.setRequests l).alloc = s.alloc ∧
    (s.setRequests l).modules = s.modules ∧ (s.setRequests l).prot = s.prot ∧ (s.setRequests l).field = s.field ∧
    (s.setRequests l).host.receiver = s.host.receiver ∧ (s.setRequests l).host.output = s.host.output ∧
    (s.setRequests l).host.restartAfter = s.host.restartAfter ∧ (s.setRequests l).host.hostTx = s.host.hostTx ∧
    (s.setRequests l).notices = s.notices ∧ (s.setRequests l).clock = s.clock ∧ (s.setRequests l).control = s.control ∧
    (∀ q, (s.setRequests l).slot q = s.slot q) ∧ (∀ q, (s.setRequests l).link q = s.link q) ∧
    (∀ q, (s.setRequests l).allot q = s.allot q) ∧ (∀ m, (s.setRequests l).module m = s.module m) ∧
    (∀ n, (s.setRequests l).tariff n = s.tariff n) ∧
    (s.setRequests l).params = s.params ∧ (∀ q, (s.setRequests l).rating q = s.rating q) :=
  ⟨rfl, rfl, rfl, rfl, rfl, rfl, rfl, rfl, rfl, rfl, rfl, rfl, rfl, rfl, rfl, rfl, rfl, rfl, fun _ => rfl, fun _ => rfl,
    fun _ => rfl, fun _ => rfl, fun _ => rfl, rfl, fun _ => rfl⟩

/-- `dropHead` changes the request queue alone. -/
@[simp] theorem dropHead_frame (s : State) :
    (s.dropHead).pending = s.pending ∧ (s.dropHead).now = s.now ∧ (s.dropHead).slots = s.slots ∧
    (s.dropHead).nextSession = s.nextSession ∧ (s.dropHead).exhausted = s.exhausted ∧ (s.dropHead).tariffs = s.tariffs ∧
    (s.dropHead).settlements = s.settlements ∧ (s.dropHead).alloc = s.alloc ∧ (s.dropHead).modules = s.modules ∧
    (s.dropHead).prot = s.prot ∧ (s.dropHead).field = s.field ∧ (s.dropHead).host.receiver = s.host.receiver ∧
    (s.dropHead).host.output = s.host.output ∧ (s.dropHead).host.restartAfter = s.host.restartAfter ∧
    (s.dropHead).host.hostTx = s.host.hostTx ∧ (s.dropHead).notices = s.notices ∧ (s.dropHead).clock = s.clock ∧
    (s.dropHead).control = s.control ∧ (∀ q, (s.dropHead).slot q = s.slot q) ∧ (∀ q, (s.dropHead).link q = s.link q) ∧
    (∀ q, (s.dropHead).allot q = s.allot q) ∧ (∀ m, (s.dropHead).module m = s.module m) ∧
    (∀ n, (s.dropHead).tariff n = s.tariff n) ∧ (s.dropHead).params = s.params ∧ (∀ q, (s.dropHead).rating q = s.rating q) :=
  ⟨rfl, rfl, rfl, rfl, rfl, rfl, rfl, rfl, rfl, rfl, rfl, rfl, rfl, rfl, rfl, rfl, rfl, rfl, fun _ => rfl, fun _ => rfl,
    fun _ => rfl, fun _ => rfl, fun _ => rfl, rfl, fun _ => rfl⟩

/-- `advance` changes the running time alone. -/
@[simp] theorem advance_frame (s : State) (time : Nat) :
    (s.advance time).pending = s.pending ∧ (s.advance time).slots = s.slots ∧ (s.advance time).nextSession = s.nextSession ∧
    (s.advance time).exhausted = s.exhausted ∧ (s.advance time).tariffs = s.tariffs ∧
    (s.advance time).settlements = s.settlements ∧ (s.advance time).alloc = s.alloc ∧ (s.advance time).modules = s.modules ∧
    (s.advance time).prot = s.prot ∧ (s.advance time).field = s.field ∧ (s.advance time).host = s.host ∧
    (s.advance time).notices = s.notices ∧ (s.advance time).clock = s.clock ∧ (s.advance time).control = s.control ∧
    (∀ q, (s.advance time).slot q = s.slot q) ∧ (∀ q, (s.advance time).link q = s.link q) ∧
    (∀ q, (s.advance time).allot q = s.allot q) ∧ (∀ m, (s.advance time).module m = s.module m) ∧
    (∀ n, (s.advance time).tariff n = s.tariff n) ∧
    (s.advance time).params = s.params ∧ (∀ q, (s.advance time).rating q = s.rating q) :=
  ⟨rfl, rfl, rfl, rfl, rfl, rfl, rfl, rfl, rfl, rfl, rfl, rfl, rfl, rfl, fun _ => rfl, fun _ => rfl, fun _ => rfl, fun _
    => rfl, fun _ => rfl, rfl, fun _ => rfl⟩

/-- `stamp` changes the last stamped minute alone. -/
@[simp] theorem stamp_frame (s : State) :
    (s.stamp).pending = s.pending ∧ (s.stamp).now = s.now ∧ (s.stamp).slots = s.slots ∧ (s.stamp).nextSession = s.nextSession ∧
    (s.stamp).exhausted = s.exhausted ∧ (s.stamp).tariffs = s.tariffs ∧ (s.stamp).settlements = s.settlements ∧
    (s.stamp).alloc = s.alloc ∧ (s.stamp).modules = s.modules ∧ (s.stamp).prot = s.prot ∧ (s.stamp).field = s.field ∧
    (s.stamp).host = s.host ∧ (s.stamp).notices = s.notices ∧ (s.stamp).clock.day = s.clock.day ∧
    (s.stamp).clock.minute = s.clock.minute ∧ (s.stamp).clock.zeroAt = s.clock.zeroAt ∧ (s.stamp).clock.valid = s.clock.valid ∧
    (s.stamp).control = s.control ∧ (∀ q, (s.stamp).slot q = s.slot q) ∧ (∀ q, (s.stamp).link q = s.link q) ∧
    (∀ q, (s.stamp).allot q = s.allot q) ∧ (∀ m, (s.stamp).module m = s.module m) ∧ (∀ n, (s.stamp).tariff n = s.tariff n) ∧
    (s.stamp).params = s.params ∧ (∀ q, (s.stamp).rating q = s.rating q) :=
  ⟨rfl, rfl, rfl, rfl, rfl, rfl, rfl, rfl, rfl, rfl, rfl, rfl, rfl, rfl, rfl, rfl, rfl, rfl, fun _ => rfl, fun _ => rfl,
    fun _ => rfl, fun _ => rfl, fun _ => rfl, rfl, fun _ => rfl⟩

/-- `setPower` changes P_av and M alone. -/
@[simp] theorem setPower_frame (s : State) (kw : Nat) :
    (s.setPower kw).pending = s.pending ∧ (s.setPower kw).now = s.now ∧ (s.setPower kw).slots = s.slots ∧
    (s.setPower kw).nextSession = s.nextSession ∧ (s.setPower kw).exhausted = s.exhausted ∧
    (s.setPower kw).tariffs = s.tariffs ∧ (s.setPower kw).settlements = s.settlements ∧
    (s.setPower kw).alloc.gridCap = s.alloc.gridCap ∧ (s.setPower kw).alloc.stagedGridCap = s.alloc.stagedGridCap ∧
    (s.setPower kw).alloc.pointer = s.alloc.pointer ∧ (s.setPower kw).alloc.periodTimer = s.alloc.periodTimer ∧
    (s.setPower kw).alloc.entries = s.alloc.entries ∧ (s.setPower kw).modules = s.modules ∧ (s.setPower kw).prot = s.prot ∧
    (s.setPower kw).field = s.field ∧ (s.setPower kw).host = s.host ∧ (s.setPower kw).notices = s.notices ∧
    (s.setPower kw).clock = s.clock ∧ (s.setPower kw).control = s.control ∧ (∀ q, (s.setPower kw).slot q = s.slot q) ∧
    (∀ q, (s.setPower kw).link q = s.link q) ∧ (∀ q, (s.setPower kw).allot q = s.allot q) ∧
    (∀ m, (s.setPower kw).module m = s.module m) ∧ (∀ n, (s.setPower kw).tariff n = s.tariff n) ∧
    (s.setPower kw).params = s.params ∧ (∀ q, (s.setPower kw).rating q = s.rating q) :=
  ⟨rfl, rfl, rfl, rfl, rfl, rfl, rfl, rfl, rfl, rfl, rfl, rfl, rfl, rfl, rfl, rfl, rfl, rfl, rfl, fun _ => rfl, fun _ =>
    rfl, fun _ => rfl, fun _ => rfl, fun _ => rfl, rfl, fun _ => rfl⟩

/-! ### What an update changes -/

/-- The written slot reads as it was written. -/
@[simp] theorem slot_setSlot (s : State) (p : Pedestal) (x : Slot) : (s.setSlot p x).slot p = x := by
  simp [State.slot, State.setSlot]

/-- Another slot reads as before. -/
@[simp] theorem slot_setSlot_ne (s : State) {p q : Pedestal} (x : Slot) (h : q ≠ p) : (s.setSlot p x).slot q = s.slot q := by
  have : p.val ≠ q.val := fun e => h (Fin.ext e.symm)
  simp [State.slot, State.setSlot, this]

/-- The written link entry reads as it was written. -/
@[simp] theorem link_setLink (s : State) (p : Pedestal) (x : Link) : (s.setLink p x).link p = x := by
  simp [State.link, State.setLink]

/-- Another link entry reads as before. -/
@[simp] theorem link_setLink_ne (s : State) {p q : Pedestal} (x : Link) (h : q ≠ p) : (s.setLink p x).link q = s.link q := by
  have : p.val ≠ q.val := fun e => h (Fin.ext e.symm)
  simp [State.link, State.setLink, this]

/-- The written allotment reads as it was written. -/
@[simp] theorem allot_setAllot (s : State) (p : Pedestal) (x : Allotment) : (s.setAllot p x).allot p = x := by
  simp [State.allot, State.setAllot]

/-- Another allotment reads as before. -/
@[simp] theorem allot_setAllot_ne (s : State) {p q : Pedestal} (x : Allotment) (h : q ≠ p) :
    (s.setAllot p x).allot q = s.allot q := by
  have : p.val ≠ q.val := fun e => h (Fin.ext e.symm)
  simp [State.allot, State.setAllot, this]

/-- The written module record reads as it was written. -/
@[simp] theorem module_setModule (s : State) (m : ModuleNo) (x : ModuleRecord) : (s.setModule m x).module m = x := by
  simp [State.module, State.setModule]

/-- Another module record reads as before. -/
@[simp] theorem module_setModule_ne (s : State) {m k : ModuleNo} (x : ModuleRecord) (h : k ≠ m) :
    (s.setModule m x).module k = s.module k := by
  have : m.val ≠ k.val := fun e => h (Fin.ext e.symm)
  simp [State.module, State.setModule, this]

/-- The written tariff slot reads as it was written. -/
@[simp] theorem tariff_setTariff (s : State) (n : TariffNo) (x : TariffSlot) : (s.setTariff n x).tariff n = x := by
  simp [State.tariff, State.setTariff]

/-- Another tariff slot reads as before. -/
@[simp] theorem tariff_setTariff_ne (s : State) {n k : TariffNo} (x : TariffSlot) (h : k ≠ n) :
    (s.setTariff n x).tariff k = s.tariff k := by
  have : n.val ≠ k.val := fun e => h (Fin.ext e.symm)
  simp [State.tariff, State.setTariff, this]

/-- A modified session is the old one, modified. -/
@[simp] theorem slot_modifySession (s : State) (p : Pedestal) (f : Session → Session) :
    (s.modifySession p f).slot p = { s.slot p with session := (s.slot p).session.map f } := by
  simp [State.modifySession]

/-- Another slot keeps its session. -/
@[simp] theorem slot_modifySession_ne (s : State) {p q : Pedestal} (f : Session → Session) (h : q ≠ p) :
    (s.modifySession p f).slot q = s.slot q := by
  simp [State.modifySession, h]

/-- A modified accrual record is the old one, modified. -/
@[simp] theorem slot_modifyAccrual (s : State) (p : Pedestal) (f : Accrual → Accrual) :
    (s.modifyAccrual p f).slot p =
      { s.slot p with session := (s.slot p).session.map fun e => { e with accrual := f e.accrual } } := by
  simp [State.modifyAccrual]

/-- Another slot keeps its accrual record. -/
@[simp] theorem slot_modifyAccrual_ne (s : State) {p q : Pedestal} (f : Accrual → Accrual) (h : q ≠ p) :
    (s.modifyAccrual p f).slot q = s.slot q := by
  simp [State.modifyAccrual, h]

/-- A record placed in the output stands at its tail. -/
@[simp] theorem output_pushOutput (s : State) (r : HostRecord) : (s.pushOutput r).host.output = s.host.output ++ [r] := rfl

/-- The queue set is the queue held. -/
@[simp] theorem queue_setQueue (s : State) (l : List Order) : (s.setQueue l).field.queue = l := rfl

/-- The requests set are the requests held. -/
@[simp] theorem requests_setRequests (s : State) (l : List HostRecord) : (s.setRequests l).host.requests = l := rfl

/-- The head of the request queue is gone. -/
@[simp] theorem requests_dropHead (s : State) : s.dropHead.host.requests = s.host.requests.tail := rfl

/-- Running time never runs back. -/
@[simp] theorem now_advance (s : State) (time : Nat) : (s.advance time).now = max s.now time := rfl

/-- The stamped minute is the current one. -/
@[simp] theorem stamped_stamp (s : State) :
    s.stamp.clock.stampedDay = s.clock.day ∧ s.stamp.clock.stampedMinute = s.clock.minute := ⟨rfl, rfl⟩

/-- P_av and M as they are set (R88). -/
@[simp] theorem power_setPower (s : State) (kw : Nat) :
    (s.setPower kw).alloc.pAv = kw ∧ (s.setPower kw).alloc.budget = kw / s.control.record.rating := ⟨rfl, rfl⟩

/-- The flags of a class read as they were written. -/
@[simp] theorem flags_setFlags (s : State) (c : NoticeClass) (f : ClassFlags) : (s.setFlags c f).notices.flags c = f := by
  cases c <;> rfl

/-- The flags of another class read as before. -/
@[simp] theorem flags_setFlags_ne (s : State) {c d : NoticeClass} (f : ClassFlags) (h : d ≠ c) :
    (s.setFlags c f).notices.flags d = s.notices.flags d := by
  cases c <;> cases d <;> first | rfl | exact absurd rfl h

/-- Writing a class's flags leaves the details alone. -/
@[simp] theorem details_setFlags (s : State) (c : NoticeClass) (f : ClassFlags) :
    (s.setFlags c f).notices.holdDetail = s.notices.holdDetail ∧ (s.setFlags c f).notices.parkDetail = s.notices.parkDetail ∧
      (s.setFlags c f).notices.fieldDetail = s.notices.fieldDetail := by
  cases c <;> exact ⟨rfl, rfl, rfl⟩

/-- Two entries of one pedestal's slot: the later write stands. -/
@[simp] theorem setSlot_setSlot (s : State) (p : Pedestal) (x y : Slot) : (s.setSlot p x).setSlot p y = s.setSlot p y := by
  simp [State.setSlot]

/-- A state is live by its control record alone. -/
theorem isLive_of_control {s t : State} (h : t.control = s.control) : t.isLive = s.isLive := by
  simp [State.isLive, h]

end Sys2Proof.Machine
end

