-- ==== Sys2Proof/Laws/Frames.lean ====
section
/-! SUPPORT. What each shared operation leaves alone. Every lemma is a list of the fields that read afterwards as before; a field that
is missing from the list is one the operation may change. -/

namespace Sys2Proof.Machine

/-- What `raise` leaves alone. -/
@[simp] theorem raise_frame (s : State) (c : NoticeClass) :
    (s.raise c).pending = s.pending ∧ (s.raise c).now = s.now ∧ (s.raise c).slots = s.slots ∧
    (s.raise c).nextSession = s.nextSession ∧ (s.raise c).exhausted = s.exhausted ∧ (s.raise c).tariffs = s.tariffs ∧
    (s.raise c).settlements = s.settlements ∧ (s.raise c).alloc = s.alloc ∧ (s.raise c).modules = s.modules ∧
    (s.raise c).prot = s.prot ∧ (s.raise c).field = s.field ∧ (s.raise c).host.receiver = s.host.receiver ∧
    (s.raise c).host.requests = s.host.requests ∧ (s.raise c).host.restartAfter = s.host.restartAfter ∧
    (s.raise c).host.hostTx = s.host.hostTx ∧ (s.raise c).clock = s.clock ∧ (s.raise c).control = s.control ∧
    (∀ q, (s.raise c).slot q = s.slot q) ∧ (∀ q, (s.raise c).link q = s.link q) ∧ (∀ q, (s.raise c).allot q = s.allot q) ∧
    (∀ m, (s.raise c).module m = s.module m) ∧ (∀ n, (s.raise c).tariff n = s.tariff n) ∧
    (s.raise c).params = s.params ∧ (∀ q, (s.raise c).rating q = s.rating q) := by
  unfold State.raise; try simp only []
  (repeat' split) <;> first | (simp; done) | simp [State.slot, State.link, State.allot, State.module, State.tariff, State.params, State.rating]

/-- What `markChanged` leaves alone. -/
@[simp] theorem markChanged_frame (s : State) (p : Pedestal) :
    (s.markChanged p).pending = s.pending ∧ (s.markChanged p).now = s.now ∧ (s.markChanged p).nextSession = s.nextSession ∧
    (s.markChanged p).exhausted = s.exhausted ∧ (s.markChanged p).tariffs = s.tariffs ∧
    (s.markChanged p).settlements = s.settlements ∧ (s.markChanged p).alloc = s.alloc ∧ (s.markChanged p).modules = s.modules ∧
    (s.markChanged p).prot = s.prot ∧ (s.markChanged p).field = s.field ∧ (s.markChanged p).host.receiver = s.host.receiver ∧
    (s.markChanged p).host.requests = s.host.requests ∧ (s.markChanged p).host.restartAfter = s.host.restartAfter ∧
    (s.markChanged p).host.hostTx = s.host.hostTx ∧ (s.markChanged p).clock = s.clock ∧ (s.markChanged p).control = s.control ∧
    (∀ q, (s.markChanged p).link q = s.link q) ∧ (∀ q, (s.markChanged p).allot q = s.allot q) ∧
    (∀ m, (s.markChanged p).module m = s.module m) ∧ (∀ n, (s.markChanged p).tariff n = s.tariff n) ∧
    (s.markChanged p).params = s.params ∧ (∀ q, (s.markChanged p).rating q = s.rating q) := by
  unfold State.markChanged; try simp only []
  (repeat' split) <;> first | (simp; done) | simp [State.slot, State.link, State.allot, State.module, State.tariff, State.params, State.rating]

/-- What `goTo` leaves alone. -/
@[simp] theorem goTo_frame (s : State) (p : Pedestal) (st : SlotState) :
    (s.goTo p st).pending = s.pending ∧ (s.goTo p st).now = s.now ∧ (s.goTo p st).nextSession = s.nextSession ∧
    (s.goTo p st).exhausted = s.exhausted ∧ (s.goTo p st).tariffs = s.tariffs ∧ (s.goTo p st).settlements = s.settlements ∧
    (s.goTo p st).alloc = s.alloc ∧ (s.goTo p st).modules = s.modules ∧ (s.goTo p st).prot = s.prot ∧
    (s.goTo p st).field = s.field ∧ (s.goTo p st).host.receiver = s.host.receiver ∧
    (s.goTo p st).host.requests = s.host.requests ∧ (s.goTo p st).host.restartAfter = s.host.restartAfter ∧
    (s.goTo p st).host.hostTx = s.host.hostTx ∧ (s.goTo p st).clock = s.clock ∧ (s.goTo p st).control = s.control ∧
    (∀ q, (s.goTo p st).link q = s.link q) ∧ (∀ q, (s.goTo p st).allot q = s.allot q) ∧
    (∀ m, (s.goTo p st).module m = s.module m) ∧ (∀ n, (s.goTo p st).tariff n = s.tariff n) ∧
    (s.goTo p st).params = s.params ∧ (∀ q, (s.goTo p st).rating q = s.rating q) := by
  unfold State.goTo; try simp only []
  (repeat' split) <;> first | (simp; done) | simp [State.slot, State.link, State.allot, State.module, State.tariff, State.params, State.rating]

/-- What `raiseHold` leaves alone. -/
@[simp] theorem raiseHold_frame (s : State) (p : Pedestal) :
    (s.raiseHold p).pending = s.pending ∧ (s.raiseHold p).now = s.now ∧ (s.raiseHold p).slots = s.slots ∧
    (s.raiseHold p).nextSession = s.nextSession ∧ (s.raiseHold p).exhausted = s.exhausted ∧
    (s.raiseHold p).tariffs = s.tariffs ∧ (s.raiseHold p).settlements = s.settlements ∧ (s.raiseHold p).alloc = s.alloc ∧
    (s.raiseHold p).modules = s.modules ∧ (s.raiseHold p).prot = s.prot ∧ (s.raiseHold p).field = s.field ∧
    (s.raiseHold p).host.receiver = s.host.receiver ∧ (s.raiseHold p).host.requests = s.host.requests ∧
    (s.raiseHold p).host.restartAfter = s.host.restartAfter ∧ (s.raiseHold p).host.hostTx = s.host.hostTx ∧
    (s.raiseHold p).clock = s.clock ∧ (s.raiseHold p).control = s.control ∧ (∀ q, (s.raiseHold p).slot q = s.slot q) ∧
    (∀ q, (s.raiseHold p).link q = s.link q) ∧ (∀ q, (s.raiseHold p).allot q = s.allot q) ∧
    (∀ m, (s.raiseHold p).module m = s.module m) ∧ (∀ n, (s.raiseHold p).tariff n = s.tariff n) ∧
    (s.raiseHold p).params = s.params ∧ (∀ q, (s.raiseHold p).rating q = s.rating q) := by
  unfold State.raiseHold; try simp only []
  (repeat' split) <;> first | (simp; done) | simp [State.slot, State.link, State.allot, State.module, State.tariff, State.params, State.rating]

/-- What `raisePark` leaves alone. -/
@[simp] theorem raisePark_frame (s : State) (add : ParkDetail → ParkDetail) :
    (s.raisePark add).pending = s.pending ∧ (s.raisePark add).now = s.now ∧ (s.raisePark add).slots = s.slots ∧
    (s.raisePark add).nextSession = s.nextSession ∧ (s.raisePark add).exhausted = s.exhausted ∧
    (s.raisePark add).tariffs = s.tariffs ∧ (s.raisePark add).settlements = s.settlements ∧ (s.raisePark add).alloc = s.alloc ∧
    (s.raisePark add).modules = s.modules ∧ (s.raisePark add).prot = s.prot ∧ (s.raisePark add).field = s.field ∧
    (s.raisePark add).host.receiver = s.host.receiver ∧ (s.raisePark add).host.requests = s.host.requests ∧
    (s.raisePark add).host.restartAfter = s.host.restartAfter ∧ (s.raisePark add).host.hostTx = s.host.hostTx ∧
    (s.raisePark add).clock = s.clock ∧ (s.raisePark add).control = s.control ∧ (∀ q, (s.raisePark add).slot q = s.slot q) ∧
    (∀ q, (s.raisePark add).link q = s.link q) ∧ (∀ q, (s.raisePark add).allot q = s.allot q) ∧
    (∀ m, (s.raisePark add).module m = s.module m) ∧ (∀ n, (s.raisePark add).tariff n = s.tariff n) ∧
    (s.raisePark add).params = s.params ∧ (∀ q, (s.raisePark add).rating q = s.rating q) := by
  unfold State.raisePark; try simp only []
  (repeat' split) <;> first | (simp; done) | simp [State.slot, State.link, State.allot, State.module, State.tariff, State.params, State.rating]

/-- What `raiseField` leaves alone. -/
@[simp] theorem raiseField_frame (s : State) (add : FieldDetail → FieldDetail) :
    (s.raiseField add).pending = s.pending ∧ (s.raiseField add).now = s.now ∧ (s.raiseField add).slots = s.slots ∧
    (s.raiseField add).nextSession = s.nextSession ∧ (s.raiseField add).exhausted = s.exhausted ∧
    (s.raiseField add).tariffs = s.tariffs ∧ (s.raiseField add).settlements = s.settlements ∧
    (s.raiseField add).alloc = s.alloc ∧ (s.raiseField add).modules = s.modules ∧ (s.raiseField add).prot = s.prot ∧
    (s.raiseField add).field = s.field ∧ (s.raiseField add).host.receiver = s.host.receiver ∧
    (s.raiseField add).host.requests = s.host.requests ∧ (s.raiseField add).host.restartAfter = s.host.restartAfter ∧
    (s.raiseField add).host.hostTx = s.host.hostTx ∧ (s.raiseField add).clock = s.clock ∧
    (s.raiseField add).control = s.control ∧ (∀ q, (s.raiseField add).slot q = s.slot q) ∧
    (∀ q, (s.raiseField add).link q = s.link q) ∧ (∀ q, (s.raiseField add).allot q = s.allot q) ∧
    (∀ m, (s.raiseField add).module m = s.module m) ∧ (∀ n, (s.raiseField add).tariff n = s.tariff n) ∧
    (s.raiseField add).params = s.params ∧ (∀ q, (s.raiseField add).rating q = s.rating q) := by
  unfold State.raiseField; try simp only []
  (repeat' split) <;> first | (simp; done) | simp [State.slot, State.link, State.allot, State.module, State.tariff, State.params, State.rating]

/-- What `raiseCondition` leaves alone. -/
@[simp] theorem raiseCondition_frame (s : State) (p : Pedestal) (add : FieldConditions → FieldConditions) :
    (s.raiseCondition p add).pending = s.pending ∧ (s.raiseCondition p add).now = s.now ∧
    (s.raiseCondition p add).slots = s.slots ∧ (s.raiseCondition p add).nextSession = s.nextSession ∧
    (s.raiseCondition p add).exhausted = s.exhausted ∧ (s.raiseCondition p add).tariffs = s.tariffs ∧
    (s.raiseCondition p add).settlements = s.settlements ∧ (s.raiseCondition p add).alloc = s.alloc ∧
    (s.raiseCondition p add).modules = s.modules ∧ (s.raiseCondition p add).prot = s.prot ∧
    (s.raiseCondition p add).field = s.field ∧ (s.raiseCondition p add).host.receiver = s.host.receiver ∧
    (s.raiseCondition p add).host.requests = s.host.requests ∧
    (s.raiseCondition p add).host.restartAfter = s.host.restartAfter ∧ (s.raiseCondition p add).host.hostTx = s.host.hostTx ∧
    (s.raiseCondition p add).clock = s.clock ∧ (s.raiseCondition p add).control = s.control ∧
    (∀ q, (s.raiseCondition p add).slot q = s.slot q) ∧ (∀ q, (s.raiseCondition p add).link q = s.link q) ∧
    (∀ q, (s.raiseCondition p add).allot q = s.allot q) ∧ (∀ m, (s.raiseCondition p add).module m = s.module m) ∧
    (∀ n, (s.raiseCondition p add).tariff n = s.tariff n) ∧
    (s.raiseCondition p add).params = s.params ∧ (∀ q, (s.raiseCondition p add).rating q = s.rating q) := by
  unfold State.raiseCondition; try simp only []
  (repeat' split) <;> first | (simp; done) | simp [State.slot, State.link, State.allot, State.module, State.tariff, State.params, State.rating]

/-- What `enqueue` leaves alone. -/
@[simp] theorem enqueue_frame (s : State) (o : Order) :
    (s.enqueue o).pending = s.pending ∧ (s.enqueue o).now = s.now ∧ (s.enqueue o).slots = s.slots ∧
    (s.enqueue o).nextSession = s.nextSession ∧ (s.enqueue o).exhausted = s.exhausted ∧ (s.enqueue o).tariffs = s.tariffs ∧
    (s.enqueue o).settlements = s.settlements ∧ (s.enqueue o).alloc = s.alloc ∧ (s.enqueue o).modules = s.modules ∧
    (s.enqueue o).prot = s.prot ∧ (s.enqueue o).field.can = s.field.can ∧ (s.enqueue o).field.buffer = s.field.buffer ∧
    (s.enqueue o).field.links = s.field.links ∧ (s.enqueue o).field.fieldTx = s.field.fieldTx ∧ (s.enqueue o).host = s.host ∧
    (s.enqueue o).notices = s.notices ∧ (s.enqueue o).clock = s.clock ∧ (s.enqueue o).control = s.control ∧
    (∀ q, (s.enqueue o).slot q = s.slot q) ∧ (∀ q, (s.enqueue o).link q = s.link q) ∧
    (∀ q, (s.enqueue o).allot q = s.allot q) ∧ (∀ m, (s.enqueue o).module m = s.module m) ∧
    (∀ n, (s.enqueue o).tariff n = s.tariff n) ∧
    (s.enqueue o).params = s.params ∧ (∀ q, (s.enqueue o).rating q = s.rating q) := by
  unfold State.enqueue; try simp only []
  (repeat' split) <;> first | (simp; done) | simp [State.slot, State.link, State.allot, State.module, State.tariff, State.params, State.rating]

/-- What `replaceOrder` leaves alone. -/
@[simp] theorem replaceOrder_frame (s : State) (o : Order) :
    (s.replaceOrder o).pending = s.pending ∧ (s.replaceOrder o).now = s.now ∧ (s.replaceOrder o).slots = s.slots ∧
    (s.replaceOrder o).nextSession = s.nextSession ∧ (s.replaceOrder o).exhausted = s.exhausted ∧
    (s.replaceOrder o).tariffs = s.tariffs ∧ (s.replaceOrder o).settlements = s.settlements ∧
    (s.replaceOrder o).alloc = s.alloc ∧ (s.replaceOrder o).modules = s.modules ∧ (s.replaceOrder o).prot = s.prot ∧
    (s.replaceOrder o).field.can = s.field.can ∧ (s.replaceOrder o).field.buffer = s.field.buffer ∧
    (s.replaceOrder o).field.links = s.field.links ∧ (s.replaceOrder o).field.fieldTx = s.field.fieldTx ∧
    (s.replaceOrder o).host = s.host ∧ (s.replaceOrder o).notices = s.notices ∧ (s.replaceOrder o).clock = s.clock ∧
    (s.replaceOrder o).control = s.control ∧ (∀ q, (s.replaceOrder o).slot q = s.slot q) ∧
    (∀ q, (s.replaceOrder o).link q = s.link q) ∧ (∀ q, (s.replaceOrder o).allot q = s.allot q) ∧
    (∀ m, (s.replaceOrder o).module m = s.module m) ∧ (∀ n, (s.replaceOrder o).tariff n = s.tariff n) ∧
    (s.replaceOrder o).params = s.params ∧ (∀ q, (s.replaceOrder o).rating q = s.rating q) := by
  unfold State.replaceOrder; try simp only []
  (repeat' split) <;> first | (simp; done) | simp [State.slot, State.link, State.allot, State.module, State.tariff, State.params, State.rating]

/-- What `dropOrders` leaves alone. -/
@[simp] theorem dropOrders_frame (s : State) (p : Pedestal) :
    (s.dropOrders p).pending = s.pending ∧ (s.dropOrders p).now = s.now ∧ (s.dropOrders p).slots = s.slots ∧
    (s.dropOrders p).nextSession = s.nextSession ∧ (s.dropOrders p).exhausted = s.exhausted ∧
    (s.dropOrders p).tariffs = s.tariffs ∧ (s.dropOrders p).settlements = s.settlements ∧ (s.dropOrders p).alloc = s.alloc ∧
    (s.dropOrders p).modules = s.modules ∧ (s.dropOrders p).prot = s.prot ∧ (s.dropOrders p).field.can = s.field.can ∧
    (s.dropOrders p).field.buffer = s.field.buffer ∧ (s.dropOrders p).field.links = s.field.links ∧
    (s.dropOrders p).field.fieldTx = s.field.fieldTx ∧ (s.dropOrders p).host = s.host ∧ (s.dropOrders p).notices = s.notices ∧
    (s.dropOrders p).clock = s.clock ∧ (s.dropOrders p).control = s.control ∧ (∀ q, (s.dropOrders p).slot q = s.slot q) ∧
    (∀ q, (s.dropOrders p).link q = s.link q) ∧ (∀ q, (s.dropOrders p).allot q = s.allot q) ∧
    (∀ m, (s.dropOrders p).module m = s.module m) ∧ (∀ n, (s.dropOrders p).tariff n = s.tariff n) ∧
    (s.dropOrders p).params = s.params ∧ (∀ q, (s.dropOrders p).rating q = s.rating q) := by
  unfold State.dropOrders; try simp only []
  (repeat' split) <;> first | (simp; done) | simp [State.slot, State.link, State.allot, State.module, State.tariff, State.params, State.rating]

/-- What `replaceOrEnqueue` leaves alone. -/
@[simp] theorem replaceOrEnqueue_frame (s : State) (o : Order) :
    (s.replaceOrEnqueue o).pending = s.pending ∧ (s.replaceOrEnqueue o).now = s.now ∧ (s.replaceOrEnqueue o).slots = s.slots ∧
    (s.replaceOrEnqueue o).nextSession = s.nextSession ∧ (s.replaceOrEnqueue o).exhausted = s.exhausted ∧
    (s.replaceOrEnqueue o).tariffs = s.tariffs ∧ (s.replaceOrEnqueue o).settlements = s.settlements ∧
    (s.replaceOrEnqueue o).alloc = s.alloc ∧ (s.replaceOrEnqueue o).modules = s.modules ∧
    (s.replaceOrEnqueue o).prot = s.prot ∧ (s.replaceOrEnqueue o).field.can = s.field.can ∧
    (s.replaceOrEnqueue o).field.buffer = s.field.buffer ∧ (s.replaceOrEnqueue o).field.links = s.field.links ∧
    (s.replaceOrEnqueue o).field.fieldTx = s.field.fieldTx ∧ (s.replaceOrEnqueue o).host = s.host ∧
    (s.replaceOrEnqueue o).notices = s.notices ∧ (s.replaceOrEnqueue o).clock = s.clock ∧
    (s.replaceOrEnqueue o).control = s.control ∧ (∀ q, (s.replaceOrEnqueue o).slot q = s.slot q) ∧
    (∀ q, (s.replaceOrEnqueue o).link q = s.link q) ∧ (∀ q, (s.replaceOrEnqueue o).allot q = s.allot q) ∧
    (∀ m, (s.replaceOrEnqueue o).module m = s.module m) ∧ (∀ n, (s.replaceOrEnqueue o).tariff n = s.tariff n) ∧
    (s.replaceOrEnqueue o).params = s.params ∧ (∀ q, (s.replaceOrEnqueue o).rating q = s.rating q) := by
  unfold State.replaceOrEnqueue; try simp only []
  (repeat' split) <;> first | (simp; done) | simp [State.slot, State.link, State.allot, State.module, State.tariff, State.params, State.rating]

/-- What `endQuery` leaves alone. -/
@[simp] theorem endQuery_frame (s : State) (p : Pedestal) (code : ResultCode) (data : List Byte) :
    (s.endQuery p code data).pending = s.pending ∧ (s.endQuery p code data).now = s.now ∧
    (s.endQuery p code data).slots = s.slots ∧ (s.endQuery p code data).nextSession = s.nextSession ∧
    (s.endQuery p code data).exhausted = s.exhausted ∧ (s.endQuery p code data).tariffs = s.tariffs ∧
    (s.endQuery p code data).settlements = s.settlements ∧ (s.endQuery p code data).alloc = s.alloc ∧
    (s.endQuery p code data).modules = s.modules ∧ (s.endQuery p code data).prot = s.prot ∧
    (s.endQuery p code data).field.can = s.field.can ∧ (s.endQuery p code data).field.queue = s.field.queue ∧
    (s.endQuery p code data).field.buffer = s.field.buffer ∧ (s.endQuery p code data).field.fieldTx = s.field.fieldTx ∧
    (s.endQuery p code data).host.receiver = s.host.receiver ∧ (s.endQuery p code data).host.requests = s.host.requests ∧
    (s.endQuery p code data).host.restartAfter = s.host.restartAfter ∧ (s.endQuery p code data).host.hostTx = s.host.hostTx ∧
    (s.endQuery p code data).notices = s.notices ∧ (s.endQuery p code data).clock = s.clock ∧
    (s.endQuery p code data).control = s.control ∧ (∀ q, (s.endQuery p code data).slot q = s.slot q) ∧
    (∀ q, (s.endQuery p code data).allot q = s.allot q) ∧ (∀ m, (s.endQuery p code data).module m = s.module m) ∧
    (∀ n, (s.endQuery p code data).tariff n = s.tariff n) ∧
    (s.endQuery p code data).params = s.params ∧ (∀ q, (s.endQuery p code data).rating q = s.rating q) := by
  unfold State.endQuery; try simp only []
  (repeat' split) <;> first | (simp; done) | simp [State.slot, State.link, State.allot, State.module, State.tariff, State.params, State.rating]

/-- What `placeSessionOrder` leaves alone. -/
@[simp] theorem placeSessionOrder_frame (s : State) (p : Pedestal) (o : Order) :
    (s.placeSessionOrder p o).pending = s.pending ∧ (s.placeSessionOrder p o).now = s.now ∧
    (s.placeSessionOrder p o).slots = s.slots ∧ (s.placeSessionOrder p o).nextSession = s.nextSession ∧
    (s.placeSessionOrder p o).exhausted = s.exhausted ∧ (s.placeSessionOrder p o).tariffs = s.tariffs ∧
    (s.placeSessionOrder p o).settlements = s.settlements ∧ (s.placeSessionOrder p o).alloc = s.alloc ∧
    (s.placeSessionOrder p o).modules = s.modules ∧ (s.placeSessionOrder p o).prot = s.prot ∧
    (s.placeSessionOrder p o).field.can = s.field.can ∧ (s.placeSessionOrder p o).field.buffer = s.field.buffer ∧
    (s.placeSessionOrder p o).field.fieldTx = s.field.fieldTx ∧ (s.placeSessionOrder p o).host.receiver = s.host.receiver ∧
    (s.placeSessionOrder p o).host.requests = s.host.requests ∧
    (s.placeSessionOrder p o).host.restartAfter = s.host.restartAfter ∧ (s.placeSessionOrder p o).host.hostTx = s.host.hostTx ∧
    (s.placeSessionOrder p o).notices = s.notices ∧ (s.placeSessionOrder p o).clock = s.clock ∧
    (s.placeSessionOrder p o).control = s.control ∧ (∀ q, (s.placeSessionOrder p o).slot q = s.slot q) ∧
    (∀ q, (s.placeSessionOrder p o).allot q = s.allot q) ∧ (∀ m, (s.placeSessionOrder p o).module m = s.module m) ∧
    (∀ n, (s.placeSessionOrder p o).tariff n = s.tariff n) ∧
    (s.placeSessionOrder p o).params = s.params ∧ (∀ q, (s.placeSessionOrder p o).rating q = s.rating q) := by
  unfold State.placeSessionOrder; try simp only []
  (repeat' split) <;> first | (simp; done) | simp [State.slot, State.link, State.allot, State.module, State.tariff, State.params, State.rating]

/-- What `placeOrder` leaves alone. -/
@[simp] theorem placeOrder_frame (s : State) (o : Order) :
    (s.placeOrder o).pending = s.pending ∧ (s.placeOrder o).now = s.now ∧ (s.placeOrder o).slots = s.slots ∧
    (s.placeOrder o).nextSession = s.nextSession ∧ (s.placeOrder o).exhausted = s.exhausted ∧
    (s.placeOrder o).tariffs = s.tariffs ∧ (s.placeOrder o).settlements = s.settlements ∧ (s.placeOrder o).alloc = s.alloc ∧
    (s.placeOrder o).modules = s.modules ∧ (s.placeOrder o).prot = s.prot ∧ (s.placeOrder o).field.can = s.field.can ∧
    (s.placeOrder o).field.buffer = s.field.buffer ∧ (s.placeOrder o).field.fieldTx = s.field.fieldTx ∧
    (s.placeOrder o).host.receiver = s.host.receiver ∧ (s.placeOrder o).host.requests = s.host.requests ∧
    (s.placeOrder o).host.restartAfter = s.host.restartAfter ∧ (s.placeOrder o).host.hostTx = s.host.hostTx ∧
    (s.placeOrder o).notices = s.notices ∧ (s.placeOrder o).clock = s.clock ∧ (s.placeOrder o).control = s.control ∧
    (∀ q, (s.placeOrder o).slot q = s.slot q) ∧ (∀ q, (s.placeOrder o).allot q = s.allot q) ∧
    (∀ m, (s.placeOrder o).module m = s.module m) ∧ (∀ n, (s.placeOrder o).tariff n = s.tariff n) ∧
    (s.placeOrder o).params = s.params ∧ (∀ q, (s.placeOrder o).rating q = s.rating q) := by
  unfold State.placeOrder; try simp only []
  (repeat' split) <;> first | (simp; done) | simp [State.slot, State.link, State.allot, State.module, State.tariff, State.params, State.rating]

/-- What `startTransmit` leaves alone. -/
@[simp] theorem startTransmit_frame (s : State) :
    (s.startTransmit).pending = s.pending ∧ (s.startTransmit).now = s.now ∧ (s.startTransmit).slots = s.slots ∧
    (s.startTransmit).nextSession = s.nextSession ∧ (s.startTransmit).exhausted = s.exhausted ∧
    (s.startTransmit).tariffs = s.tariffs ∧ (s.startTransmit).settlements = s.settlements ∧ (s.startTransmit).alloc = s.alloc ∧
    (s.startTransmit).modules = s.modules ∧ (s.startTransmit).prot = s.prot ∧ (s.startTransmit).field.can = s.field.can ∧
    (s.startTransmit).field.links = s.field.links ∧ (s.startTransmit).field.fieldTx = s.field.fieldTx ∧
    (s.startTransmit).host = s.host ∧ (s.startTransmit).notices = s.notices ∧ (s.startTransmit).clock = s.clock ∧
    (s.startTransmit).control = s.control ∧ (∀ q, (s.startTransmit).slot q = s.slot q) ∧
    (∀ q, (s.startTransmit).link q = s.link q) ∧ (∀ q, (s.startTransmit).allot q = s.allot q) ∧
    (∀ m, (s.startTransmit).module m = s.module m) ∧ (∀ n, (s.startTransmit).tariff n = s.tariff n) ∧
    (s.startTransmit).params = s.params ∧ (∀ q, (s.startTransmit).rating q = s.rating q) := by
  unfold State.startTransmit; try simp only []
  (repeat' split) <;> first | (simp; done) | simp [State.slot, State.link, State.allot, State.module, State.tariff, State.params, State.rating]

/-- What `orderSetpoint` leaves alone. -/
@[simp] theorem orderSetpoint_frame (s : State) (p : Pedestal) (kw : Nat) :
    (s.orderSetpoint p kw).pending = s.pending ∧ (s.orderSetpoint p kw).now = s.now ∧ (s.orderSetpoint p kw).slots = s.slots ∧
    (s.orderSetpoint p kw).nextSession = s.nextSession ∧ (s.orderSetpoint p kw).exhausted = s.exhausted ∧
    (s.orderSetpoint p kw).tariffs = s.tariffs ∧ (s.orderSetpoint p kw).settlements = s.settlements ∧
    (s.orderSetpoint p kw).alloc.pAv = s.alloc.pAv ∧ (s.orderSetpoint p kw).alloc.budget = s.alloc.budget ∧
    (s.orderSetpoint p kw).alloc.gridCap = s.alloc.gridCap ∧
    (s.orderSetpoint p kw).alloc.stagedGridCap = s.alloc.stagedGridCap ∧
    (s.orderSetpoint p kw).alloc.pointer = s.alloc.pointer ∧ (s.orderSetpoint p kw).alloc.periodTimer = s.alloc.periodTimer ∧
    (s.orderSetpoint p kw).modules = s.modules ∧ (s.orderSetpoint p kw).prot = s.prot ∧
    (s.orderSetpoint p kw).field.can = s.field.can ∧ (s.orderSetpoint p kw).field.buffer = s.field.buffer ∧
    (s.orderSetpoint p kw).field.links = s.field.links ∧ (s.orderSetpoint p kw).field.fieldTx = s.field.fieldTx ∧
    (s.orderSetpoint p kw).host = s.host ∧ (s.orderSetpoint p kw).notices = s.notices ∧
    (s.orderSetpoint p kw).clock = s.clock ∧ (s.orderSetpoint p kw).control = s.control ∧
    (∀ q, (s.orderSetpoint p kw).slot q = s.slot q) ∧ (∀ q, (s.orderSetpoint p kw).link q = s.link q) ∧
    (∀ m, (s.orderSetpoint p kw).module m = s.module m) ∧ (∀ n, (s.orderSetpoint p kw).tariff n = s.tariff n) ∧
    (s.orderSetpoint p kw).params = s.params ∧ (∀ q, (s.orderSetpoint p kw).rating q = s.rating q) := by unfold State.orderSetpoint; split <;> simp [State.placeOrder]

/-- What `lowerSetpoint` leaves alone. -/
@[simp] theorem lowerSetpoint_frame (s : State) (p : Pedestal) (limit : Nat) :
    (s.lowerSetpoint p limit).pending = s.pending ∧ (s.lowerSetpoint p limit).now = s.now ∧
    (s.lowerSetpoint p limit).slots = s.slots ∧ (s.lowerSetpoint p limit).nextSession = s.nextSession ∧
    (s.lowerSetpoint p limit).exhausted = s.exhausted ∧ (s.lowerSetpoint p limit).tariffs = s.tariffs ∧
    (s.lowerSetpoint p limit).settlements = s.settlements ∧ (s.lowerSetpoint p limit).alloc.pAv = s.alloc.pAv ∧
    (s.lowerSetpoint p limit).alloc.budget = s.alloc.budget ∧ (s.lowerSetpoint p limit).alloc.gridCap = s.alloc.gridCap ∧
    (s.lowerSetpoint p limit).alloc.stagedGridCap = s.alloc.stagedGridCap ∧
    (s.lowerSetpoint p limit).alloc.pointer = s.alloc.pointer ∧
    (s.lowerSetpoint p limit).alloc.periodTimer = s.alloc.periodTimer ∧ (s.lowerSetpoint p limit).modules = s.modules ∧
    (s.lowerSetpoint p limit).prot = s.prot ∧ (s.lowerSetpoint p limit).field.can = s.field.can ∧
    (s.lowerSetpoint p limit).field.buffer = s.field.buffer ∧ (s.lowerSetpoint p limit).field.links = s.field.links ∧
    (s.lowerSetpoint p limit).field.fieldTx = s.field.fieldTx ∧ (s.lowerSetpoint p limit).host = s.host ∧
    (s.lowerSetpoint p limit).notices = s.notices ∧ (s.lowerSetpoint p limit).clock = s.clock ∧
    (s.lowerSetpoint p limit).control = s.control ∧ (∀ q, (s.lowerSetpoint p limit).slot q = s.slot q) ∧
    (∀ q, (s.lowerSetpoint p limit).link q = s.link q) ∧ (∀ m, (s.lowerSetpoint p limit).module m = s.module m) ∧
    (∀ n, (s.lowerSetpoint p limit).tariff n = s.tariff n) ∧
    (s.lowerSetpoint p limit).params = s.params ∧ (∀ q, (s.lowerSetpoint p limit).rating q = s.rating q) := by
  unfold State.lowerSetpoint; try simp only []
  (repeat' split) <;> first | (simp; done) | simp [State.slot, State.link, State.allot, State.module, State.tariff, State.params, State.rating]

/-- What `settleSetpoint` leaves alone. -/
@[simp] theorem settleSetpoint_frame (s : State) (p : Pedestal) :
    (s.settleSetpoint p).pending = s.pending ∧ (s.settleSetpoint p).now = s.now ∧ (s.settleSetpoint p).slots = s.slots ∧
    (s.settleSetpoint p).nextSession = s.nextSession ∧ (s.settleSetpoint p).exhausted = s.exhausted ∧
    (s.settleSetpoint p).tariffs = s.tariffs ∧ (s.settleSetpoint p).settlements = s.settlements ∧
    (s.settleSetpoint p).alloc.pAv = s.alloc.pAv ∧ (s.settleSetpoint p).alloc.budget = s.alloc.budget ∧
    (s.settleSetpoint p).alloc.gridCap = s.alloc.gridCap ∧ (s.settleSetpoint p).alloc.stagedGridCap = s.alloc.stagedGridCap ∧
    (s.settleSetpoint p).alloc.pointer = s.alloc.pointer ∧ (s.settleSetpoint p).alloc.periodTimer = s.alloc.periodTimer ∧
    (s.settleSetpoint p).modules = s.modules ∧ (s.settleSetpoint p).prot = s.prot ∧
    (s.settleSetpoint p).field.can = s.field.can ∧ (s.settleSetpoint p).field.buffer = s.field.buffer ∧
    (s.settleSetpoint p).field.links = s.field.links ∧ (s.settleSetpoint p).field.fieldTx = s.field.fieldTx ∧
    (s.settleSetpoint p).host = s.host ∧ (s.settleSetpoint p).notices = s.notices ∧ (s.settleSetpoint p).clock = s.clock ∧
    (s.settleSetpoint p).control = s.control ∧ (∀ q, (s.settleSetpoint p).slot q = s.slot q) ∧
    (∀ q, (s.settleSetpoint p).link q = s.link q) ∧ (∀ m, (s.settleSetpoint p).module m = s.module m) ∧
    (∀ n, (s.settleSetpoint p).tariff n = s.tariff n) ∧
    (s.settleSetpoint p).params = s.params ∧ (∀ q, (s.settleSetpoint p).rating q = s.rating q) := by
  unfold State.settleSetpoint; try simp only []
  (repeat' split) <;> first | (simp; done) | simp [State.slot, State.link, State.allot, State.module, State.tariff, State.params, State.rating]

/-- What `lowerToAssigned` leaves alone. -/
@[simp] theorem lowerToAssigned_frame (s : State) (p : Option Pedestal) :
    (s.lowerToAssigned p).pending = s.pending ∧ (s.lowerToAssigned p).now = s.now ∧ (s.lowerToAssigned p).slots = s.slots ∧
    (s.lowerToAssigned p).nextSession = s.nextSession ∧ (s.lowerToAssigned p).exhausted = s.exhausted ∧
    (s.lowerToAssigned p).tariffs = s.tariffs ∧ (s.lowerToAssigned p).settlements = s.settlements ∧
    (s.lowerToAssigned p).alloc.pAv = s.alloc.pAv ∧ (s.lowerToAssigned p).alloc.budget = s.alloc.budget ∧
    (s.lowerToAssigned p).alloc.gridCap = s.alloc.gridCap ∧ (s.lowerToAssigned p).alloc.stagedGridCap = s.alloc.stagedGridCap ∧
    (s.lowerToAssigned p).alloc.pointer = s.alloc.pointer ∧ (s.lowerToAssigned p).alloc.periodTimer = s.alloc.periodTimer ∧
    (s.lowerToAssigned p).modules = s.modules ∧ (s.lowerToAssigned p).prot = s.prot ∧
    (s.lowerToAssigned p).field.can = s.field.can ∧ (s.lowerToAssigned p).field.buffer = s.field.buffer ∧
    (s.lowerToAssigned p).field.links = s.field.links ∧ (s.lowerToAssigned p).field.fieldTx = s.field.fieldTx ∧
    (s.lowerToAssigned p).host = s.host ∧ (s.lowerToAssigned p).notices = s.notices ∧ (s.lowerToAssigned p).clock = s.clock ∧
    (s.lowerToAssigned p).control = s.control ∧ (∀ q, (s.lowerToAssigned p).slot q = s.slot q) ∧
    (∀ q, (s.lowerToAssigned p).link q = s.link q) ∧ (∀ m, (s.lowerToAssigned p).module m = s.module m) ∧
    (∀ n, (s.lowerToAssigned p).tariff n = s.tariff n) ∧
    (s.lowerToAssigned p).params = s.params ∧ (∀ q, (s.lowerToAssigned p).rating q = s.rating q) := by
  unfold State.lowerToAssigned; try simp only []
  (repeat' split) <;> first | (simp; done) | simp [State.slot, State.link, State.allot, State.module, State.tariff, State.params, State.rating]

/-- What `openContactor` leaves alone. -/
@[simp] theorem openContactor_frame (s : State) (m : ModuleNo) :
    (s.openContactor m).pending = s.pending ∧ (s.openContactor m).now = s.now ∧ (s.openContactor m).slots = s.slots ∧
    (s.openContactor m).nextSession = s.nextSession ∧ (s.openContactor m).exhausted = s.exhausted ∧
    (s.openContactor m).tariffs = s.tariffs ∧ (s.openContactor m).settlements = s.settlements ∧
    (s.openContactor m).alloc = s.alloc ∧ (s.openContactor m).prot = s.prot ∧ (s.openContactor m).field.can = s.field.can ∧
    (s.openContactor m).field.buffer = s.field.buffer ∧ (s.openContactor m).field.links = s.field.links ∧
    (s.openContactor m).field.fieldTx = s.field.fieldTx ∧ (s.openContactor m).host = s.host ∧
    (s.openContactor m).notices = s.notices ∧ (s.openContactor m).clock = s.clock ∧ (s.openContactor m).control = s.control ∧
    (∀ q, (s.openContactor m).slot q = s.slot q) ∧ (∀ q, (s.openContactor m).link q = s.link q) ∧
    (∀ q, (s.openContactor m).allot q = s.allot q) ∧ (∀ n, (s.openContactor m).tariff n = s.tariff n) ∧
    (s.openContactor m).params = s.params ∧ (∀ q, (s.openContactor m).rating q = s.rating q) := by simp [State.openContactor, State.placeOrder]

/-- What `closeContactor` leaves alone. -/
@[simp] theorem closeContactor_frame (s : State) (m : ModuleNo) :
    (s.closeContactor m).pending = s.pending ∧ (s.closeContactor m).now = s.now ∧ (s.closeContactor m).slots = s.slots ∧
    (s.closeContactor m).nextSession = s.nextSession ∧ (s.closeContactor m).exhausted = s.exhausted ∧
    (s.closeContactor m).tariffs = s.tariffs ∧ (s.closeContactor m).settlements = s.settlements ∧
    (s.closeContactor m).alloc = s.alloc ∧ (s.closeContactor m).prot = s.prot ∧ (s.closeContactor m).field.can = s.field.can ∧
    (s.closeContactor m).field.buffer = s.field.buffer ∧ (s.closeContactor m).field.links = s.field.links ∧
    (s.closeContactor m).field.fieldTx = s.field.fieldTx ∧ (s.closeContactor m).host = s.host ∧
    (s.closeContactor m).notices = s.notices ∧ (s.closeContactor m).clock = s.clock ∧
    (s.closeContactor m).control = s.control ∧ (∀ q, (s.closeContactor m).slot q = s.slot q) ∧
    (∀ q, (s.closeContactor m).link q = s.link q) ∧ (∀ q, (s.closeContactor m).allot q = s.allot q) ∧
    (∀ n, (s.closeContactor m).tariff n = s.tariff n) ∧
    (s.closeContactor m).params = s.params ∧ (∀ q, (s.closeContactor m).rating q = s.rating q) := by simp [State.closeContactor, State.placeOrder]

/-- What `rampModule` leaves alone. -/
@[simp] theorem rampModule_frame (s : State) (m : ModuleNo) :
    (s.rampModule m).pending = s.pending ∧ (s.rampModule m).now = s.now ∧ (s.rampModule m).slots = s.slots ∧
    (s.rampModule m).nextSession = s.nextSession ∧ (s.rampModule m).exhausted = s.exhausted ∧
    (s.rampModule m).tariffs = s.tariffs ∧ (s.rampModule m).settlements = s.settlements ∧ (s.rampModule m).alloc = s.alloc ∧
    (s.rampModule m).prot = s.prot ∧ (s.rampModule m).field.can = s.field.can ∧
    (s.rampModule m).field.buffer = s.field.buffer ∧ (s.rampModule m).field.links = s.field.links ∧
    (s.rampModule m).field.fieldTx = s.field.fieldTx ∧ (s.rampModule m).host = s.host ∧ (s.rampModule m).notices = s.notices ∧
    (s.rampModule m).clock = s.clock ∧ (s.rampModule m).control = s.control ∧ (∀ q, (s.rampModule m).slot q = s.slot q) ∧
    (∀ q, (s.rampModule m).link q = s.link q) ∧ (∀ q, (s.rampModule m).allot q = s.allot q) ∧
    (∀ n, (s.rampModule m).tariff n = s.tariff n) ∧
    (s.rampModule m).params = s.params ∧ (∀ q, (s.rampModule m).rating q = s.rating q) := by simp [State.rampModule, State.placeOrder]

/-- What `assignModule` leaves alone. -/
@[simp] theorem assignModule_frame (s : State) (m : ModuleNo) (p : Pedestal) :
    (s.assignModule m p).pending = s.pending ∧ (s.assignModule m p).now = s.now ∧ (s.assignModule m p).slots = s.slots ∧
    (s.assignModule m p).nextSession = s.nextSession ∧ (s.assignModule m p).exhausted = s.exhausted ∧
    (s.assignModule m p).tariffs = s.tariffs ∧ (s.assignModule m p).settlements = s.settlements ∧
    (s.assignModule m p).alloc = s.alloc ∧ (s.assignModule m p).prot = s.prot ∧ (s.assignModule m p).field.can = s.field.can ∧
    (s.assignModule m p).field.buffer = s.field.buffer ∧ (s.assignModule m p).field.links = s.field.links ∧
    (s.assignModule m p).field.fieldTx = s.field.fieldTx ∧ (s.assignModule m p).host = s.host ∧
    (s.assignModule m p).notices = s.notices ∧ (s.assignModule m p).clock = s.clock ∧
    (s.assignModule m p).control = s.control ∧ (∀ q, (s.assignModule m p).slot q = s.slot q) ∧
    (∀ q, (s.assignModule m p).link q = s.link q) ∧ (∀ q, (s.assignModule m p).allot q = s.allot q) ∧
    (∀ n, (s.assignModule m p).tariff n = s.tariff n) ∧
    (s.assignModule m p).params = s.params ∧ (∀ q, (s.assignModule m p).rating q = s.rating q) := by unfold State.assignModule; split <;> simp [State.placeOrder]

/-- What `releaseModule` leaves alone. -/
@[simp] theorem releaseModule_frame (s : State) (m : ModuleNo) :
    (s.releaseModule m).pending = s.pending ∧ (s.releaseModule m).now = s.now ∧ (s.releaseModule m).slots = s.slots ∧
    (s.releaseModule m).nextSession = s.nextSession ∧ (s.releaseModule m).exhausted = s.exhausted ∧
    (s.releaseModule m).tariffs = s.tariffs ∧ (s.releaseModule m).settlements = s.settlements ∧
    (s.releaseModule m).alloc = s.alloc ∧ (s.releaseModule m).prot = s.prot ∧ (s.releaseModule m).field.can = s.field.can ∧
    (s.releaseModule m).field.buffer = s.field.buffer ∧ (s.releaseModule m).field.links = s.field.links ∧
    (s.releaseModule m).field.fieldTx = s.field.fieldTx ∧ (s.releaseModule m).host = s.host ∧
    (s.releaseModule m).notices = s.notices ∧ (s.releaseModule m).clock = s.clock ∧ (s.releaseModule m).control = s.control ∧
    (∀ q, (s.releaseModule m).slot q = s.slot q) ∧ (∀ q, (s.releaseModule m).link q = s.link q) ∧
    (∀ q, (s.releaseModule m).allot q = s.allot q) ∧ (∀ n, (s.releaseModule m).tariff n = s.tariff n) ∧
    (s.releaseModule m).params = s.params ∧ (∀ q, (s.releaseModule m).rating q = s.rating q) := by
  unfold State.releaseModule; try simp only []
  (repeat' split) <;> first | (simp; done) | simp [State.slot, State.link, State.allot, State.module, State.tariff, State.params, State.rating]

/-- What `faultModule` leaves alone. -/
@[simp] theorem faultModule_frame (s : State) (m : ModuleNo) (origin : FaultOrigin) (code : Byte) :
    (s.faultModule m origin code).pending = s.pending ∧ (s.faultModule m origin code).now = s.now ∧
    (s.faultModule m origin code).slots = s.slots ∧ (s.faultModule m origin code).nextSession = s.nextSession ∧
    (s.faultModule m origin code).exhausted = s.exhausted ∧ (s.faultModule m origin code).tariffs = s.tariffs ∧
    (s.faultModule m origin code).settlements = s.settlements ∧ (s.faultModule m origin code).alloc.pAv = s.alloc.pAv ∧
    (s.faultModule m origin code).alloc.budget = s.alloc.budget ∧
    (s.faultModule m origin code).alloc.gridCap = s.alloc.gridCap ∧
    (s.faultModule m origin code).alloc.stagedGridCap = s.alloc.stagedGridCap ∧
    (s.faultModule m origin code).alloc.pointer = s.alloc.pointer ∧
    (s.faultModule m origin code).alloc.periodTimer = s.alloc.periodTimer ∧ (s.faultModule m origin code).prot = s.prot ∧
    (s.faultModule m origin code).field.can = s.field.can ∧ (s.faultModule m origin code).field.buffer = s.field.buffer ∧
    (s.faultModule m origin code).field.links = s.field.links ∧ (s.faultModule m origin code).field.fieldTx = s.field.fieldTx ∧
    (s.faultModule m origin code).host.receiver = s.host.receiver ∧
    (s.faultModule m origin code).host.requests = s.host.requests ∧
    (s.faultModule m origin code).host.restartAfter = s.host.restartAfter ∧
    (s.faultModule m origin code).host.hostTx = s.host.hostTx ∧ (s.faultModule m origin code).clock = s.clock ∧
    (s.faultModule m origin code).control = s.control ∧ (∀ q, (s.faultModule m origin code).slot q = s.slot q) ∧
    (∀ q, (s.faultModule m origin code).link q = s.link q) ∧ (∀ n, (s.faultModule m origin code).tariff n = s.tariff n) ∧
    (s.faultModule m origin code).params = s.params ∧ (∀ q, (s.faultModule m origin code).rating q = s.rating q) := by unfold State.faultModule; simp only []; split <;> simp [State.placeOrder]

/-- What `forceModule` leaves alone. -/
@[simp] theorem forceModule_frame (s : State) (m : ModuleNo) :
    (s.forceModule m).pending = s.pending ∧ (s.forceModule m).now = s.now ∧ (s.forceModule m).slots = s.slots ∧
    (s.forceModule m).nextSession = s.nextSession ∧ (s.forceModule m).exhausted = s.exhausted ∧
    (s.forceModule m).tariffs = s.tariffs ∧ (s.forceModule m).settlements = s.settlements ∧
    (s.forceModule m).alloc.pAv = s.alloc.pAv ∧ (s.forceModule m).alloc.budget = s.alloc.budget ∧
    (s.forceModule m).alloc.gridCap = s.alloc.gridCap ∧ (s.forceModule m).alloc.stagedGridCap = s.alloc.stagedGridCap ∧
    (s.forceModule m).alloc.pointer = s.alloc.pointer ∧ (s.forceModule m).alloc.periodTimer = s.alloc.periodTimer ∧
    (s.forceModule m).prot = s.prot ∧ (s.forceModule m).field.can = s.field.can ∧
    (s.forceModule m).field.buffer = s.field.buffer ∧ (s.forceModule m).field.links = s.field.links ∧
    (s.forceModule m).field.fieldTx = s.field.fieldTx ∧ (s.forceModule m).host = s.host ∧
    (s.forceModule m).notices = s.notices ∧ (s.forceModule m).clock = s.clock ∧ (s.forceModule m).control = s.control ∧
    (∀ q, (s.forceModule m).slot q = s.slot q) ∧ (∀ q, (s.forceModule m).link q = s.link q) ∧
    (∀ n, (s.forceModule m).tariff n = s.tariff n) ∧
    (s.forceModule m).params = s.params ∧ (∀ q, (s.forceModule m).rating q = s.rating q) := by unfold State.forceModule; simp only []; split <;> simp

/-- What `forceAll` leaves alone. -/
@[simp] theorem forceAll_frame (s : State) :
    (s.forceAll).pending = s.pending ∧ (s.forceAll).now = s.now ∧ (s.forceAll).slots = s.slots ∧
    (s.forceAll).nextSession = s.nextSession ∧ (s.forceAll).exhausted = s.exhausted ∧ (s.forceAll).tariffs = s.tariffs ∧
    (s.forceAll).settlements = s.settlements ∧ (s.forceAll).alloc.pAv = s.alloc.pAv ∧
    (s.forceAll).alloc.budget = s.alloc.budget ∧ (s.forceAll).alloc.gridCap = s.alloc.gridCap ∧
    (s.forceAll).alloc.stagedGridCap = s.alloc.stagedGridCap ∧ (s.forceAll).alloc.pointer = s.alloc.pointer ∧
    (s.forceAll).alloc.periodTimer = s.alloc.periodTimer ∧ (s.forceAll).prot = s.prot ∧ (s.forceAll).field.can = s.field.can ∧
    (s.forceAll).field.buffer = s.field.buffer ∧ (s.forceAll).field.links = s.field.links ∧
    (s.forceAll).field.fieldTx = s.field.fieldTx ∧ (s.forceAll).host = s.host ∧ (s.forceAll).notices = s.notices ∧
    (s.forceAll).clock = s.clock ∧ (s.forceAll).control = s.control ∧ (∀ q, (s.forceAll).slot q = s.slot q) ∧
    (∀ q, (s.forceAll).link q = s.link q) ∧ (∀ n, (s.forceAll).tariff n = s.tariff n) ∧
    (s.forceAll).params = s.params ∧ (∀ q, (s.forceAll).rating q = s.rating q) := by
  unfold State.forceAll; generalize allModules = l
  induction l generalizing s with
  | nil => simp
  | cons a l ih => simp [ih]

/-- What `moduleFreed` leaves alone. -/
@[simp] theorem moduleFreed_frame (s : State) (m : ModuleNo) :
    (s.moduleFreed m).pending = s.pending ∧ (s.moduleFreed m).now = s.now ∧ (s.moduleFreed m).slots = s.slots ∧
    (s.moduleFreed m).nextSession = s.nextSession ∧ (s.moduleFreed m).exhausted = s.exhausted ∧
    (s.moduleFreed m).tariffs = s.tariffs ∧ (s.moduleFreed m).settlements = s.settlements ∧ (s.moduleFreed m).alloc = s.alloc ∧
    (s.moduleFreed m).prot = s.prot ∧ (s.moduleFreed m).field = s.field ∧ (s.moduleFreed m).host = s.host ∧
    (s.moduleFreed m).notices = s.notices ∧ (s.moduleFreed m).clock = s.clock ∧ (s.moduleFreed m).control = s.control ∧
    (∀ q, (s.moduleFreed m).slot q = s.slot q) ∧ (∀ q, (s.moduleFreed m).link q = s.link q) ∧
    (∀ q, (s.moduleFreed m).allot q = s.allot q) ∧ (∀ n, (s.moduleFreed m).tariff n = s.tariff n) ∧
    (s.moduleFreed m).params = s.params ∧ (∀ q, (s.moduleFreed m).rating q = s.rating q) := by
  unfold State.moduleFreed; try simp only []
  (repeat' split) <;> first | (simp; done) | simp [State.slot, State.link, State.allot, State.module, State.tariff, State.params, State.rating]

/-- What `moduleClosed` leaves alone. -/
@[simp] theorem moduleClosed_frame (s : State) (m : ModuleNo) :
    (s.moduleClosed m).pending = s.pending ∧ (s.moduleClosed m).now = s.now ∧ (s.moduleClosed m).slots = s.slots ∧
    (s.moduleClosed m).nextSession = s.nextSession ∧ (s.moduleClosed m).exhausted = s.exhausted ∧
    (s.moduleClosed m).tariffs = s.tariffs ∧ (s.moduleClosed m).settlements = s.settlements ∧
    (s.moduleClosed m).alloc.pAv = s.alloc.pAv ∧ (s.moduleClosed m).alloc.budget = s.alloc.budget ∧
    (s.moduleClosed m).alloc.gridCap = s.alloc.gridCap ∧ (s.moduleClosed m).alloc.stagedGridCap = s.alloc.stagedGridCap ∧
    (s.moduleClosed m).alloc.pointer = s.alloc.pointer ∧ (s.moduleClosed m).alloc.periodTimer = s.alloc.periodTimer ∧
    (s.moduleClosed m).prot = s.prot ∧ (s.moduleClosed m).field.can = s.field.can ∧
    (s.moduleClosed m).field.buffer = s.field.buffer ∧ (s.moduleClosed m).field.links = s.field.links ∧
    (s.moduleClosed m).field.fieldTx = s.field.fieldTx ∧ (s.moduleClosed m).host = s.host ∧
    (s.moduleClosed m).notices = s.notices ∧ (s.moduleClosed m).clock = s.clock ∧ (s.moduleClosed m).control = s.control ∧
    (∀ q, (s.moduleClosed m).slot q = s.slot q) ∧ (∀ q, (s.moduleClosed m).link q = s.link q) ∧
    (∀ n, (s.moduleClosed m).tariff n = s.tariff n) ∧
    (s.moduleClosed m).params = s.params ∧ (∀ q, (s.moduleClosed m).rating q = s.rating q) := by unfold State.moduleClosed; simp only []; (repeat' split) <;> first | (simp; done) | simp [State.slot, State.link,
    State.allot, State.module, State.tariff, State.params, State.rating]

/-- What `returnModule` leaves alone. -/
@[simp] theorem returnModule_frame (s : State) (m : ModuleNo) :
    (s.returnModule m).pending = s.pending ∧ (s.returnModule m).now = s.now ∧ (s.returnModule m).slots = s.slots ∧
    (s.returnModule m).nextSession = s.nextSession ∧ (s.returnModule m).exhausted = s.exhausted ∧
    (s.returnModule m).tariffs = s.tariffs ∧ (s.returnModule m).settlements = s.settlements ∧
    (s.returnModule m).alloc = s.alloc ∧ (s.returnModule m).prot = s.prot ∧ (s.returnModule m).field.can = s.field.can ∧
    (s.returnModule m).field.buffer = s.field.buffer ∧ (s.returnModule m).field.links = s.field.links ∧
    (s.returnModule m).field.fieldTx = s.field.fieldTx ∧ (s.returnModule m).host = s.host ∧
    (s.returnModule m).notices = s.notices ∧ (s.returnModule m).clock = s.clock ∧ (s.returnModule m).control = s.control ∧
    (∀ q, (s.returnModule m).slot q = s.slot q) ∧ (∀ q, (s.returnModule m).link q = s.link q) ∧
    (∀ q, (s.returnModule m).allot q = s.allot q) ∧ (∀ n, (s.returnModule m).tariff n = s.tariff n) ∧
    (s.returnModule m).params = s.params ∧ (∀ q, (s.returnModule m).rating q = s.rating q) := by simp [State.returnModule]

/-- What `mapAllot` leaves alone. -/
@[simp] theorem mapAllot_frame (s : State) (f : Pedestal → Allotment → Allotment) :
    (s.mapAllot f).pending = s.pending ∧ (s.mapAllot f).now = s.now ∧ (s.mapAllot f).slots = s.slots ∧
    (s.mapAllot f).nextSession = s.nextSession ∧ (s.mapAllot f).exhausted = s.exhausted ∧ (s.mapAllot f).tariffs = s.tariffs ∧
    (s.mapAllot f).settlements = s.settlements ∧ (s.mapAllot f).alloc.pAv = s.alloc.pAv ∧
    (s.mapAllot f).alloc.budget = s.alloc.budget ∧ (s.mapAllot f).alloc.gridCap = s.alloc.gridCap ∧
    (s.mapAllot f).alloc.stagedGridCap = s.alloc.stagedGridCap ∧ (s.mapAllot f).alloc.pointer = s.alloc.pointer ∧
    (s.mapAllot f).alloc.periodTimer = s.alloc.periodTimer ∧ (s.mapAllot f).modules = s.modules ∧
    (s.mapAllot f).prot = s.prot ∧ (s.mapAllot f).field = s.field ∧ (s.mapAllot f).host = s.host ∧
    (s.mapAllot f).notices = s.notices ∧ (s.mapAllot f).clock = s.clock ∧ (s.mapAllot f).control = s.control ∧
    (∀ q, (s.mapAllot f).slot q = s.slot q) ∧ (∀ q, (s.mapAllot f).link q = s.link q) ∧
    (∀ m, (s.mapAllot f).module m = s.module m) ∧ (∀ n, (s.mapAllot f).tariff n = s.tariff n) ∧
    (s.mapAllot f).params = s.params ∧ (∀ q, (s.mapAllot f).rating q = s.rating q) := by simp [State.mapAllot, State.slot, State.link, State.module, State.tariff, State.params, State.rating]

/-- What `passStaging` leaves alone. -/
@[simp] theorem passStaging_frame (s : State) :
    (s.passStaging).pending = s.pending ∧ (s.passStaging).now = s.now ∧ (s.passStaging).slots = s.slots ∧
    (s.passStaging).nextSession = s.nextSession ∧ (s.passStaging).exhausted = s.exhausted ∧
    (s.passStaging).tariffs = s.tariffs ∧ (s.passStaging).settlements = s.settlements ∧
    (s.passStaging).alloc.pAv = s.alloc.pAv ∧ (s.passStaging).alloc.budget = s.alloc.budget ∧
    (s.passStaging).alloc.pointer = s.alloc.pointer ∧ (s.passStaging).alloc.periodTimer = s.alloc.periodTimer ∧
    (s.passStaging).modules = s.modules ∧ (s.passStaging).prot = s.prot ∧ (s.passStaging).field = s.field ∧
    (s.passStaging).host = s.host ∧ (s.passStaging).notices = s.notices ∧ (s.passStaging).clock = s.clock ∧
    (s.passStaging).control = s.control ∧ (∀ q, (s.passStaging).slot q = s.slot q) ∧ (∀ q, (s.passStaging).link q = s.link q) ∧
    (∀ m, (s.passStaging).module m = s.module m) ∧ (∀ n, (s.passStaging).tariff n = s.tariff n) ∧
    (s.passStaging).params = s.params ∧ (∀ q, (s.passStaging).rating q = s.rating q) := by simp [State.passStaging, State.slot, State.link, State.module, State.tariff, State.params, State.rating]

/-- What `passBudget` leaves alone. -/
@[simp] theorem passBudget_frame (s : State) :
    (s.passBudget).pending = s.pending ∧ (s.passBudget).now = s.now ∧ (s.passBudget).slots = s.slots ∧
    (s.passBudget).nextSession = s.nextSession ∧ (s.passBudget).exhausted = s.exhausted ∧ (s.passBudget).tariffs = s.tariffs ∧
    (s.passBudget).settlements = s.settlements ∧ (s.passBudget).alloc.gridCap = s.alloc.gridCap ∧
    (s.passBudget).alloc.stagedGridCap = s.alloc.stagedGridCap ∧ (s.passBudget).alloc.pointer = s.alloc.pointer ∧
    (s.passBudget).alloc.periodTimer = s.alloc.periodTimer ∧ (s.passBudget).alloc.entries = s.alloc.entries ∧
    (s.passBudget).modules = s.modules ∧ (s.passBudget).prot = s.prot ∧ (s.passBudget).field = s.field ∧
    (s.passBudget).host = s.host ∧ (s.passBudget).notices = s.notices ∧ (s.passBudget).clock = s.clock ∧
    (s.passBudget).control = s.control ∧ (∀ q, (s.passBudget).slot q = s.slot q) ∧ (∀ q, (s.passBudget).link q = s.link q) ∧
    (∀ q, (s.passBudget).allot q = s.allot q) ∧ (∀ m, (s.passBudget).module m = s.module m) ∧
    (∀ n, (s.passBudget).tariff n = s.tariff n) ∧
    (s.passBudget).params = s.params ∧ (∀ q, (s.passBudget).rating q = s.rating q) := by
  unfold State.passBudget; try simp only []
  (repeat' split) <;> first | (simp; done) | simp [State.slot, State.link, State.allot, State.module, State.tariff, State.params, State.rating]

/-- What `passDemand` leaves alone. -/
@[simp] theorem passDemand_frame (s : State) :
    (s.passDemand).pending = s.pending ∧ (s.passDemand).now = s.now ∧ (s.passDemand).slots = s.slots ∧
    (s.passDemand).nextSession = s.nextSession ∧ (s.passDemand).exhausted = s.exhausted ∧ (s.passDemand).tariffs = s.tariffs ∧
    (s.passDemand).settlements = s.settlements ∧ (s.passDemand).alloc.pAv = s.alloc.pAv ∧
    (s.passDemand).alloc.budget = s.alloc.budget ∧ (s.passDemand).alloc.gridCap = s.alloc.gridCap ∧
    (s.passDemand).alloc.stagedGridCap = s.alloc.stagedGridCap ∧ (s.passDemand).alloc.pointer = s.alloc.pointer ∧
    (s.passDemand).alloc.periodTimer = s.alloc.periodTimer ∧ (s.passDemand).modules = s.modules ∧
    (s.passDemand).prot = s.prot ∧ (s.passDemand).field = s.field ∧ (s.passDemand).host = s.host ∧
    (s.passDemand).notices = s.notices ∧ (s.passDemand).clock = s.clock ∧ (s.passDemand).control = s.control ∧
    (∀ q, (s.passDemand).slot q = s.slot q) ∧ (∀ q, (s.passDemand).link q = s.link q) ∧
    (∀ m, (s.passDemand).module m = s.module m) ∧ (∀ n, (s.passDemand).tariff n = s.tariff n) ∧
    (s.passDemand).params = s.params ∧ (∀ q, (s.passDemand).rating q = s.rating q) := by
  unfold State.passDemand; try simp only []
  (repeat' split) <;> first | (simp; done) | simp [State.slot, State.link, State.allot, State.module, State.tariff, State.params, State.rating]

/-- What `passGrants` leaves alone. -/
@[simp] theorem passGrants_frame (s : State) :
    (s.passGrants).pending = s.pending ∧ (s.passGrants).now = s.now ∧ (s.passGrants).slots = s.slots ∧
    (s.passGrants).nextSession = s.nextSession ∧ (s.passGrants).exhausted = s.exhausted ∧ (s.passGrants).tariffs = s.tariffs ∧
    (s.passGrants).settlements = s.settlements ∧ (s.passGrants).alloc.pAv = s.alloc.pAv ∧
    (s.passGrants).alloc.budget = s.alloc.budget ∧ (s.passGrants).alloc.gridCap = s.alloc.gridCap ∧
    (s.passGrants).alloc.stagedGridCap = s.alloc.stagedGridCap ∧ (s.passGrants).alloc.periodTimer = s.alloc.periodTimer ∧
    (s.passGrants).modules = s.modules ∧ (s.passGrants).prot = s.prot ∧ (s.passGrants).field = s.field ∧
    (s.passGrants).host = s.host ∧ (s.passGrants).notices = s.notices ∧ (s.passGrants).clock = s.clock ∧
    (s.passGrants).control = s.control ∧ (∀ q, (s.passGrants).slot q = s.slot q) ∧ (∀ q, (s.passGrants).link q = s.link q) ∧
    (∀ m, (s.passGrants).module m = s.module m) ∧ (∀ n, (s.passGrants).tariff n = s.tariff n) ∧
    (s.passGrants).params = s.params ∧ (∀ q, (s.passGrants).rating q = s.rating q) := by simp [State.passGrants, State.slot, State.link, State.module, State.tariff, State.params, State.rating]

/-- What `releaseBeyond` leaves alone. -/
@[simp] theorem releaseBeyond_frame (s : State) (p : Pedestal) (keep : Nat) :
    (s.releaseBeyond p keep).pending = s.pending ∧ (s.releaseBeyond p keep).now = s.now ∧
    (s.releaseBeyond p keep).slots = s.slots ∧ (s.releaseBeyond p keep).nextSession = s.nextSession ∧
    (s.releaseBeyond p keep).exhausted = s.exhausted ∧ (s.releaseBeyond p keep).tariffs = s.tariffs ∧
    (s.releaseBeyond p keep).settlements = s.settlements ∧ (s.releaseBeyond p keep).alloc.pAv = s.alloc.pAv ∧
    (s.releaseBeyond p keep).alloc.budget = s.alloc.budget ∧ (s.releaseBeyond p keep).alloc.gridCap = s.alloc.gridCap ∧
    (s.releaseBeyond p keep).alloc.stagedGridCap = s.alloc.stagedGridCap ∧
    (s.releaseBeyond p keep).alloc.pointer = s.alloc.pointer ∧
    (s.releaseBeyond p keep).alloc.periodTimer = s.alloc.periodTimer ∧ (s.releaseBeyond p keep).prot = s.prot ∧
    (s.releaseBeyond p keep).field.can = s.field.can ∧ (s.releaseBeyond p keep).field.buffer = s.field.buffer ∧
    (s.releaseBeyond p keep).field.links = s.field.links ∧ (s.releaseBeyond p keep).field.fieldTx = s.field.fieldTx ∧
    (s.releaseBeyond p keep).host = s.host ∧ (s.releaseBeyond p keep).notices = s.notices ∧
    (s.releaseBeyond p keep).clock = s.clock ∧ (s.releaseBeyond p keep).control = s.control ∧
    (∀ q, (s.releaseBeyond p keep).slot q = s.slot q) ∧ (∀ q, (s.releaseBeyond p keep).link q = s.link q) ∧
    (∀ n, (s.releaseBeyond p keep).tariff n = s.tariff n) ∧
    (s.releaseBeyond p keep).params = s.params ∧ (∀ q, (s.releaseBeyond p keep).rating q = s.rating q) := by
  unfold State.releaseBeyond
  have early : ∀ (l : List ModuleNo) (s : State), (l.foldl State.releaseModule s).pending = s.pending ∧ (l.foldl State.releaseModule s).now = s.now ∧ (l.foldl State.releaseModule s).slots = s.slots ∧ (l.foldl State.releaseModule s).nextSession = s.nextSession ∧ (l.foldl State.releaseModule s).exhausted = s.exhausted ∧ (l.foldl State.releaseModule s).tariffs = s.tariffs ∧ (l.foldl State.releaseModule s).settlements = s.settlements ∧ (l.foldl State.releaseModule s).alloc = s.alloc ∧ (l.foldl State.releaseModule s).prot = s.prot ∧ (l.foldl State.releaseModule s).field.can = s.field.can ∧ (l.foldl State.releaseModule s).field.buffer = s.field.buffer ∧ (l.foldl State.releaseModule s).field.links = s.field.links ∧ (l.foldl State.releaseModule s).field.fieldTx = s.field.fieldTx ∧ (l.foldl State.releaseModule s).host = s.host ∧ (l.foldl State.releaseModule s).notices = s.notices ∧ (l.foldl State.releaseModule s).clock = s.clock ∧ (l.foldl State.releaseModule s).control = s.control ∧ (∀ q, (l.foldl State.releaseModule s).slot q = s.slot q) ∧ (∀ q, (l.foldl State.releaseModule s).link q = s.link q) ∧ (∀ q, (l.foldl State.releaseModule s).allot q = s.allot q) ∧ (∀ n, (l.foldl State.releaseModule s).tariff n = s.tariff n) ∧ (l.foldl State.releaseModule s).params = s.params ∧ (∀ q, (l.foldl State.releaseModule s).rating q = s.rating q) := by
    intro l; induction l with
    | nil => simp
    | cons a l ih => simp [ih]
  simp only []
  split <;> simp [early]

/-- What `releaseExcess` leaves alone. -/
@[simp] theorem releaseExcess_frame (s : State) :
    (s.releaseExcess).pending = s.pending ∧ (s.releaseExcess).now = s.now ∧ (s.releaseExcess).slots = s.slots ∧
    (s.releaseExcess).nextSession = s.nextSession ∧ (s.releaseExcess).exhausted = s.exhausted ∧
    (s.releaseExcess).tariffs = s.tariffs ∧ (s.releaseExcess).settlements = s.settlements ∧
    (s.releaseExcess).alloc.pAv = s.alloc.pAv ∧ (s.releaseExcess).alloc.budget = s.alloc.budget ∧
    (s.releaseExcess).alloc.gridCap = s.alloc.gridCap ∧ (s.releaseExcess).alloc.stagedGridCap = s.alloc.stagedGridCap ∧
    (s.releaseExcess).alloc.pointer = s.alloc.pointer ∧ (s.releaseExcess).alloc.periodTimer = s.alloc.periodTimer ∧
    (s.releaseExcess).prot = s.prot ∧ (s.releaseExcess).field.can = s.field.can ∧
    (s.releaseExcess).field.buffer = s.field.buffer ∧ (s.releaseExcess).field.links = s.field.links ∧
    (s.releaseExcess).field.fieldTx = s.field.fieldTx ∧ (s.releaseExcess).host = s.host ∧
    (s.releaseExcess).notices = s.notices ∧ (s.releaseExcess).clock = s.clock ∧ (s.releaseExcess).control = s.control ∧
    (∀ q, (s.releaseExcess).slot q = s.slot q) ∧ (∀ q, (s.releaseExcess).link q = s.link q) ∧
    (∀ n, (s.releaseExcess).tariff n = s.tariff n) ∧
    (s.releaseExcess).params = s.params ∧ (∀ q, (s.releaseExcess).rating q = s.rating q) := by
  unfold State.releaseExcess; generalize allPedestals = l
  induction l generalizing s with
  | nil => simp
  | cons a l ih => simp [ih]

/-- What `assignFor` leaves alone. -/
@[simp] theorem assignFor_frame (s : State) (p : Pedestal) :
    (s.assignFor p).pending = s.pending ∧ (s.assignFor p).now = s.now ∧ (s.assignFor p).slots = s.slots ∧
    (s.assignFor p).nextSession = s.nextSession ∧ (s.assignFor p).exhausted = s.exhausted ∧
    (s.assignFor p).tariffs = s.tariffs ∧ (s.assignFor p).settlements = s.settlements ∧ (s.assignFor p).alloc = s.alloc ∧
    (s.assignFor p).prot = s.prot ∧ (s.assignFor p).field.can = s.field.can ∧ (s.assignFor p).field.buffer = s.field.buffer ∧
    (s.assignFor p).field.links = s.field.links ∧ (s.assignFor p).field.fieldTx = s.field.fieldTx ∧
    (s.assignFor p).host = s.host ∧ (s.assignFor p).notices = s.notices ∧ (s.assignFor p).clock = s.clock ∧
    (s.assignFor p).control = s.control ∧ (∀ q, (s.assignFor p).slot q = s.slot q) ∧ (∀ q, (s.assignFor p).link q = s.link q) ∧
    (∀ q, (s.assignFor p).allot q = s.allot q) ∧ (∀ n, (s.assignFor p).tariff n = s.tariff n) ∧
    (s.assignFor p).params = s.params ∧ (∀ q, (s.assignFor p).rating q = s.rating q) := by
  unfold State.assignFor; generalize allModules = l
  induction l generalizing s with
  | nil => simp
  | cons a l ih => simp only [List.foldl_cons]; split <;> simp [ih]

/-- What `passAssign` leaves alone. -/
@[simp] theorem passAssign_frame (s : State) :
    (s.passAssign).pending = s.pending ∧ (s.passAssign).now = s.now ∧ (s.passAssign).slots = s.slots ∧
    (s.passAssign).nextSession = s.nextSession ∧ (s.passAssign).exhausted = s.exhausted ∧ (s.passAssign).tariffs = s.tariffs ∧
    (s.passAssign).settlements = s.settlements ∧ (s.passAssign).alloc = s.alloc ∧ (s.passAssign).prot = s.prot ∧
    (s.passAssign).field.can = s.field.can ∧ (s.passAssign).field.buffer = s.field.buffer ∧
    (s.passAssign).field.links = s.field.links ∧ (s.passAssign).field.fieldTx = s.field.fieldTx ∧
    (s.passAssign).host = s.host ∧ (s.passAssign).notices = s.notices ∧ (s.passAssign).clock = s.clock ∧
    (s.passAssign).control = s.control ∧ (∀ q, (s.passAssign).slot q = s.slot q) ∧ (∀ q, (s.passAssign).link q = s.link q) ∧
    (∀ q, (s.passAssign).allot q = s.allot q) ∧ (∀ n, (s.passAssign).tariff n = s.tariff n) ∧
    (s.passAssign).params = s.params ∧ (∀ q, (s.passAssign).rating q = s.rating q) := by
  unfold State.passAssign; generalize s.runningBySession = l
  induction l generalizing s with
  | nil => simp
  | cons a l ih => simp [ih]

/-- What `passSetpoints` leaves alone. -/
@[simp] theorem passSetpoints_frame (s : State) :
    (s.passSetpoints).pending = s.pending ∧ (s.passSetpoints).now = s.now ∧ (s.passSetpoints).slots = s.slots ∧
    (s.passSetpoints).nextSession = s.nextSession ∧ (s.passSetpoints).exhausted = s.exhausted ∧
    (s.passSetpoints).tariffs = s.tariffs ∧ (s.passSetpoints).settlements = s.settlements ∧
    (s.passSetpoints).alloc.pAv = s.alloc.pAv ∧ (s.passSetpoints).alloc.budget = s.alloc.budget ∧
    (s.passSetpoints).alloc.gridCap = s.alloc.gridCap ∧ (s.passSetpoints).alloc.stagedGridCap = s.alloc.stagedGridCap ∧
    (s.passSetpoints).alloc.pointer = s.alloc.pointer ∧ (s.passSetpoints).alloc.periodTimer = s.alloc.periodTimer ∧
    (s.passSetpoints).modules = s.modules ∧ (s.passSetpoints).prot = s.prot ∧ (s.passSetpoints).field.can = s.field.can ∧
    (s.passSetpoints).field.buffer = s.field.buffer ∧ (s.passSetpoints).field.links = s.field.links ∧
    (s.passSetpoints).field.fieldTx = s.field.fieldTx ∧ (s.passSetpoints).host = s.host ∧
    (s.passSetpoints).notices = s.notices ∧ (s.passSetpoints).clock = s.clock ∧ (s.passSetpoints).control = s.control ∧
    (∀ q, (s.passSetpoints).slot q = s.slot q) ∧ (∀ q, (s.passSetpoints).link q = s.link q) ∧
    (∀ m, (s.passSetpoints).module m = s.module m) ∧ (∀ n, (s.passSetpoints).tariff n = s.tariff n) ∧
    (s.passSetpoints).params = s.params ∧ (∀ q, (s.passSetpoints).rating q = s.rating q) := by
  unfold State.passSetpoints; generalize allPedestals = l
  induction l generalizing s with
  | nil => simp
  | cons a l ih => simp [ih]

/-- What `regularPass` leaves alone. -/
@[simp] theorem regularPass_frame (s : State) :
    (s.regularPass).pending = s.pending ∧ (s.regularPass).now = s.now ∧ (s.regularPass).slots = s.slots ∧
    (s.regularPass).nextSession = s.nextSession ∧ (s.regularPass).exhausted = s.exhausted ∧
    (s.regularPass).tariffs = s.tariffs ∧ (s.regularPass).settlements = s.settlements ∧
    (s.regularPass).alloc.periodTimer = s.alloc.periodTimer ∧ (s.regularPass).prot = s.prot ∧
    (s.regularPass).field.can = s.field.can ∧ (s.regularPass).field.buffer = s.field.buffer ∧
    (s.regularPass).field.links = s.field.links ∧ (s.regularPass).field.fieldTx = s.field.fieldTx ∧
    (s.regularPass).host = s.host ∧ (s.regularPass).notices = s.notices ∧ (s.regularPass).clock = s.clock ∧
    (s.regularPass).control = s.control ∧ (∀ q, (s.regularPass).slot q = s.slot q) ∧ (∀ q, (s.regularPass).link q = s.link q) ∧
    (∀ n, (s.regularPass).tariff n = s.tariff n) ∧
    (s.regularPass).params = s.params ∧ (∀ q, (s.regularPass).rating q = s.rating q) := by simp [State.regularPass]

/-- What `reduceGrants` leaves alone. -/
@[simp] theorem reduceGrants_frame (s : State) :
    (s.reduceGrants).pending = s.pending ∧ (s.reduceGrants).now = s.now ∧ (s.reduceGrants).slots = s.slots ∧
    (s.reduceGrants).nextSession = s.nextSession ∧ (s.reduceGrants).exhausted = s.exhausted ∧
    (s.reduceGrants).tariffs = s.tariffs ∧ (s.reduceGrants).settlements = s.settlements ∧
    (s.reduceGrants).alloc.pAv = s.alloc.pAv ∧ (s.reduceGrants).alloc.budget = s.alloc.budget ∧
    (s.reduceGrants).alloc.gridCap = s.alloc.gridCap ∧ (s.reduceGrants).alloc.stagedGridCap = s.alloc.stagedGridCap ∧
    (s.reduceGrants).alloc.pointer = s.alloc.pointer ∧ (s.reduceGrants).alloc.periodTimer = s.alloc.periodTimer ∧
    (s.reduceGrants).modules = s.modules ∧ (s.reduceGrants).prot = s.prot ∧ (s.reduceGrants).field = s.field ∧
    (s.reduceGrants).host = s.host ∧ (s.reduceGrants).notices = s.notices ∧ (s.reduceGrants).clock = s.clock ∧
    (s.reduceGrants).control = s.control ∧ (∀ q, (s.reduceGrants).slot q = s.slot q) ∧
    (∀ q, (s.reduceGrants).link q = s.link q) ∧ (∀ m, (s.reduceGrants).module m = s.module m) ∧
    (∀ n, (s.reduceGrants).tariff n = s.tariff n) ∧
    (s.reduceGrants).params = s.params ∧ (∀ q, (s.reduceGrants).rating q = s.rating q) := by simp [State.reduceGrants]

/-- What `reduceSetpoints` leaves alone. -/
@[simp] theorem reduceSetpoints_frame (s : State) :
    (s.reduceSetpoints).pending = s.pending ∧ (s.reduceSetpoints).now = s.now ∧ (s.reduceSetpoints).slots = s.slots ∧
    (s.reduceSetpoints).nextSession = s.nextSession ∧ (s.reduceSetpoints).exhausted = s.exhausted ∧
    (s.reduceSetpoints).tariffs = s.tariffs ∧ (s.reduceSetpoints).settlements = s.settlements ∧
    (s.reduceSetpoints).alloc.pAv = s.alloc.pAv ∧ (s.reduceSetpoints).alloc.budget = s.alloc.budget ∧
    (s.reduceSetpoints).alloc.gridCap = s.alloc.gridCap ∧ (s.reduceSetpoints).alloc.stagedGridCap = s.alloc.stagedGridCap ∧
    (s.reduceSetpoints).alloc.pointer = s.alloc.pointer ∧ (s.reduceSetpoints).alloc.periodTimer = s.alloc.periodTimer ∧
    (s.reduceSetpoints).modules = s.modules ∧ (s.reduceSetpoints).prot = s.prot ∧ (s.reduceSetpoints).field.can = s.field.can ∧
    (s.reduceSetpoints).field.buffer = s.field.buffer ∧ (s.reduceSetpoints).field.links = s.field.links ∧
    (s.reduceSetpoints).field.fieldTx = s.field.fieldTx ∧ (s.reduceSetpoints).host = s.host ∧
    (s.reduceSetpoints).notices = s.notices ∧ (s.reduceSetpoints).clock = s.clock ∧ (s.reduceSetpoints).control = s.control ∧
    (∀ q, (s.reduceSetpoints).slot q = s.slot q) ∧ (∀ q, (s.reduceSetpoints).link q = s.link q) ∧
    (∀ m, (s.reduceSetpoints).module m = s.module m) ∧ (∀ n, (s.reduceSetpoints).tariff n = s.tariff n) ∧
    (s.reduceSetpoints).params = s.params ∧ (∀ q, (s.reduceSetpoints).rating q = s.rating q) := by
  unfold State.reduceSetpoints; generalize allPedestals = l
  induction l generalizing s with
  | nil => simp
  | cons a l ih => simp [ih]

/-- What `reductionPass` leaves alone. -/
@[simp] theorem reductionPass_frame (s : State) :
    (s.reductionPass).pending = s.pending ∧ (s.reductionPass).now = s.now ∧ (s.reductionPass).slots = s.slots ∧
    (s.reductionPass).nextSession = s.nextSession ∧ (s.reductionPass).exhausted = s.exhausted ∧
    (s.reductionPass).tariffs = s.tariffs ∧ (s.reductionPass).settlements = s.settlements ∧
    (s.reductionPass).alloc.pAv = s.alloc.pAv ∧ (s.reductionPass).alloc.budget = s.alloc.budget ∧
    (s.reductionPass).alloc.gridCap = s.alloc.gridCap ∧ (s.reductionPass).alloc.stagedGridCap = s.alloc.stagedGridCap ∧
    (s.reductionPass).alloc.pointer = s.alloc.pointer ∧ (s.reductionPass).alloc.periodTimer = s.alloc.periodTimer ∧
    (s.reductionPass).prot = s.prot ∧ (s.reductionPass).field.can = s.field.can ∧
    (s.reductionPass).field.buffer = s.field.buffer ∧ (s.reductionPass).field.links = s.field.links ∧
    (s.reductionPass).field.fieldTx = s.field.fieldTx ∧ (s.reductionPass).host = s.host ∧
    (s.reductionPass).notices = s.notices ∧ (s.reductionPass).clock = s.clock ∧ (s.reductionPass).control = s.control ∧
    (∀ q, (s.reductionPass).slot q = s.slot q) ∧ (∀ q, (s.reductionPass).link q = s.link q) ∧
    (∀ n, (s.reductionPass).tariff n = s.tariff n) ∧
    (s.reductionPass).params = s.params ∧ (∀ q, (s.reductionPass).rating q = s.rating q) := by simp [State.reductionPass]

/-- What `considerReduction` leaves alone. -/
@[simp] theorem considerReduction_frame (s : State) :
    (s.considerReduction).pending = s.pending ∧ (s.considerReduction).now = s.now ∧ (s.considerReduction).slots = s.slots ∧
    (s.considerReduction).nextSession = s.nextSession ∧ (s.considerReduction).exhausted = s.exhausted ∧
    (s.considerReduction).tariffs = s.tariffs ∧ (s.considerReduction).settlements = s.settlements ∧
    (s.considerReduction).alloc.gridCap = s.alloc.gridCap ∧ (s.considerReduction).alloc.stagedGridCap = s.alloc.stagedGridCap ∧
    (s.considerReduction).alloc.pointer = s.alloc.pointer ∧ (s.considerReduction).alloc.periodTimer = s.alloc.periodTimer ∧
    (s.considerReduction).prot = s.prot ∧ (s.considerReduction).field.can = s.field.can ∧
    (s.considerReduction).field.buffer = s.field.buffer ∧ (s.considerReduction).field.links = s.field.links ∧
    (s.considerReduction).field.fieldTx = s.field.fieldTx ∧ (s.considerReduction).host = s.host ∧
    (s.considerReduction).notices = s.notices ∧ (s.considerReduction).clock = s.clock ∧
    (s.considerReduction).control = s.control ∧ (∀ q, (s.considerReduction).slot q = s.slot q) ∧
    (∀ q, (s.considerReduction).link q = s.link q) ∧ (∀ n, (s.considerReduction).tariff n = s.tariff n) ∧
    (s.considerReduction).params = s.params ∧ (∀ q, (s.considerReduction).rating q = s.rating q) := by
  unfold State.considerReduction; try simp only []
  (repeat' split) <;> first | (simp; done) | simp [State.slot, State.link, State.allot, State.module, State.tariff, State.params, State.rating]

/-- What `leaveRunning` leaves alone. -/
@[simp] theorem leaveRunning_frame (s : State) (p : Pedestal) :
    (s.leaveRunning p).pending = s.pending ∧ (s.leaveRunning p).now = s.now ∧ (s.leaveRunning p).slots = s.slots ∧
    (s.leaveRunning p).nextSession = s.nextSession ∧ (s.leaveRunning p).exhausted = s.exhausted ∧
    (s.leaveRunning p).tariffs = s.tariffs ∧ (s.leaveRunning p).settlements = s.settlements ∧
    (s.leaveRunning p).alloc.pAv = s.alloc.pAv ∧ (s.leaveRunning p).alloc.budget = s.alloc.budget ∧
    (s.leaveRunning p).alloc.gridCap = s.alloc.gridCap ∧ (s.leaveRunning p).alloc.stagedGridCap = s.alloc.stagedGridCap ∧
    (s.leaveRunning p).alloc.pointer = s.alloc.pointer ∧ (s.leaveRunning p).alloc.periodTimer = s.alloc.periodTimer ∧
    (s.leaveRunning p).prot = s.prot ∧ (s.leaveRunning p).field.can = s.field.can ∧
    (s.leaveRunning p).field.buffer = s.field.buffer ∧ (s.leaveRunning p).field.links = s.field.links ∧
    (s.leaveRunning p).field.fieldTx = s.field.fieldTx ∧ (s.leaveRunning p).host = s.host ∧
    (s.leaveRunning p).notices = s.notices ∧ (s.leaveRunning p).clock = s.clock ∧ (s.leaveRunning p).control = s.control ∧
    (∀ q, (s.leaveRunning p).slot q = s.slot q) ∧ (∀ q, (s.leaveRunning p).link q = s.link q) ∧
    (∀ n, (s.leaveRunning p).tariff n = s.tariff n) ∧
    (s.leaveRunning p).params = s.params ∧ (∀ q, (s.leaveRunning p).rating q = s.rating q) := by unfold State.leaveRunning; simp only []; split <;> simp [State.placeOrder]

/-- What `setReferences` leaves alone. -/
@[simp] theorem setReferences_frame (s : State) (n : TariffNo) (f : Nat → Nat) :
    (s.setReferences n f).pending = s.pending ∧ (s.setReferences n f).now = s.now ∧ (s.setReferences n f).slots = s.slots ∧
    (s.setReferences n f).nextSession = s.nextSession ∧ (s.setReferences n f).exhausted = s.exhausted ∧
    (s.setReferences n f).settlements = s.settlements ∧ (s.setReferences n f).alloc = s.alloc ∧
    (s.setReferences n f).modules = s.modules ∧ (s.setReferences n f).prot = s.prot ∧ (s.setReferences n f).field = s.field ∧
    (s.setReferences n f).host = s.host ∧ (s.setReferences n f).notices = s.notices ∧ (s.setReferences n f).clock = s.clock ∧
    (s.setReferences n f).control = s.control ∧ (∀ q, (s.setReferences n f).slot q = s.slot q) ∧
    (∀ q, (s.setReferences n f).link q = s.link q) ∧ (∀ q, (s.setReferences n f).allot q = s.allot q) ∧
    (∀ m, (s.setReferences n f).module m = s.module m) ∧
    (s.setReferences n f).params = s.params ∧ (∀ q, (s.setReferences n f).rating q = s.rating q) := by
  unfold State.setReferences; try simp only []
  (repeat' split) <;> first | (simp; done) | simp [State.slot, State.link, State.allot, State.module, State.tariff, State.params, State.rating]

/-- What `appendSettlement` leaves alone. -/
@[simp] theorem appendSettlement_frame (s : State) (r : Settlement) :
    (s.appendSettlement r).pending = s.pending ∧ (s.appendSettlement r).now = s.now ∧ (s.appendSettlement r).slots = s.slots ∧
    (s.appendSettlement r).nextSession = s.nextSession ∧ (s.appendSettlement r).exhausted = s.exhausted ∧
    (s.appendSettlement r).tariffs = s.tariffs ∧ (s.appendSettlement r).alloc = s.alloc ∧
    (s.appendSettlement r).modules = s.modules ∧ (s.appendSettlement r).prot = s.prot ∧
    (s.appendSettlement r).field = s.field ∧ (s.appendSettlement r).host.receiver = s.host.receiver ∧
    (s.appendSettlement r).host.requests = s.host.requests ∧ (s.appendSettlement r).host.restartAfter = s.host.restartAfter ∧
    (s.appendSettlement r).host.hostTx = s.host.hostTx ∧ (s.appendSettlement r).clock = s.clock ∧
    (s.appendSettlement r).control = s.control ∧ (∀ q, (s.appendSettlement r).slot q = s.slot q) ∧
    (∀ q, (s.appendSettlement r).link q = s.link q) ∧ (∀ q, (s.appendSettlement r).allot q = s.allot q) ∧
    (∀ m, (s.appendSettlement r).module m = s.module m) ∧ (∀ n, (s.appendSettlement r).tariff n = s.tariff n) ∧
    (s.appendSettlement r).params = s.params ∧ (∀ q, (s.appendSettlement r).rating q = s.rating q) := by
  unfold State.appendSettlement; try simp only []
  (repeat' split) <;> first | (simp; done) | simp [State.slot, State.link, State.allot, State.module, State.tariff, State.params, State.rating]

/-- What `addReason` leaves alone. -/
@[simp] theorem addReason_frame (s : State) (p : Pedestal) (r : Reason) :
    (s.addReason p r).pending = s.pending ∧ (s.addReason p r).now = s.now ∧ (s.addReason p r).nextSession = s.nextSession ∧
    (s.addReason p r).exhausted = s.exhausted ∧ (s.addReason p r).tariffs = s.tariffs ∧
    (s.addReason p r).settlements = s.settlements ∧ (s.addReason p r).alloc.pAv = s.alloc.pAv ∧
    (s.addReason p r).alloc.budget = s.alloc.budget ∧ (s.addReason p r).alloc.gridCap = s.alloc.gridCap ∧
    (s.addReason p r).alloc.stagedGridCap = s.alloc.stagedGridCap ∧ (s.addReason p r).alloc.pointer = s.alloc.pointer ∧
    (s.addReason p r).alloc.periodTimer = s.alloc.periodTimer ∧ (s.addReason p r).prot = s.prot ∧
    (s.addReason p r).field.can = s.field.can ∧ (s.addReason p r).field.buffer = s.field.buffer ∧
    (s.addReason p r).field.links = s.field.links ∧ (s.addReason p r).field.fieldTx = s.field.fieldTx ∧
    (s.addReason p r).host.receiver = s.host.receiver ∧ (s.addReason p r).host.requests = s.host.requests ∧
    (s.addReason p r).host.restartAfter = s.host.restartAfter ∧ (s.addReason p r).host.hostTx = s.host.hostTx ∧
    (s.addReason p r).clock = s.clock ∧ (s.addReason p r).control = s.control ∧ (∀ q, (s.addReason p r).link q = s.link q) ∧
    (∀ n, (s.addReason p r).tariff n = s.tariff n) ∧
    (s.addReason p r).params = s.params ∧ (∀ q, (s.addReason p r).rating q = s.rating q) := by
  unfold State.addReason; try simp only []
  (repeat' split) <;> first | (simp; done) | simp [State.slot, State.link, State.allot, State.module, State.tariff, State.params, State.rating]

/-- What `removeReason` leaves alone. -/
@[simp] theorem removeReason_frame (s : State) (p : Pedestal) (r : Reason) :
    (s.removeReason p r).pending = s.pending ∧ (s.removeReason p r).now = s.now ∧
    (s.removeReason p r).nextSession = s.nextSession ∧ (s.removeReason p r).exhausted = s.exhausted ∧
    (s.removeReason p r).tariffs = s.tariffs ∧ (s.removeReason p r).settlements = s.settlements ∧
    (s.removeReason p r).alloc = s.alloc ∧ (s.removeReason p r).modules = s.modules ∧ (s.removeReason p r).prot = s.prot ∧
    (s.removeReason p r).field = s.field ∧ (s.removeReason p r).host = s.host ∧ (s.removeReason p r).notices = s.notices ∧
    (s.removeReason p r).clock = s.clock ∧ (s.removeReason p r).control = s.control ∧
    (∀ q, (s.removeReason p r).link q = s.link q) ∧ (∀ q, (s.removeReason p r).allot q = s.allot q) ∧
    (∀ m, (s.removeReason p r).module m = s.module m) ∧ (∀ n, (s.removeReason p r).tariff n = s.tariff n) ∧
    (s.removeReason p r).params = s.params ∧ (∀ q, (s.removeReason p r).rating q = s.rating q) := by
  unfold State.removeReason; try simp only []
  (repeat' split) <;> first | (simp; done) | simp [State.slot, State.link, State.allot, State.module, State.tariff, State.params, State.rating]

/-- What `judge` leaves alone. -/
@[simp] theorem judge_frame (s : State) (p : Pedestal) :
    (s.judge p).pending = s.pending ∧ (s.judge p).now = s.now ∧ (s.judge p).nextSession = s.nextSession ∧
    (s.judge p).exhausted = s.exhausted ∧ (s.judge p).tariffs = s.tariffs ∧ (s.judge p).settlements = s.settlements ∧
    (s.judge p).alloc = s.alloc ∧ (s.judge p).modules = s.modules ∧ (s.judge p).prot = s.prot ∧ (s.judge p).field = s.field ∧
    (s.judge p).host.receiver = s.host.receiver ∧ (s.judge p).host.requests = s.host.requests ∧
    (s.judge p).host.restartAfter = s.host.restartAfter ∧ (s.judge p).host.hostTx = s.host.hostTx ∧
    (s.judge p).clock = s.clock ∧ (s.judge p).control = s.control ∧ (∀ q, (s.judge p).link q = s.link q) ∧
    (∀ q, (s.judge p).allot q = s.allot q) ∧ (∀ m, (s.judge p).module m = s.module m) ∧
    (∀ n, (s.judge p).tariff n = s.tariff n) ∧ (s.judge p).params = s.params ∧ (∀ q, (s.judge p).rating q = s.rating q) := by
  unfold State.judge; try simp only []
  (repeat' split) <;> first | (simp; done) | simp [State.slot, State.link, State.allot, State.module, State.tariff, State.params, State.rating]

/-- What `startExtension` leaves alone. -/
@[simp] theorem startExtension_frame (s : State) (p : Pedestal) :
    (s.startExtension p).pending = s.pending ∧ (s.startExtension p).now = s.now ∧
    (s.startExtension p).nextSession = s.nextSession ∧ (s.startExtension p).exhausted = s.exhausted ∧
    (s.startExtension p).tariffs = s.tariffs ∧ (s.startExtension p).settlements = s.settlements ∧
    (s.startExtension p).alloc = s.alloc ∧ (s.startExtension p).modules = s.modules ∧ (s.startExtension p).prot = s.prot ∧
    (s.startExtension p).field = s.field ∧ (s.startExtension p).host = s.host ∧ (s.startExtension p).notices = s.notices ∧
    (s.startExtension p).clock = s.clock ∧ (s.startExtension p).control = s.control ∧
    (∀ q, (s.startExtension p).link q = s.link q) ∧ (∀ q, (s.startExtension p).allot q = s.allot q) ∧
    (∀ m, (s.startExtension p).module m = s.module m) ∧ (∀ n, (s.startExtension p).tariff n = s.tariff n) ∧
    (s.startExtension p).params = s.params ∧ (∀ q, (s.startExtension p).rating q = s.rating q) := by
  unfold State.startExtension; try simp only []
  (repeat' split) <;> first | (simp; done) | simp [State.slot, State.link, State.allot, State.module, State.tariff, State.params, State.rating]

/-- What `startResume` leaves alone. -/
@[simp] theorem startResume_frame (s : State) (p : Pedestal) :
    (s.startResume p).pending = s.pending ∧ (s.startResume p).now = s.now ∧ (s.startResume p).nextSession = s.nextSession ∧
    (s.startResume p).exhausted = s.exhausted ∧ (s.startResume p).tariffs = s.tariffs ∧
    (s.startResume p).settlements = s.settlements ∧ (s.startResume p).alloc = s.alloc ∧ (s.startResume p).modules = s.modules ∧
    (s.startResume p).prot = s.prot ∧ (s.startResume p).field = s.field ∧ (s.startResume p).host = s.host ∧
    (s.startResume p).notices = s.notices ∧ (s.startResume p).clock = s.clock ∧ (s.startResume p).control = s.control ∧
    (∀ q, (s.startResume p).link q = s.link q) ∧ (∀ q, (s.startResume p).allot q = s.allot q) ∧
    (∀ m, (s.startResume p).module m = s.module m) ∧ (∀ n, (s.startResume p).tariff n = s.tariff n) ∧
    (s.startResume p).params = s.params ∧ (∀ q, (s.startResume p).rating q = s.rating q) := by
  unfold State.startResume; try simp only []
  (repeat' split) <;> first | (simp; done) | simp [State.slot, State.link, State.allot, State.module, State.tariff, State.params, State.rating]

/-- What `holdReached` leaves alone. -/
@[simp] theorem holdReached_frame (s : State) (p : Pedestal) :
    (s.holdReached p).pending = s.pending ∧ (s.holdReached p).now = s.now ∧ (s.holdReached p).nextSession = s.nextSession ∧
    (s.holdReached p).exhausted = s.exhausted ∧ (s.holdReached p).tariffs = s.tariffs ∧
    (s.holdReached p).settlements = s.settlements ∧ (s.holdReached p).alloc.pAv = s.alloc.pAv ∧
    (s.holdReached p).alloc.budget = s.alloc.budget ∧ (s.holdReached p).alloc.gridCap = s.alloc.gridCap ∧
    (s.holdReached p).alloc.stagedGridCap = s.alloc.stagedGridCap ∧ (s.holdReached p).alloc.pointer = s.alloc.pointer ∧
    (s.holdReached p).alloc.periodTimer = s.alloc.periodTimer ∧ (s.holdReached p).prot = s.prot ∧
    (s.holdReached p).field.can = s.field.can ∧ (s.holdReached p).field.buffer = s.field.buffer ∧
    (s.holdReached p).field.links = s.field.links ∧ (s.holdReached p).field.fieldTx = s.field.fieldTx ∧
    (s.holdReached p).host.receiver = s.host.receiver ∧ (s.holdReached p).host.requests = s.host.requests ∧
    (s.holdReached p).host.restartAfter = s.host.restartAfter ∧ (s.holdReached p).host.hostTx = s.host.hostTx ∧
    (s.holdReached p).clock = s.clock ∧ (s.holdReached p).control = s.control ∧ (∀ q, (s.holdReached p).link q = s.link q) ∧
    (∀ n, (s.holdReached p).tariff n = s.tariff n) ∧
    (s.holdReached p).params = s.params ∧ (∀ q, (s.holdReached p).rating q = s.rating q) := by
  unfold State.holdReached; try simp only []
  (repeat' split) <;> first | (simp; done) | simp [State.slot, State.link, State.allot, State.module, State.tariff, State.params, State.rating]

/-- What `orderEnd` leaves alone. -/
@[simp] theorem orderEnd_frame (s : State) (p : Pedestal) :
    (s.orderEnd p).pending = s.pending ∧ (s.orderEnd p).now = s.now ∧ (s.orderEnd p).nextSession = s.nextSession ∧
    (s.orderEnd p).exhausted = s.exhausted ∧ (s.orderEnd p).tariffs = s.tariffs ∧ (s.orderEnd p).settlements = s.settlements ∧
    (s.orderEnd p).alloc = s.alloc ∧ (s.orderEnd p).modules = s.modules ∧ (s.orderEnd p).prot = s.prot ∧
    (s.orderEnd p).field.can = s.field.can ∧ (s.orderEnd p).field.buffer = s.field.buffer ∧
    (s.orderEnd p).field.fieldTx = s.field.fieldTx ∧ (s.orderEnd p).host.receiver = s.host.receiver ∧
    (s.orderEnd p).host.requests = s.host.requests ∧ (s.orderEnd p).host.restartAfter = s.host.restartAfter ∧
    (s.orderEnd p).host.hostTx = s.host.hostTx ∧ (s.orderEnd p).notices = s.notices ∧ (s.orderEnd p).clock = s.clock ∧
    (s.orderEnd p).control = s.control ∧ (∀ q, (s.orderEnd p).allot q = s.allot q) ∧
    (∀ m, (s.orderEnd p).module m = s.module m) ∧ (∀ n, (s.orderEnd p).tariff n = s.tariff n) ∧
    (s.orderEnd p).params = s.params ∧ (∀ q, (s.orderEnd p).rating q = s.rating q) := by
  unfold State.orderEnd; try simp only []
  (repeat' split) <;> first | (simp; done) | simp [State.slot, State.link, State.allot, State.module, State.tariff, State.params, State.rating]

/-- What `markEnd` leaves alone. -/
@[simp] theorem markEnd_frame (s : State) (p : Pedestal) :
    (s.markEnd p).pending = s.pending ∧ (s.markEnd p).now = s.now ∧ (s.markEnd p).nextSession = s.nextSession ∧
    (s.markEnd p).exhausted = s.exhausted ∧ (s.markEnd p).tariffs = s.tariffs ∧ (s.markEnd p).settlements = s.settlements ∧
    (s.markEnd p).alloc = s.alloc ∧ (s.markEnd p).modules = s.modules ∧ (s.markEnd p).prot = s.prot ∧
    (s.markEnd p).field = s.field ∧ (s.markEnd p).host = s.host ∧ (s.markEnd p).notices = s.notices ∧
    (s.markEnd p).clock = s.clock ∧ (s.markEnd p).control = s.control ∧ (∀ q, (s.markEnd p).link q = s.link q) ∧
    (∀ q, (s.markEnd p).allot q = s.allot q) ∧ (∀ m, (s.markEnd p).module m = s.module m) ∧
    (∀ n, (s.markEnd p).tariff n = s.tariff n) ∧
    (s.markEnd p).params = s.params ∧ (∀ q, (s.markEnd p).rating q = s.rating q) := by
  unfold State.markEnd; try simp only []
  (repeat' split) <;> first | (simp; done) | simp [State.slot, State.link, State.allot, State.module, State.tariff, State.params, State.rating]

/-- What `loadGrace` leaves alone. -/
@[simp] theorem loadGrace_frame (s : State) (p : Pedestal) :
    (s.loadGrace p).pending = s.pending ∧ (s.loadGrace p).now = s.now ∧ (s.loadGrace p).nextSession = s.nextSession ∧
    (s.loadGrace p).exhausted = s.exhausted ∧ (s.loadGrace p).tariffs = s.tariffs ∧
    (s.loadGrace p).settlements = s.settlements ∧ (s.loadGrace p).alloc = s.alloc ∧ (s.loadGrace p).modules = s.modules ∧
    (s.loadGrace p).prot = s.prot ∧ (s.loadGrace p).field = s.field ∧ (s.loadGrace p).host = s.host ∧
    (s.loadGrace p).notices = s.notices ∧ (s.loadGrace p).clock = s.clock ∧ (s.loadGrace p).control = s.control ∧
    (∀ q, (s.loadGrace p).link q = s.link q) ∧ (∀ q, (s.loadGrace p).allot q = s.allot q) ∧
    (∀ m, (s.loadGrace p).module m = s.module m) ∧ (∀ n, (s.loadGrace p).tariff n = s.tariff n) ∧
    (s.loadGrace p).params = s.params ∧ (∀ q, (s.loadGrace p).rating q = s.rating q) := by
  unfold State.loadGrace; try simp only []
  (repeat' split) <;> first | (simp; done) | simp [State.slot, State.link, State.allot, State.module, State.tariff, State.params, State.rating]

/-- What `finish` leaves alone. -/
@[simp] theorem finish_frame (s : State) (p : Pedestal) (cause : FinishCause) :
    (s.finish p cause).pending = s.pending ∧ (s.finish p cause).now = s.now ∧ (s.finish p cause).nextSession = s.nextSession ∧
    (s.finish p cause).exhausted = s.exhausted ∧ (s.finish p cause).tariffs = s.tariffs ∧
    (s.finish p cause).settlements = s.settlements ∧ (s.finish p cause).alloc.pAv = s.alloc.pAv ∧
    (s.finish p cause).alloc.budget = s.alloc.budget ∧ (s.finish p cause).alloc.gridCap = s.alloc.gridCap ∧
    (s.finish p cause).alloc.stagedGridCap = s.alloc.stagedGridCap ∧ (s.finish p cause).alloc.pointer = s.alloc.pointer ∧
    (s.finish p cause).alloc.periodTimer = s.alloc.periodTimer ∧ (s.finish p cause).prot = s.prot ∧
    (s.finish p cause).field.can = s.field.can ∧ (s.finish p cause).field.buffer = s.field.buffer ∧
    (s.finish p cause).field.fieldTx = s.field.fieldTx ∧ (s.finish p cause).host.receiver = s.host.receiver ∧
    (s.finish p cause).host.requests = s.host.requests ∧ (s.finish p cause).host.restartAfter = s.host.restartAfter ∧
    (s.finish p cause).host.hostTx = s.host.hostTx ∧ (s.finish p cause).clock = s.clock ∧
    (s.finish p cause).control = s.control ∧ (∀ n, (s.finish p cause).tariff n = s.tariff n) ∧
    (s.finish p cause).params = s.params ∧ (∀ q, (s.finish p cause).rating q = s.rating q) := by
  unfold State.finish; try simp only []
  (repeat' split) <;> first | (simp; done) | simp [State.slot, State.link, State.allot, State.module, State.tariff, State.params, State.rating]

/-- What `freeSlot` leaves alone. -/
@[simp] theorem freeSlot_frame (s : State) (p : Pedestal) :
    (s.freeSlot p).pending = s.pending ∧ (s.freeSlot p).now = s.now ∧ (s.freeSlot p).nextSession = s.nextSession ∧
    (s.freeSlot p).exhausted = s.exhausted ∧ (s.freeSlot p).tariffs = s.tariffs ∧ (s.freeSlot p).settlements = s.settlements ∧
    (s.freeSlot p).alloc = s.alloc ∧ (s.freeSlot p).modules = s.modules ∧ (s.freeSlot p).prot = s.prot ∧
    (s.freeSlot p).field = s.field ∧ (s.freeSlot p).host.receiver = s.host.receiver ∧
    (s.freeSlot p).host.requests = s.host.requests ∧ (s.freeSlot p).host.restartAfter = s.host.restartAfter ∧
    (s.freeSlot p).host.hostTx = s.host.hostTx ∧ (s.freeSlot p).clock = s.clock ∧ (s.freeSlot p).control = s.control ∧
    (∀ q, (s.freeSlot p).link q = s.link q) ∧ (∀ q, (s.freeSlot p).allot q = s.allot q) ∧
    (∀ m, (s.freeSlot p).module m = s.module m) ∧ (∀ n, (s.freeSlot p).tariff n = s.tariff n) ∧
    (s.freeSlot p).params = s.params ∧ (∀ q, (s.freeSlot p).rating q = s.rating q) := by
  unfold State.freeSlot; try simp only []
  (repeat' split) <;> first | (simp; done) | simp [State.slot, State.link, State.allot, State.module, State.tariff, State.params, State.rating]

/-- What `refuseSlot` leaves alone. -/
@[simp] theorem refuseSlot_frame (s : State) (p : Pedestal) :
    (s.refuseSlot p).pending = s.pending ∧ (s.refuseSlot p).now = s.now ∧ (s.refuseSlot p).nextSession = s.nextSession ∧
    (s.refuseSlot p).exhausted = s.exhausted ∧ (s.refuseSlot p).tariffs = s.tariffs ∧
    (s.refuseSlot p).settlements = s.settlements ∧ (s.refuseSlot p).alloc = s.alloc ∧ (s.refuseSlot p).modules = s.modules ∧
    (s.refuseSlot p).prot = s.prot ∧ (s.refuseSlot p).field.can = s.field.can ∧
    (s.refuseSlot p).field.buffer = s.field.buffer ∧ (s.refuseSlot p).field.fieldTx = s.field.fieldTx ∧
    (s.refuseSlot p).host.receiver = s.host.receiver ∧ (s.refuseSlot p).host.requests = s.host.requests ∧
    (s.refuseSlot p).host.restartAfter = s.host.restartAfter ∧ (s.refuseSlot p).host.hostTx = s.host.hostTx ∧
    (s.refuseSlot p).clock = s.clock ∧ (s.refuseSlot p).control = s.control ∧ (∀ q, (s.refuseSlot p).allot q = s.allot q) ∧
    (∀ m, (s.refuseSlot p).module m = s.module m) ∧ (∀ n, (s.refuseSlot p).tariff n = s.tariff n) ∧
    (s.refuseSlot p).params = s.params ∧ (∀ q, (s.refuseSlot p).rating q = s.rating q) := by
  unfold State.refuseSlot; try simp only []
  (repeat' split) <;> first | (simp; done) | simp [State.slot, State.link, State.allot, State.module, State.tariff, State.params, State.rating]

/-- What `closeSession` leaves alone. -/
@[simp] theorem closeSession_frame (s : State) (p : Pedestal) (cause : CloseCause) :
    (s.closeSession p cause).pending = s.pending ∧ (s.closeSession p cause).now = s.now ∧
    (s.closeSession p cause).nextSession = s.nextSession ∧ (s.closeSession p cause).exhausted = s.exhausted ∧
    (s.closeSession p cause).alloc.pAv = s.alloc.pAv ∧ (s.closeSession p cause).alloc.budget = s.alloc.budget ∧
    (s.closeSession p cause).alloc.gridCap = s.alloc.gridCap ∧
    (s.closeSession p cause).alloc.stagedGridCap = s.alloc.stagedGridCap ∧
    (s.closeSession p cause).alloc.pointer = s.alloc.pointer ∧
    (s.closeSession p cause).alloc.periodTimer = s.alloc.periodTimer ∧ (s.closeSession p cause).prot = s.prot ∧
    (s.closeSession p cause).field.can = s.field.can ∧ (s.closeSession p cause).field.buffer = s.field.buffer ∧
    (s.closeSession p cause).field.fieldTx = s.field.fieldTx ∧ (s.closeSession p cause).host.receiver = s.host.receiver ∧
    (s.closeSession p cause).host.requests = s.host.requests ∧
    (s.closeSession p cause).host.restartAfter = s.host.restartAfter ∧ (s.closeSession p cause).host.hostTx = s.host.hostTx ∧
    (s.closeSession p cause).clock.day = s.clock.day ∧ (s.closeSession p cause).clock.minute = s.clock.minute ∧
    (s.closeSession p cause).clock.zeroAt = s.clock.zeroAt ∧ (s.closeSession p cause).clock.valid = s.clock.valid ∧
    (s.closeSession p cause).control = s.control ∧
    (s.closeSession p cause).params = s.params ∧ (∀ q, (s.closeSession p cause).rating q = s.rating q) := by
  unfold State.closeSession
  split
  · simp
  · simp only []
    (repeat' split) <;> first | (simp; done) | simp [State.slot, State.link, State.allot, State.module, State.tariff, State.params, State.rating]

/-- What `plugIn` leaves alone. -/
@[simp] theorem plugIn_frame (s : State) (p : Pedestal) :
    (s.plugIn p).pending = s.pending ∧ (s.plugIn p).now = s.now ∧ (s.plugIn p).nextSession = s.nextSession ∧
    (s.plugIn p).exhausted = s.exhausted ∧ (s.plugIn p).tariffs = s.tariffs ∧ (s.plugIn p).settlements = s.settlements ∧
    (s.plugIn p).alloc = s.alloc ∧ (s.plugIn p).modules = s.modules ∧ (s.plugIn p).prot = s.prot ∧
    (s.plugIn p).field.can = s.field.can ∧ (s.plugIn p).field.buffer = s.field.buffer ∧
    (s.plugIn p).field.fieldTx = s.field.fieldTx ∧ (s.plugIn p).host.receiver = s.host.receiver ∧
    (s.plugIn p).host.requests = s.host.requests ∧ (s.plugIn p).host.restartAfter = s.host.restartAfter ∧
    (s.plugIn p).host.hostTx = s.host.hostTx ∧ (s.plugIn p).clock = s.clock ∧ (s.plugIn p).control = s.control ∧
    (∀ q, (s.plugIn p).allot q = s.allot q) ∧ (∀ m, (s.plugIn p).module m = s.module m) ∧
    (∀ n, (s.plugIn p).tariff n = s.tariff n) ∧ (s.plugIn p).params = s.params ∧ (∀ q, (s.plugIn p).rating q = s.rating q) := by
  unfold State.plugIn; try simp only []
  (repeat' split) <;> first | (simp; done) | simp [State.slot, State.link, State.allot, State.module, State.tariff, State.params, State.rating]

/-- What `unplug` leaves alone. -/
@[simp] theorem unplug_frame (s : State) (p : Pedestal) :
    (s.unplug p).pending = s.pending ∧ (s.unplug p).now = s.now ∧ (s.unplug p).nextSession = s.nextSession ∧
    (s.unplug p).exhausted = s.exhausted ∧ (s.unplug p).alloc.pAv = s.alloc.pAv ∧ (s.unplug p).alloc.budget = s.alloc.budget ∧
    (s.unplug p).alloc.gridCap = s.alloc.gridCap ∧ (s.unplug p).alloc.stagedGridCap = s.alloc.stagedGridCap ∧
    (s.unplug p).alloc.pointer = s.alloc.pointer ∧ (s.unplug p).alloc.periodTimer = s.alloc.periodTimer ∧
    (s.unplug p).prot = s.prot ∧ (s.unplug p).field.can = s.field.can ∧ (s.unplug p).field.buffer = s.field.buffer ∧
    (s.unplug p).field.fieldTx = s.field.fieldTx ∧ (s.unplug p).host.receiver = s.host.receiver ∧
    (s.unplug p).host.requests = s.host.requests ∧ (s.unplug p).host.restartAfter = s.host.restartAfter ∧
    (s.unplug p).host.hostTx = s.host.hostTx ∧ (s.unplug p).clock.day = s.clock.day ∧
    (s.unplug p).clock.minute = s.clock.minute ∧ (s.unplug p).clock.zeroAt = s.clock.zeroAt ∧
    (s.unplug p).clock.valid = s.clock.valid ∧ (s.unplug p).control = s.control ∧
    (s.unplug p).params = s.params ∧ (∀ q, (s.unplug p).rating q = s.rating q) := by
  unfold State.unplug; try simp only []
  (repeat' split) <;> first | (simp; done) | simp [State.slot, State.link, State.allot, State.module, State.tariff, State.params, State.rating]

/-- What `linkSilent` leaves alone. -/
@[simp] theorem linkSilent_frame (s : State) (p : Pedestal) :
    (s.linkSilent p).pending = s.pending ∧ (s.linkSilent p).now = s.now ∧ (s.linkSilent p).nextSession = s.nextSession ∧
    (s.linkSilent p).exhausted = s.exhausted ∧ (s.linkSilent p).tariffs = s.tariffs ∧
    (s.linkSilent p).settlements = s.settlements ∧ (s.linkSilent p).alloc.pAv = s.alloc.pAv ∧
    (s.linkSilent p).alloc.budget = s.alloc.budget ∧ (s.linkSilent p).alloc.gridCap = s.alloc.gridCap ∧
    (s.linkSilent p).alloc.stagedGridCap = s.alloc.stagedGridCap ∧ (s.linkSilent p).alloc.pointer = s.alloc.pointer ∧
    (s.linkSilent p).alloc.periodTimer = s.alloc.periodTimer ∧ (s.linkSilent p).prot = s.prot ∧
    (s.linkSilent p).field.can = s.field.can ∧ (s.linkSilent p).field.buffer = s.field.buffer ∧
    (s.linkSilent p).field.links = s.field.links ∧ (s.linkSilent p).field.fieldTx = s.field.fieldTx ∧
    (s.linkSilent p).host.receiver = s.host.receiver ∧ (s.linkSilent p).host.requests = s.host.requests ∧
    (s.linkSilent p).host.restartAfter = s.host.restartAfter ∧ (s.linkSilent p).host.hostTx = s.host.hostTx ∧
    (s.linkSilent p).clock = s.clock ∧ (s.linkSilent p).control = s.control ∧ (∀ q, (s.linkSilent p).link q = s.link q) ∧
    (∀ n, (s.linkSilent p).tariff n = s.tariff n) ∧
    (s.linkSilent p).params = s.params ∧ (∀ q, (s.linkSilent p).rating q = s.rating q) := by
  unfold State.linkSilent; try simp only []
  (repeat' split) <;> first | (simp; done) | simp [State.slot, State.link, State.allot, State.module, State.tariff, State.params, State.rating]

/-- What `linkReturned` leaves alone. -/
@[simp] theorem linkReturned_frame (s : State) (p : Pedestal) :
    (s.linkReturned p).pending = s.pending ∧ (s.linkReturned p).now = s.now ∧ (s.linkReturned p).nextSession = s.nextSession ∧
    (s.linkReturned p).exhausted = s.exhausted ∧ (s.linkReturned p).tariffs = s.tariffs ∧
    (s.linkReturned p).settlements = s.settlements ∧ (s.linkReturned p).alloc = s.alloc ∧
    (s.linkReturned p).modules = s.modules ∧ (s.linkReturned p).prot = s.prot ∧ (s.linkReturned p).field = s.field ∧
    (s.linkReturned p).host = s.host ∧ (s.linkReturned p).notices = s.notices ∧ (s.linkReturned p).clock = s.clock ∧
    (s.linkReturned p).control = s.control ∧ (∀ q, (s.linkReturned p).link q = s.link q) ∧
    (∀ q, (s.linkReturned p).allot q = s.allot q) ∧ (∀ m, (s.linkReturned p).module m = s.module m) ∧
    (∀ n, (s.linkReturned p).tariff n = s.tariff n) ∧
    (s.linkReturned p).params = s.params ∧ (∀ q, (s.linkReturned p).rating q = s.rating q) := by
  unfold State.linkReturned; try simp only []
  (repeat' split) <;> first | (simp; done) | simp [State.slot, State.link, State.allot, State.module, State.tariff, State.params, State.rating]

/-- What `restartOrdered` leaves alone. -/
@[simp] theorem restartOrdered_frame (s : State) (p : Pedestal) :
    (s.restartOrdered p).pending = s.pending ∧ (s.restartOrdered p).now = s.now ∧
    (s.restartOrdered p).nextSession = s.nextSession ∧ (s.restartOrdered p).exhausted = s.exhausted ∧
    (s.restartOrdered p).tariffs = s.tariffs ∧ (s.restartOrdered p).settlements = s.settlements ∧
    (s.restartOrdered p).alloc.pAv = s.alloc.pAv ∧ (s.restartOrdered p).alloc.budget = s.alloc.budget ∧
    (s.restartOrdered p).alloc.gridCap = s.alloc.gridCap ∧ (s.restartOrdered p).alloc.stagedGridCap = s.alloc.stagedGridCap ∧
    (s.restartOrdered p).alloc.pointer = s.alloc.pointer ∧ (s.restartOrdered p).alloc.periodTimer = s.alloc.periodTimer ∧
    (s.restartOrdered p).prot = s.prot ∧ (s.restartOrdered p).field.can = s.field.can ∧
    (s.restartOrdered p).field.buffer = s.field.buffer ∧ (s.restartOrdered p).field.fieldTx = s.field.fieldTx ∧
    (s.restartOrdered p).host.receiver = s.host.receiver ∧ (s.restartOrdered p).host.requests = s.host.requests ∧
    (s.restartOrdered p).host.restartAfter = s.host.restartAfter ∧ (s.restartOrdered p).host.hostTx = s.host.hostTx ∧
    (s.restartOrdered p).clock = s.clock ∧ (s.restartOrdered p).control = s.control ∧
    (∀ n, (s.restartOrdered p).tariff n = s.tariff n) ∧
    (s.restartOrdered p).params = s.params ∧ (∀ q, (s.restartOrdered p).rating q = s.rating q) := by
  unfold State.restartOrdered; try simp only []
  (repeat' split) <;> first | (simp; done) | simp [State.slot, State.link, State.allot, State.module, State.tariff, State.params, State.rating]

/-- What `restartReported` leaves alone. -/
@[simp] theorem restartReported_frame (s : State) (p : Pedestal) (plugged : Bool) :
    (s.restartReported p plugged).pending = s.pending ∧ (s.restartReported p plugged).now = s.now ∧
    (s.restartReported p plugged).nextSession = s.nextSession ∧ (s.restartReported p plugged).exhausted = s.exhausted ∧
    (s.restartReported p plugged).alloc.pAv = s.alloc.pAv ∧ (s.restartReported p plugged).alloc.budget = s.alloc.budget ∧
    (s.restartReported p plugged).alloc.gridCap = s.alloc.gridCap ∧
    (s.restartReported p plugged).alloc.stagedGridCap = s.alloc.stagedGridCap ∧
    (s.restartReported p plugged).alloc.pointer = s.alloc.pointer ∧
    (s.restartReported p plugged).alloc.periodTimer = s.alloc.periodTimer ∧ (s.restartReported p plugged).prot = s.prot ∧
    (s.restartReported p plugged).field.can = s.field.can ∧ (s.restartReported p plugged).field.buffer = s.field.buffer ∧
    (s.restartReported p plugged).field.fieldTx = s.field.fieldTx ∧
    (s.restartReported p plugged).host.receiver = s.host.receiver ∧
    (s.restartReported p plugged).host.requests = s.host.requests ∧
    (s.restartReported p plugged).host.restartAfter = s.host.restartAfter ∧
    (s.restartReported p plugged).host.hostTx = s.host.hostTx ∧ (s.restartReported p plugged).clock.day = s.clock.day ∧
    (s.restartReported p plugged).clock.minute = s.clock.minute ∧ (s.restartReported p plugged).clock.zeroAt = s.clock.zeroAt ∧
    (s.restartReported p plugged).clock.valid = s.clock.valid ∧ (s.restartReported p plugged).control = s.control ∧
    (s.restartReported p plugged).params = s.params ∧ (∀ q, (s.restartReported p plugged).rating q = s.rating q) := by
  unfold State.restartReported; try simp only []
  (repeat' split) <;> first | (simp; done) | simp [State.slot, State.link, State.allot, State.module, State.tariff, State.params, State.rating]

/-- What `compareTopUp` leaves alone. -/
@[simp] theorem compareTopUp_frame (s : State) (p : Pedestal) :
    (s.compareTopUp p).pending = s.pending ∧ (s.compareTopUp p).now = s.now ∧ (s.compareTopUp p).nextSession = s.nextSession ∧
    (s.compareTopUp p).exhausted = s.exhausted ∧ (s.compareTopUp p).tariffs = s.tariffs ∧
    (s.compareTopUp p).settlements = s.settlements ∧ (s.compareTopUp p).alloc = s.alloc ∧
    (s.compareTopUp p).modules = s.modules ∧ (s.compareTopUp p).prot = s.prot ∧ (s.compareTopUp p).field = s.field ∧
    (s.compareTopUp p).host.receiver = s.host.receiver ∧ (s.compareTopUp p).host.requests = s.host.requests ∧
    (s.compareTopUp p).host.restartAfter = s.host.restartAfter ∧ (s.compareTopUp p).host.hostTx = s.host.hostTx ∧
    (s.compareTopUp p).clock = s.clock ∧ (s.compareTopUp p).control = s.control ∧ (∀ q, (s.compareTopUp p).link q = s.link q) ∧
    (∀ q, (s.compareTopUp p).allot q = s.allot q) ∧ (∀ m, (s.compareTopUp p).module m = s.module m) ∧
    (∀ n, (s.compareTopUp p).tariff n = s.tariff n) ∧
    (s.compareTopUp p).params = s.params ∧ (∀ q, (s.compareTopUp p).rating q = s.rating q) := by
  unfold State.compareTopUp; try simp only []
  (repeat' split) <;> first | (simp; done) | simp [State.slot, State.link, State.allot, State.module, State.tariff, State.params, State.rating]

/-- What `compareReached` leaves alone. -/
@[simp] theorem compareReached_frame (s : State) (p : Pedestal) :
    (s.compareReached p).pending = s.pending ∧ (s.compareReached p).now = s.now ∧
    (s.compareReached p).nextSession = s.nextSession ∧ (s.compareReached p).exhausted = s.exhausted ∧
    (s.compareReached p).tariffs = s.tariffs ∧ (s.compareReached p).settlements = s.settlements ∧
    (s.compareReached p).alloc.pAv = s.alloc.pAv ∧ (s.compareReached p).alloc.budget = s.alloc.budget ∧
    (s.compareReached p).alloc.gridCap = s.alloc.gridCap ∧ (s.compareReached p).alloc.stagedGridCap = s.alloc.stagedGridCap ∧
    (s.compareReached p).alloc.pointer = s.alloc.pointer ∧ (s.compareReached p).alloc.periodTimer = s.alloc.periodTimer ∧
    (s.compareReached p).prot = s.prot ∧ (s.compareReached p).field.can = s.field.can ∧
    (s.compareReached p).field.buffer = s.field.buffer ∧ (s.compareReached p).field.links = s.field.links ∧
    (s.compareReached p).field.fieldTx = s.field.fieldTx ∧ (s.compareReached p).host.receiver = s.host.receiver ∧
    (s.compareReached p).host.requests = s.host.requests ∧ (s.compareReached p).host.restartAfter = s.host.restartAfter ∧
    (s.compareReached p).host.hostTx = s.host.hostTx ∧ (s.compareReached p).clock = s.clock ∧
    (s.compareReached p).control = s.control ∧ (∀ q, (s.compareReached p).link q = s.link q) ∧
    (∀ n, (s.compareReached p).tariff n = s.tariff n) ∧
    (s.compareReached p).params = s.params ∧ (∀ q, (s.compareReached p).rating q = s.rating q) := by
  unfold State.compareReached; try simp only []
  (repeat' split) <;> first | (simp; done) | simp [State.slot, State.link, State.allot, State.module, State.tariff, State.params, State.rating]

/-- What `compareHold` leaves alone. -/
@[simp] theorem compareHold_frame (s : State) (p : Pedestal) :
    (s.compareHold p).pending = s.pending ∧ (s.compareHold p).now = s.now ∧ (s.compareHold p).nextSession = s.nextSession ∧
    (s.compareHold p).exhausted = s.exhausted ∧ (s.compareHold p).tariffs = s.tariffs ∧
    (s.compareHold p).settlements = s.settlements ∧ (s.compareHold p).alloc.pAv = s.alloc.pAv ∧
    (s.compareHold p).alloc.budget = s.alloc.budget ∧ (s.compareHold p).alloc.gridCap = s.alloc.gridCap ∧
    (s.compareHold p).alloc.stagedGridCap = s.alloc.stagedGridCap ∧ (s.compareHold p).alloc.pointer = s.alloc.pointer ∧
    (s.compareHold p).alloc.periodTimer = s.alloc.periodTimer ∧ (s.compareHold p).prot = s.prot ∧
    (s.compareHold p).field.can = s.field.can ∧ (s.compareHold p).field.buffer = s.field.buffer ∧
    (s.compareHold p).field.links = s.field.links ∧ (s.compareHold p).field.fieldTx = s.field.fieldTx ∧
    (s.compareHold p).host.receiver = s.host.receiver ∧ (s.compareHold p).host.requests = s.host.requests ∧
    (s.compareHold p).host.restartAfter = s.host.restartAfter ∧ (s.compareHold p).host.hostTx = s.host.hostTx ∧
    (s.compareHold p).clock = s.clock ∧ (s.compareHold p).control = s.control ∧ (∀ q, (s.compareHold p).link q = s.link q) ∧
    (∀ n, (s.compareHold p).tariff n = s.tariff n) ∧
    (s.compareHold p).params = s.params ∧ (∀ q, (s.compareHold p).rating q = s.rating q) := by
  unfold State.compareHold; try simp only []
  (repeat' split) <;> first | (simp; done) | simp [State.slot, State.link, State.allot, State.module, State.tariff, State.params, State.rating]

/-- What `firstReady` leaves alone. -/
@[simp] theorem firstReady_frame (s : State) (p : Pedestal) (request : Nat) :
    (s.firstReady p request).pending = s.pending ∧ (s.firstReady p request).now = s.now ∧
    (s.firstReady p request).nextSession = s.nextSession ∧ (s.firstReady p request).exhausted = s.exhausted ∧
    (s.firstReady p request).tariffs = s.tariffs ∧ (s.firstReady p request).settlements = s.settlements ∧
    (s.firstReady p request).alloc.pAv = s.alloc.pAv ∧ (s.firstReady p request).alloc.budget = s.alloc.budget ∧
    (s.firstReady p request).alloc.gridCap = s.alloc.gridCap ∧
    (s.firstReady p request).alloc.stagedGridCap = s.alloc.stagedGridCap ∧
    (s.firstReady p request).alloc.pointer = s.alloc.pointer ∧
    (s.firstReady p request).alloc.periodTimer = s.alloc.periodTimer ∧ (s.firstReady p request).prot = s.prot ∧
    (s.firstReady p request).field.can = s.field.can ∧ (s.firstReady p request).field.buffer = s.field.buffer ∧
    (s.firstReady p request).field.links = s.field.links ∧ (s.firstReady p request).field.fieldTx = s.field.fieldTx ∧
    (s.firstReady p request).host.receiver = s.host.receiver ∧ (s.firstReady p request).host.requests = s.host.requests ∧
    (s.firstReady p request).host.restartAfter = s.host.restartAfter ∧ (s.firstReady p request).host.hostTx = s.host.hostTx ∧
    (s.firstReady p request).clock = s.clock ∧ (s.firstReady p request).control = s.control ∧
    (∀ q, (s.firstReady p request).link q = s.link q) ∧ (∀ n, (s.firstReady p request).tariff n = s.tariff n) ∧
    (s.firstReady p request).params = s.params ∧ (∀ q, (s.firstReady p request).rating q = s.rating q) := by unfold State.firstReady; simp only []; (repeat' split) <;> first | (simp; done) | simp [State.slot, State.link,
    State.allot, State.module, State.tariff, State.params, State.rating]

/-- What `vehicleReady` leaves alone. -/
@[simp] theorem vehicleReady_frame (s : State) (p : Pedestal) (request : Nat) :
    (s.vehicleReady p request).pending = s.pending ∧ (s.vehicleReady p request).now = s.now ∧
    (s.vehicleReady p request).nextSession = s.nextSession ∧ (s.vehicleReady p request).exhausted = s.exhausted ∧
    (s.vehicleReady p request).tariffs = s.tariffs ∧ (s.vehicleReady p request).settlements = s.settlements ∧
    (s.vehicleReady p request).alloc.pAv = s.alloc.pAv ∧ (s.vehicleReady p request).alloc.budget = s.alloc.budget ∧
    (s.vehicleReady p request).alloc.gridCap = s.alloc.gridCap ∧
    (s.vehicleReady p request).alloc.stagedGridCap = s.alloc.stagedGridCap ∧
    (s.vehicleReady p request).alloc.pointer = s.alloc.pointer ∧
    (s.vehicleReady p request).alloc.periodTimer = s.alloc.periodTimer ∧ (s.vehicleReady p request).prot = s.prot ∧
    (s.vehicleReady p request).field.can = s.field.can ∧ (s.vehicleReady p request).field.buffer = s.field.buffer ∧
    (s.vehicleReady p request).field.links = s.field.links ∧ (s.vehicleReady p request).field.fieldTx = s.field.fieldTx ∧
    (s.vehicleReady p request).host.receiver = s.host.receiver ∧ (s.vehicleReady p request).host.requests = s.host.requests ∧
    (s.vehicleReady p request).host.restartAfter = s.host.restartAfter ∧
    (s.vehicleReady p request).host.hostTx = s.host.hostTx ∧ (s.vehicleReady p request).clock = s.clock ∧
    (s.vehicleReady p request).control = s.control ∧ (∀ q, (s.vehicleReady p request).link q = s.link q) ∧
    (∀ n, (s.vehicleReady p request).tariff n = s.tariff n) ∧
    (s.vehicleReady p request).params = s.params ∧ (∀ q, (s.vehicleReady p request).rating q = s.rating q) := by unfold State.vehicleReady; simp only []; split <;> simp

/-- What `vehicleDone` leaves alone. -/
@[simp] theorem vehicleDone_frame (s : State) (p : Pedestal) :
    (s.vehicleDone p).pending = s.pending ∧ (s.vehicleDone p).now = s.now ∧ (s.vehicleDone p).nextSession = s.nextSession ∧
    (s.vehicleDone p).exhausted = s.exhausted ∧ (s.vehicleDone p).tariffs = s.tariffs ∧
    (s.vehicleDone p).settlements = s.settlements ∧ (s.vehicleDone p).alloc.pAv = s.alloc.pAv ∧
    (s.vehicleDone p).alloc.budget = s.alloc.budget ∧ (s.vehicleDone p).alloc.gridCap = s.alloc.gridCap ∧
    (s.vehicleDone p).alloc.stagedGridCap = s.alloc.stagedGridCap ∧ (s.vehicleDone p).alloc.pointer = s.alloc.pointer ∧
    (s.vehicleDone p).alloc.periodTimer = s.alloc.periodTimer ∧ (s.vehicleDone p).prot = s.prot ∧
    (s.vehicleDone p).field.can = s.field.can ∧ (s.vehicleDone p).field.buffer = s.field.buffer ∧
    (s.vehicleDone p).field.fieldTx = s.field.fieldTx ∧ (s.vehicleDone p).host.receiver = s.host.receiver ∧
    (s.vehicleDone p).host.requests = s.host.requests ∧ (s.vehicleDone p).host.restartAfter = s.host.restartAfter ∧
    (s.vehicleDone p).host.hostTx = s.host.hostTx ∧ (s.vehicleDone p).clock = s.clock ∧ (s.vehicleDone p).control = s.control ∧
    (∀ n, (s.vehicleDone p).tariff n = s.tariff n) ∧
    (s.vehicleDone p).params = s.params ∧ (∀ q, (s.vehicleDone p).rating q = s.rating q) := by
  unfold State.vehicleDone; try simp only []
  (repeat' split) <;> first | (simp; done) | simp [State.slot, State.link, State.allot, State.module, State.tariff, State.params, State.rating]

/-- What `moveStrikes` leaves alone. -/
@[simp] theorem moveStrikes_frame (s : State) (p : Pedestal) (strikes : Nat) (outcome : Option Bool) :
    (s.moveStrikes p strikes outcome).pending = s.pending ∧ (s.moveStrikes p strikes outcome).now = s.now ∧
    (s.moveStrikes p strikes outcome).nextSession = s.nextSession ∧ (s.moveStrikes p strikes outcome).exhausted = s.exhausted ∧
    (s.moveStrikes p strikes outcome).tariffs = s.tariffs ∧ (s.moveStrikes p strikes outcome).settlements = s.settlements ∧
    (s.moveStrikes p strikes outcome).alloc.pAv = s.alloc.pAv ∧
    (s.moveStrikes p strikes outcome).alloc.budget = s.alloc.budget ∧
    (s.moveStrikes p strikes outcome).alloc.gridCap = s.alloc.gridCap ∧
    (s.moveStrikes p strikes outcome).alloc.stagedGridCap = s.alloc.stagedGridCap ∧
    (s.moveStrikes p strikes outcome).alloc.pointer = s.alloc.pointer ∧
    (s.moveStrikes p strikes outcome).alloc.periodTimer = s.alloc.periodTimer ∧
    (s.moveStrikes p strikes outcome).prot = s.prot ∧ (s.moveStrikes p strikes outcome).field.can = s.field.can ∧
    (s.moveStrikes p strikes outcome).field.buffer = s.field.buffer ∧
    (s.moveStrikes p strikes outcome).field.fieldTx = s.field.fieldTx ∧
    (s.moveStrikes p strikes outcome).host.receiver = s.host.receiver ∧
    (s.moveStrikes p strikes outcome).host.requests = s.host.requests ∧
    (s.moveStrikes p strikes outcome).host.restartAfter = s.host.restartAfter ∧
    (s.moveStrikes p strikes outcome).host.hostTx = s.host.hostTx ∧ (s.moveStrikes p strikes outcome).clock = s.clock ∧
    (s.moveStrikes p strikes outcome).control = s.control ∧ (∀ n, (s.moveStrikes p strikes outcome).tariff n = s.tariff n) ∧
    (s.moveStrikes p strikes outcome).params = s.params ∧ (∀ q, (s.moveStrikes p strikes outcome).rating q = s.rating q) := by
  unfold State.moveStrikes; try simp only []
  (repeat' split) <;> first | (simp; done) | simp [State.slot, State.link, State.allot, State.module, State.tariff, State.params, State.rating]

/-- What `meterFault` leaves alone. -/
@[simp] theorem meterFault_frame (s : State) (p : Pedestal) :
    (s.meterFault p).pending = s.pending ∧ (s.meterFault p).now = s.now ∧ (s.meterFault p).nextSession = s.nextSession ∧
    (s.meterFault p).exhausted = s.exhausted ∧ (s.meterFault p).tariffs = s.tariffs ∧
    (s.meterFault p).settlements = s.settlements ∧ (s.meterFault p).alloc.pAv = s.alloc.pAv ∧
    (s.meterFault p).alloc.budget = s.alloc.budget ∧ (s.meterFault p).alloc.gridCap = s.alloc.gridCap ∧
    (s.meterFault p).alloc.stagedGridCap = s.alloc.stagedGridCap ∧ (s.meterFault p).alloc.pointer = s.alloc.pointer ∧
    (s.meterFault p).alloc.periodTimer = s.alloc.periodTimer ∧ (s.meterFault p).prot = s.prot ∧
    (s.meterFault p).field.can = s.field.can ∧ (s.meterFault p).field.buffer = s.field.buffer ∧
    (s.meterFault p).field.fieldTx = s.field.fieldTx ∧ (s.meterFault p).host.receiver = s.host.receiver ∧
    (s.meterFault p).host.requests = s.host.requests ∧ (s.meterFault p).host.restartAfter = s.host.restartAfter ∧
    (s.meterFault p).host.hostTx = s.host.hostTx ∧ (s.meterFault p).clock = s.clock ∧ (s.meterFault p).control = s.control ∧
    (∀ n, (s.meterFault p).tariff n = s.tariff n) ∧
    (s.meterFault p).params = s.params ∧ (∀ q, (s.meterFault p).rating q = s.rating q) := by
  unfold State.meterFault; try simp only []
  (repeat' split) <;> first | (simp; done) | simp [State.slot, State.link, State.allot, State.module, State.tariff, State.params, State.rating]

/-- What `priceReport` leaves alone. -/
@[simp] theorem priceReport_frame (s : State) (p : Pedestal) (e : Session) (register : Nat) :
    (s.priceReport p e register).pending = s.pending ∧ (s.priceReport p e register).now = s.now ∧
    (s.priceReport p e register).nextSession = s.nextSession ∧ (s.priceReport p e register).exhausted = s.exhausted ∧
    (s.priceReport p e register).tariffs = s.tariffs ∧ (s.priceReport p e register).settlements = s.settlements ∧
    (s.priceReport p e register).alloc.pAv = s.alloc.pAv ∧ (s.priceReport p e register).alloc.budget = s.alloc.budget ∧
    (s.priceReport p e register).alloc.gridCap = s.alloc.gridCap ∧
    (s.priceReport p e register).alloc.stagedGridCap = s.alloc.stagedGridCap ∧
    (s.priceReport p e register).alloc.pointer = s.alloc.pointer ∧
    (s.priceReport p e register).alloc.periodTimer = s.alloc.periodTimer ∧ (s.priceReport p e register).prot = s.prot ∧
    (s.priceReport p e register).field.can = s.field.can ∧ (s.priceReport p e register).field.buffer = s.field.buffer ∧
    (s.priceReport p e register).field.fieldTx = s.field.fieldTx ∧
    (s.priceReport p e register).host.receiver = s.host.receiver ∧
    (s.priceReport p e register).host.requests = s.host.requests ∧
    (s.priceReport p e register).host.restartAfter = s.host.restartAfter ∧
    (s.priceReport p e register).host.hostTx = s.host.hostTx ∧ (s.priceReport p e register).clock = s.clock ∧
    (s.priceReport p e register).control = s.control ∧ (∀ n, (s.priceReport p e register).tariff n = s.tariff n) ∧
    (s.priceReport p e register).params = s.params ∧ (∀ q, (s.priceReport p e register).rating q = s.rating q) := by simp [State.priceReport]

/-- What `takeMeter` leaves alone. -/
@[simp] theorem takeMeter_frame (s : State) (p : Pedestal) (register : Nat) :
    (s.takeMeter p register).pending = s.pending ∧ (s.takeMeter p register).now = s.now ∧
    (s.takeMeter p register).nextSession = s.nextSession ∧ (s.takeMeter p register).exhausted = s.exhausted ∧
    (s.takeMeter p register).tariffs = s.tariffs ∧ (s.takeMeter p register).settlements = s.settlements ∧
    (s.takeMeter p register).alloc.pAv = s.alloc.pAv ∧ (s.takeMeter p register).alloc.budget = s.alloc.budget ∧
    (s.takeMeter p register).alloc.gridCap = s.alloc.gridCap ∧
    (s.takeMeter p register).alloc.stagedGridCap = s.alloc.stagedGridCap ∧
    (s.takeMeter p register).alloc.pointer = s.alloc.pointer ∧
    (s.takeMeter p register).alloc.periodTimer = s.alloc.periodTimer ∧ (s.takeMeter p register).prot = s.prot ∧
    (s.takeMeter p register).field.can = s.field.can ∧ (s.takeMeter p register).field.buffer = s.field.buffer ∧
    (s.takeMeter p register).field.fieldTx = s.field.fieldTx ∧ (s.takeMeter p register).host.receiver = s.host.receiver ∧
    (s.takeMeter p register).host.requests = s.host.requests ∧
    (s.takeMeter p register).host.restartAfter = s.host.restartAfter ∧ (s.takeMeter p register).host.hostTx = s.host.hostTx ∧
    (s.takeMeter p register).clock = s.clock ∧ (s.takeMeter p register).control = s.control ∧
    (∀ n, (s.takeMeter p register).tariff n = s.tariff n) ∧
    (s.takeMeter p register).params = s.params ∧ (∀ q, (s.takeMeter p register).rating q = s.rating q) := by unfold State.takeMeter; simp only []; (repeat' split) <;> first | (simp; done) | simp [State.slot, State.link,
    State.allot, State.module, State.tariff, State.params, State.rating]

/-- What `chargeSession` leaves alone. -/
@[simp] theorem chargeSession_frame (s : State) (p : Pedestal) :
    (s.chargeSession p).pending = s.pending ∧ (s.chargeSession p).now = s.now ∧
    (s.chargeSession p).nextSession = s.nextSession ∧ (s.chargeSession p).exhausted = s.exhausted ∧
    (s.chargeSession p).tariffs = s.tariffs ∧ (s.chargeSession p).settlements = s.settlements ∧
    (s.chargeSession p).alloc.pAv = s.alloc.pAv ∧ (s.chargeSession p).alloc.budget = s.alloc.budget ∧
    (s.chargeSession p).alloc.gridCap = s.alloc.gridCap ∧ (s.chargeSession p).alloc.stagedGridCap = s.alloc.stagedGridCap ∧
    (s.chargeSession p).alloc.pointer = s.alloc.pointer ∧ (s.chargeSession p).alloc.periodTimer = s.alloc.periodTimer ∧
    (s.chargeSession p).prot = s.prot ∧ (s.chargeSession p).field.can = s.field.can ∧
    (s.chargeSession p).field.buffer = s.field.buffer ∧ (s.chargeSession p).field.links = s.field.links ∧
    (s.chargeSession p).field.fieldTx = s.field.fieldTx ∧ (s.chargeSession p).host.receiver = s.host.receiver ∧
    (s.chargeSession p).host.requests = s.host.requests ∧ (s.chargeSession p).host.restartAfter = s.host.restartAfter ∧
    (s.chargeSession p).host.hostTx = s.host.hostTx ∧ (s.chargeSession p).clock = s.clock ∧
    (s.chargeSession p).control = s.control ∧ (∀ q, (s.chargeSession p).link q = s.link q) ∧
    (∀ n, (s.chargeSession p).tariff n = s.tariff n) ∧
    (s.chargeSession p).params = s.params ∧ (∀ q, (s.chargeSession p).rating q = s.rating q) := by unfold State.chargeSession; simp only []; (repeat' split) <;> first | (simp; done) | simp [State.slot, State.link,
    State.allot, State.module, State.tariff, State.params, State.rating]

/-- What `addCutoff` leaves alone. -/
@[simp] theorem addCutoff_frame (s : State) :
    (s.addCutoff).pending = s.pending ∧ (s.addCutoff).now = s.now ∧ (s.addCutoff).nextSession = s.nextSession ∧
    (s.addCutoff).exhausted = s.exhausted ∧ (s.addCutoff).tariffs = s.tariffs ∧ (s.addCutoff).settlements = s.settlements ∧
    (s.addCutoff).alloc.pAv = s.alloc.pAv ∧ (s.addCutoff).alloc.budget = s.alloc.budget ∧
    (s.addCutoff).alloc.gridCap = s.alloc.gridCap ∧ (s.addCutoff).alloc.stagedGridCap = s.alloc.stagedGridCap ∧
    (s.addCutoff).alloc.pointer = s.alloc.pointer ∧ (s.addCutoff).alloc.periodTimer = s.alloc.periodTimer ∧
    (s.addCutoff).prot = s.prot ∧ (s.addCutoff).field.can = s.field.can ∧ (s.addCutoff).field.buffer = s.field.buffer ∧
    (s.addCutoff).field.links = s.field.links ∧ (s.addCutoff).field.fieldTx = s.field.fieldTx ∧
    (s.addCutoff).host.receiver = s.host.receiver ∧ (s.addCutoff).host.requests = s.host.requests ∧
    (s.addCutoff).host.restartAfter = s.host.restartAfter ∧ (s.addCutoff).host.hostTx = s.host.hostTx ∧
    (s.addCutoff).clock = s.clock ∧ (s.addCutoff).control = s.control ∧ (∀ q, (s.addCutoff).link q = s.link q) ∧
    (∀ n, (s.addCutoff).tariff n = s.tariff n) ∧
    (s.addCutoff).params = s.params ∧ (∀ q, (s.addCutoff).rating q = s.rating q) := by
  unfold State.addCutoff; generalize allPedestals = l
  induction l generalizing s with
  | nil => simp
  | cons a l ih => simp [ih]

/-- What `removeCutoffAt` leaves alone. -/
@[simp] theorem removeCutoffAt_frame (s : State) (p : Pedestal) :
    (s.removeCutoffAt p).pending = s.pending ∧ (s.removeCutoffAt p).now = s.now ∧
    (s.removeCutoffAt p).nextSession = s.nextSession ∧ (s.removeCutoffAt p).exhausted = s.exhausted ∧
    (s.removeCutoffAt p).tariffs = s.tariffs ∧ (s.removeCutoffAt p).settlements = s.settlements ∧
    (s.removeCutoffAt p).alloc = s.alloc ∧ (s.removeCutoffAt p).modules = s.modules ∧ (s.removeCutoffAt p).prot = s.prot ∧
    (s.removeCutoffAt p).field = s.field ∧ (s.removeCutoffAt p).host.receiver = s.host.receiver ∧
    (s.removeCutoffAt p).host.requests = s.host.requests ∧ (s.removeCutoffAt p).host.restartAfter = s.host.restartAfter ∧
    (s.removeCutoffAt p).host.hostTx = s.host.hostTx ∧ (s.removeCutoffAt p).clock = s.clock ∧
    (s.removeCutoffAt p).control = s.control ∧ (∀ q, (s.removeCutoffAt p).link q = s.link q) ∧
    (∀ q, (s.removeCutoffAt p).allot q = s.allot q) ∧ (∀ m, (s.removeCutoffAt p).module m = s.module m) ∧
    (∀ n, (s.removeCutoffAt p).tariff n = s.tariff n) ∧
    (s.removeCutoffAt p).params = s.params ∧ (∀ q, (s.removeCutoffAt p).rating q = s.rating q) := by
  unfold State.removeCutoffAt; try simp only []
  (repeat' split) <;> first | (simp; done) | simp [State.slot, State.link, State.allot, State.module, State.tariff, State.params, State.rating]

/-- What `removeCutoff` leaves alone. -/
@[simp] theorem removeCutoff_frame (s : State) :
    (s.removeCutoff).pending = s.pending ∧ (s.removeCutoff).now = s.now ∧ (s.removeCutoff).nextSession = s.nextSession ∧
    (s.removeCutoff).exhausted = s.exhausted ∧ (s.removeCutoff).tariffs = s.tariffs ∧
    (s.removeCutoff).settlements = s.settlements ∧ (s.removeCutoff).alloc = s.alloc ∧ (s.removeCutoff).modules = s.modules ∧
    (s.removeCutoff).prot = s.prot ∧ (s.removeCutoff).field = s.field ∧ (s.removeCutoff).host.receiver = s.host.receiver ∧
    (s.removeCutoff).host.requests = s.host.requests ∧ (s.removeCutoff).host.restartAfter = s.host.restartAfter ∧
    (s.removeCutoff).host.hostTx = s.host.hostTx ∧ (s.removeCutoff).clock = s.clock ∧ (s.removeCutoff).control = s.control ∧
    (∀ q, (s.removeCutoff).link q = s.link q) ∧ (∀ q, (s.removeCutoff).allot q = s.allot q) ∧
    (∀ m, (s.removeCutoff).module m = s.module m) ∧ (∀ n, (s.removeCutoff).tariff n = s.tariff n) ∧
    (s.removeCutoff).params = s.params ∧ (∀ q, (s.removeCutoff).rating q = s.rating q) := by
  unfold State.removeCutoff; generalize allPedestals = l
  induction l generalizing s with
  | nil => simp
  | cons a l ih => simp [ih]

/-- What `setFilter` leaves alone. -/
@[simp] theorem setFilter_frame (s : State) (line : SafetyLine) (f : LineFilter) :
    (s.setFilter line f).pending = s.pending ∧ (s.setFilter line f).now = s.now ∧ (s.setFilter line f).slots = s.slots ∧
    (s.setFilter line f).nextSession = s.nextSession ∧ (s.setFilter line f).exhausted = s.exhausted ∧
    (s.setFilter line f).tariffs = s.tariffs ∧ (s.setFilter line f).settlements = s.settlements ∧
    (s.setFilter line f).alloc = s.alloc ∧ (s.setFilter line f).modules = s.modules ∧
    (s.setFilter line f).prot.latch = s.prot.latch ∧ (s.setFilter line f).prot.sources = s.prot.sources ∧
    (s.setFilter line f).prot.settling = s.prot.settling ∧ (s.setFilter line f).prot.live = s.prot.live ∧
    (s.setFilter line f).prot.derate = s.prot.derate ∧ (s.setFilter line f).prot.recoveryHold = s.prot.recoveryHold ∧
    (s.setFilter line f).prot.silence = s.prot.silence ∧ (s.setFilter line f).field = s.field ∧
    (s.setFilter line f).host = s.host ∧ (s.setFilter line f).notices = s.notices ∧ (s.setFilter line f).clock = s.clock ∧
    (s.setFilter line f).control = s.control ∧ (∀ q, (s.setFilter line f).slot q = s.slot q) ∧
    (∀ q, (s.setFilter line f).link q = s.link q) ∧ (∀ q, (s.setFilter line f).allot q = s.allot q) ∧
    (∀ m, (s.setFilter line f).module m = s.module m) ∧ (∀ n, (s.setFilter line f).tariff n = s.tariff n) ∧
    (s.setFilter line f).params = s.params ∧ (∀ q, (s.setFilter line f).rating q = s.rating q) := by cases line <;> simp [State.setFilter] <;> exact ⟨fun _ => rfl, fun _ => rfl, fun _ => rfl, fun _ => rfl, fun _ =>
    rfl, rfl, fun _ => rfl⟩

/-- What `clearCutoff` leaves alone. -/
@[simp] theorem clearCutoff_frame (s : State) :
    (s.clearCutoff).pending = s.pending ∧ (s.clearCutoff).now = s.now ∧ (s.clearCutoff).nextSession = s.nextSession ∧
    (s.clearCutoff).exhausted = s.exhausted ∧ (s.clearCutoff).tariffs = s.tariffs ∧
    (s.clearCutoff).settlements = s.settlements ∧ (s.clearCutoff).alloc = s.alloc ∧ (s.clearCutoff).modules = s.modules ∧
    (s.clearCutoff).prot.estop = s.prot.estop ∧ (s.clearCutoff).prot.trip = s.prot.trip ∧
    (s.clearCutoff).prot.settling = s.prot.settling ∧ (s.clearCutoff).prot.live = s.prot.live ∧
    (s.clearCutoff).prot.derate = s.prot.derate ∧ (s.clearCutoff).prot.recoveryHold = s.prot.recoveryHold ∧
    (s.clearCutoff).prot.silence = s.prot.silence ∧ (s.clearCutoff).field = s.field ∧
    (s.clearCutoff).host.receiver = s.host.receiver ∧ (s.clearCutoff).host.requests = s.host.requests ∧
    (s.clearCutoff).host.restartAfter = s.host.restartAfter ∧ (s.clearCutoff).host.hostTx = s.host.hostTx ∧
    (s.clearCutoff).clock = s.clock ∧ (s.clearCutoff).control = s.control ∧ (∀ q, (s.clearCutoff).link q = s.link q) ∧
    (∀ q, (s.clearCutoff).allot q = s.allot q) ∧ (∀ m, (s.clearCutoff).module m = s.module m) ∧
    (∀ n, (s.clearCutoff).tariff n = s.tariff n) ∧
    (s.clearCutoff).params = s.params ∧ (∀ q, (s.clearCutoff).rating q = s.rating q) := by unfold State.clearCutoff; simp only []; (repeat' split) <;> first | (simp; done) | simp [State.slot, State.link,
    State.allot, State.module, State.tariff, State.params, State.rating]

/-- What `lineAsserted` leaves alone. -/
@[simp] theorem lineAsserted_frame (s : State) (line : SafetyLine) :
    (s.lineAsserted line).pending = s.pending ∧ (s.lineAsserted line).now = s.now ∧
    (s.lineAsserted line).nextSession = s.nextSession ∧ (s.lineAsserted line).exhausted = s.exhausted ∧
    (s.lineAsserted line).tariffs = s.tariffs ∧ (s.lineAsserted line).settlements = s.settlements ∧
    (s.lineAsserted line).alloc.gridCap = s.alloc.gridCap ∧ (s.lineAsserted line).alloc.stagedGridCap = s.alloc.stagedGridCap ∧
    (s.lineAsserted line).alloc.pointer = s.alloc.pointer ∧ (s.lineAsserted line).alloc.periodTimer = s.alloc.periodTimer ∧
    (s.lineAsserted line).prot.estop = s.prot.estop ∧ (s.lineAsserted line).prot.trip = s.prot.trip ∧
    (s.lineAsserted line).prot.settling = s.prot.settling ∧ (s.lineAsserted line).prot.live = s.prot.live ∧
    (s.lineAsserted line).prot.derate = s.prot.derate ∧ (s.lineAsserted line).prot.recoveryHold = s.prot.recoveryHold ∧
    (s.lineAsserted line).prot.silence = s.prot.silence ∧ (s.lineAsserted line).field.can = s.field.can ∧
    (s.lineAsserted line).field.buffer = s.field.buffer ∧ (s.lineAsserted line).field.links = s.field.links ∧
    (s.lineAsserted line).field.fieldTx = s.field.fieldTx ∧ (s.lineAsserted line).host.receiver = s.host.receiver ∧
    (s.lineAsserted line).host.requests = s.host.requests ∧ (s.lineAsserted line).host.restartAfter = s.host.restartAfter ∧
    (s.lineAsserted line).host.hostTx = s.host.hostTx ∧ (s.lineAsserted line).clock = s.clock ∧
    (s.lineAsserted line).control = s.control ∧ (∀ q, (s.lineAsserted line).link q = s.link q) ∧
    (∀ n, (s.lineAsserted line).tariff n = s.tariff n) ∧
    (s.lineAsserted line).params = s.params ∧ (∀ q, (s.lineAsserted line).rating q = s.rating q) := by unfold State.lineAsserted; simp only []; (repeat' split) <;> first | (simp; done) | simp [State.slot, State.link,
    State.allot, State.module, State.tariff, State.params, State.rating]

/-- What `lowReading` leaves alone. -/
@[simp] theorem lowReading_frame (s : State) :
    (s.lowReading).pending = s.pending ∧ (s.lowReading).now = s.now ∧ (s.lowReading).slots = s.slots ∧
    (s.lowReading).nextSession = s.nextSession ∧ (s.lowReading).exhausted = s.exhausted ∧ (s.lowReading).tariffs = s.tariffs ∧
    (s.lowReading).settlements = s.settlements ∧ (s.lowReading).alloc.gridCap = s.alloc.gridCap ∧
    (s.lowReading).alloc.stagedGridCap = s.alloc.stagedGridCap ∧ (s.lowReading).alloc.pointer = s.alloc.pointer ∧
    (s.lowReading).alloc.periodTimer = s.alloc.periodTimer ∧ (s.lowReading).prot.estop = s.prot.estop ∧
    (s.lowReading).prot.trip = s.prot.trip ∧ (s.lowReading).prot.latch = s.prot.latch ∧
    (s.lowReading).prot.sources = s.prot.sources ∧ (s.lowReading).prot.settling = s.prot.settling ∧
    (s.lowReading).prot.silence = s.prot.silence ∧ (s.lowReading).field.can = s.field.can ∧
    (s.lowReading).field.buffer = s.field.buffer ∧ (s.lowReading).field.links = s.field.links ∧
    (s.lowReading).field.fieldTx = s.field.fieldTx ∧ (s.lowReading).host.receiver = s.host.receiver ∧
    (s.lowReading).host.requests = s.host.requests ∧ (s.lowReading).host.restartAfter = s.host.restartAfter ∧
    (s.lowReading).host.hostTx = s.host.hostTx ∧ (s.lowReading).clock = s.clock ∧ (s.lowReading).control = s.control ∧
    (∀ q, (s.lowReading).slot q = s.slot q) ∧ (∀ q, (s.lowReading).link q = s.link q) ∧
    (∀ n, (s.lowReading).tariff n = s.tariff n) ∧
    (s.lowReading).params = s.params ∧ (∀ q, (s.lowReading).rating q = s.rating q) := by unfold State.lowReading; simp only []; (repeat' split) <;> first | (simp; done) | simp [State.slot, State.link,
    State.allot, State.module, State.tariff, State.params, State.rating]

/-- What `normalReading` leaves alone. -/
@[simp] theorem normalReading_frame (s : State) :
    (s.normalReading).pending = s.pending ∧ (s.normalReading).now = s.now ∧ (s.normalReading).slots = s.slots ∧
    (s.normalReading).nextSession = s.nextSession ∧ (s.normalReading).exhausted = s.exhausted ∧
    (s.normalReading).tariffs = s.tariffs ∧ (s.normalReading).settlements = s.settlements ∧ (s.normalReading).alloc = s.alloc ∧
    (s.normalReading).modules = s.modules ∧ (s.normalReading).prot.estop = s.prot.estop ∧
    (s.normalReading).prot.trip = s.prot.trip ∧ (s.normalReading).prot.latch = s.prot.latch ∧
    (s.normalReading).prot.sources = s.prot.sources ∧ (s.normalReading).prot.settling = s.prot.settling ∧
    (s.normalReading).prot.derate = s.prot.derate ∧ (s.normalReading).prot.silence = s.prot.silence ∧
    (s.normalReading).field = s.field ∧ (s.normalReading).host = s.host ∧ (s.normalReading).notices = s.notices ∧
    (s.normalReading).clock = s.clock ∧ (s.normalReading).control = s.control ∧ (∀ q, (s.normalReading).slot q = s.slot q) ∧
    (∀ q, (s.normalReading).link q = s.link q) ∧ (∀ q, (s.normalReading).allot q = s.allot q) ∧
    (∀ m, (s.normalReading).module m = s.module m) ∧ (∀ n, (s.normalReading).tariff n = s.tariff n) ∧
    (s.normalReading).params = s.params ∧ (∀ q, (s.normalReading).rating q = s.rating q) := by unfold State.normalReading; simp only []; (repeat' split) <;> first | (simp; done) | simp [State.slot, State.link,
    State.allot, State.module, State.tariff, State.params, State.rating]

/-- What `takeVolts` leaves alone. -/
@[simp] theorem takeVolts_frame (s : State) (reading : Nat) :
    (s.takeVolts reading).pending = s.pending ∧ (s.takeVolts reading).now = s.now ∧ (s.takeVolts reading).slots = s.slots ∧
    (s.takeVolts reading).nextSession = s.nextSession ∧ (s.takeVolts reading).exhausted = s.exhausted ∧
    (s.takeVolts reading).tariffs = s.tariffs ∧ (s.takeVolts reading).settlements = s.settlements ∧
    (s.takeVolts reading).alloc.gridCap = s.alloc.gridCap ∧ (s.takeVolts reading).alloc.stagedGridCap = s.alloc.stagedGridCap ∧
    (s.takeVolts reading).alloc.pointer = s.alloc.pointer ∧ (s.takeVolts reading).alloc.periodTimer = s.alloc.periodTimer ∧
    (s.takeVolts reading).prot.estop = s.prot.estop ∧ (s.takeVolts reading).prot.trip = s.prot.trip ∧
    (s.takeVolts reading).prot.latch = s.prot.latch ∧ (s.takeVolts reading).prot.sources = s.prot.sources ∧
    (s.takeVolts reading).field.can = s.field.can ∧ (s.takeVolts reading).field.buffer = s.field.buffer ∧
    (s.takeVolts reading).field.links = s.field.links ∧ (s.takeVolts reading).field.fieldTx = s.field.fieldTx ∧
    (s.takeVolts reading).host.receiver = s.host.receiver ∧ (s.takeVolts reading).host.requests = s.host.requests ∧
    (s.takeVolts reading).host.restartAfter = s.host.restartAfter ∧ (s.takeVolts reading).host.hostTx = s.host.hostTx ∧
    (s.takeVolts reading).clock = s.clock ∧ (s.takeVolts reading).control = s.control ∧
    (∀ q, (s.takeVolts reading).slot q = s.slot q) ∧ (∀ q, (s.takeVolts reading).link q = s.link q) ∧
    (∀ n, (s.takeVolts reading).tariff n = s.tariff n) ∧
    (s.takeVolts reading).params = s.params ∧ (∀ q, (s.takeVolts reading).rating q = s.rating q) := by unfold State.takeVolts; simp only []; (repeat' split) <;> first | (simp; done) | simp [State.slot, State.link,
    State.allot, State.module, State.tariff, State.params, State.rating]

/-- What `meterSilent` leaves alone. -/
@[simp] theorem meterSilent_frame (s : State) :
    (s.meterSilent).pending = s.pending ∧ (s.meterSilent).now = s.now ∧ (s.meterSilent).slots = s.slots ∧
    (s.meterSilent).nextSession = s.nextSession ∧ (s.meterSilent).exhausted = s.exhausted ∧
    (s.meterSilent).tariffs = s.tariffs ∧ (s.meterSilent).settlements = s.settlements ∧
    (s.meterSilent).alloc.gridCap = s.alloc.gridCap ∧ (s.meterSilent).alloc.stagedGridCap = s.alloc.stagedGridCap ∧
    (s.meterSilent).alloc.pointer = s.alloc.pointer ∧ (s.meterSilent).alloc.periodTimer = s.alloc.periodTimer ∧
    (s.meterSilent).prot.estop = s.prot.estop ∧ (s.meterSilent).prot.trip = s.prot.trip ∧
    (s.meterSilent).prot.latch = s.prot.latch ∧ (s.meterSilent).prot.sources = s.prot.sources ∧
    (s.meterSilent).prot.settling = s.prot.settling ∧ (s.meterSilent).field.can = s.field.can ∧
    (s.meterSilent).field.buffer = s.field.buffer ∧ (s.meterSilent).field.links = s.field.links ∧
    (s.meterSilent).field.fieldTx = s.field.fieldTx ∧ (s.meterSilent).host.receiver = s.host.receiver ∧
    (s.meterSilent).host.requests = s.host.requests ∧ (s.meterSilent).host.restartAfter = s.host.restartAfter ∧
    (s.meterSilent).host.hostTx = s.host.hostTx ∧ (s.meterSilent).clock = s.clock ∧ (s.meterSilent).control = s.control ∧
    (∀ q, (s.meterSilent).slot q = s.slot q) ∧ (∀ q, (s.meterSilent).link q = s.link q) ∧
    (∀ n, (s.meterSilent).tariff n = s.tariff n) ∧
    (s.meterSilent).params = s.params ∧ (∀ q, (s.meterSilent).rating q = s.rating q) := by unfold State.meterSilent; simp only []; (repeat' split) <;> first | (simp; done) | simp [State.slot, State.link,
    State.allot, State.module, State.tariff, State.params, State.rating]

/-- What `advanceEpoch` leaves alone. -/
@[simp] theorem advanceEpoch_frame (s : State) (p : Pedestal) :
    (s.advanceEpoch p).pending = s.pending ∧ (s.advanceEpoch p).now = s.now ∧ (s.advanceEpoch p).slots = s.slots ∧
    (s.advanceEpoch p).nextSession = s.nextSession ∧ (s.advanceEpoch p).exhausted = s.exhausted ∧
    (s.advanceEpoch p).tariffs = s.tariffs ∧ (s.advanceEpoch p).settlements = s.settlements ∧
    (s.advanceEpoch p).alloc = s.alloc ∧ (s.advanceEpoch p).modules = s.modules ∧ (s.advanceEpoch p).prot = s.prot ∧
    (s.advanceEpoch p).field.can = s.field.can ∧ (s.advanceEpoch p).field.queue = s.field.queue ∧
    (s.advanceEpoch p).field.buffer = s.field.buffer ∧ (s.advanceEpoch p).field.fieldTx = s.field.fieldTx ∧
    (s.advanceEpoch p).host = s.host ∧ (s.advanceEpoch p).notices = s.notices ∧ (s.advanceEpoch p).clock = s.clock ∧
    (s.advanceEpoch p).control = s.control ∧ (∀ q, (s.advanceEpoch p).slot q = s.slot q) ∧
    (∀ q, (s.advanceEpoch p).allot q = s.allot q) ∧ (∀ m, (s.advanceEpoch p).module m = s.module m) ∧
    (∀ n, (s.advanceEpoch p).tariff n = s.tariff n) ∧
    (s.advanceEpoch p).params = s.params ∧ (∀ q, (s.advanceEpoch p).rating q = s.rating q) := by
  unfold State.advanceEpoch; try simp only []
  (repeat' split) <;> first | (simp; done) | simp [State.slot, State.link, State.allot, State.module, State.tariff, State.params, State.rating]

/-- What `takeRestarted` leaves alone. -/
@[simp] theorem takeRestarted_frame (s : State) (p : Pedestal) (plugged : Bool) :
    (s.takeRestarted p plugged).pending = s.pending ∧ (s.takeRestarted p plugged).now = s.now ∧
    (s.takeRestarted p plugged).nextSession = s.nextSession ∧ (s.takeRestarted p plugged).exhausted = s.exhausted ∧
    (s.takeRestarted p plugged).alloc.pAv = s.alloc.pAv ∧ (s.takeRestarted p plugged).alloc.budget = s.alloc.budget ∧
    (s.takeRestarted p plugged).alloc.gridCap = s.alloc.gridCap ∧
    (s.takeRestarted p plugged).alloc.stagedGridCap = s.alloc.stagedGridCap ∧
    (s.takeRestarted p plugged).alloc.pointer = s.alloc.pointer ∧
    (s.takeRestarted p plugged).alloc.periodTimer = s.alloc.periodTimer ∧ (s.takeRestarted p plugged).prot = s.prot ∧
    (s.takeRestarted p plugged).field.can = s.field.can ∧ (s.takeRestarted p plugged).field.buffer = s.field.buffer ∧
    (s.takeRestarted p plugged).field.fieldTx = s.field.fieldTx ∧ (s.takeRestarted p plugged).host.receiver = s.host.receiver ∧
    (s.takeRestarted p plugged).host.requests = s.host.requests ∧
    (s.takeRestarted p plugged).host.restartAfter = s.host.restartAfter ∧
    (s.takeRestarted p plugged).host.hostTx = s.host.hostTx ∧ (s.takeRestarted p plugged).clock.day = s.clock.day ∧
    (s.takeRestarted p plugged).clock.minute = s.clock.minute ∧ (s.takeRestarted p plugged).clock.zeroAt = s.clock.zeroAt ∧
    (s.takeRestarted p plugged).clock.valid = s.clock.valid ∧ (s.takeRestarted p plugged).control = s.control ∧
    (s.takeRestarted p plugged).params = s.params ∧ (∀ q, (s.takeRestarted p plugged).rating q = s.rating q) := by simp [State.takeRestarted]

/-- What `takeAnswer` leaves alone. -/
@[simp] theorem takeAnswer_frame (s : State) (p : Pedestal) (epoch : Nat) (code : Byte) (data : List Byte) :
    (s.takeAnswer p epoch code data).pending = s.pending ∧ (s.takeAnswer p epoch code data).now = s.now ∧
    (s.takeAnswer p epoch code data).slots = s.slots ∧ (s.takeAnswer p epoch code data).nextSession = s.nextSession ∧
    (s.takeAnswer p epoch code data).exhausted = s.exhausted ∧ (s.takeAnswer p epoch code data).tariffs = s.tariffs ∧
    (s.takeAnswer p epoch code data).settlements = s.settlements ∧ (s.takeAnswer p epoch code data).alloc = s.alloc ∧
    (s.takeAnswer p epoch code data).modules = s.modules ∧ (s.takeAnswer p epoch code data).prot = s.prot ∧
    (s.takeAnswer p epoch code data).field.can = s.field.can ∧ (s.takeAnswer p epoch code data).field.queue = s.field.queue ∧
    (s.takeAnswer p epoch code data).field.buffer = s.field.buffer ∧
    (s.takeAnswer p epoch code data).field.fieldTx = s.field.fieldTx ∧
    (s.takeAnswer p epoch code data).host.receiver = s.host.receiver ∧
    (s.takeAnswer p epoch code data).host.requests = s.host.requests ∧
    (s.takeAnswer p epoch code data).host.restartAfter = s.host.restartAfter ∧
    (s.takeAnswer p epoch code data).host.hostTx = s.host.hostTx ∧ (s.takeAnswer p epoch code data).notices = s.notices ∧
    (s.takeAnswer p epoch code data).clock = s.clock ∧ (s.takeAnswer p epoch code data).control = s.control ∧
    (∀ q, (s.takeAnswer p epoch code data).slot q = s.slot q) ∧ (∀ q, (s.takeAnswer p epoch code data).allot q = s.allot q) ∧
    (∀ m, (s.takeAnswer p epoch code data).module m = s.module m) ∧
    (∀ n, (s.takeAnswer p epoch code data).tariff n = s.tariff n) ∧
    (s.takeAnswer p epoch code data).params = s.params ∧ (∀ q, (s.takeAnswer p epoch code data).rating q = s.rating q) := by
  unfold State.takeAnswer; try simp only []
  (repeat' split) <;> first | (simp; done) | simp [State.slot, State.link, State.allot, State.module, State.tariff, State.params, State.rating]

/-- What `heardFrom` leaves alone. -/
@[simp] theorem heardFrom_frame (s : State) (p : Pedestal) :
    (s.heardFrom p).pending = s.pending ∧ (s.heardFrom p).now = s.now ∧ (s.heardFrom p).nextSession = s.nextSession ∧
    (s.heardFrom p).exhausted = s.exhausted ∧ (s.heardFrom p).tariffs = s.tariffs ∧
    (s.heardFrom p).settlements = s.settlements ∧ (s.heardFrom p).alloc = s.alloc ∧ (s.heardFrom p).modules = s.modules ∧
    (s.heardFrom p).prot = s.prot ∧ (s.heardFrom p).field.can = s.field.can ∧ (s.heardFrom p).field.queue = s.field.queue ∧
    (s.heardFrom p).field.buffer = s.field.buffer ∧ (s.heardFrom p).field.fieldTx = s.field.fieldTx ∧
    (s.heardFrom p).host = s.host ∧ (s.heardFrom p).notices = s.notices ∧ (s.heardFrom p).clock = s.clock ∧
    (s.heardFrom p).control = s.control ∧ (∀ q, (s.heardFrom p).allot q = s.allot q) ∧
    (∀ m, (s.heardFrom p).module m = s.module m) ∧ (∀ n, (s.heardFrom p).tariff n = s.tariff n) ∧
    (s.heardFrom p).params = s.params ∧ (∀ q, (s.heardFrom p).rating q = s.rating q) := by unfold State.heardFrom; simp only []; split <;> simp

/-- What `heardAndJudged` leaves alone. -/
@[simp] theorem heardAndJudged_frame (s : State) (p : Pedestal) :
    (s.heardAndJudged p).pending = s.pending ∧ (s.heardAndJudged p).now = s.now ∧
    (s.heardAndJudged p).nextSession = s.nextSession ∧ (s.heardAndJudged p).exhausted = s.exhausted ∧
    (s.heardAndJudged p).tariffs = s.tariffs ∧ (s.heardAndJudged p).settlements = s.settlements ∧
    (s.heardAndJudged p).alloc = s.alloc ∧ (s.heardAndJudged p).modules = s.modules ∧ (s.heardAndJudged p).prot = s.prot ∧
    (s.heardAndJudged p).field.can = s.field.can ∧ (s.heardAndJudged p).field.queue = s.field.queue ∧
    (s.heardAndJudged p).field.buffer = s.field.buffer ∧ (s.heardAndJudged p).field.fieldTx = s.field.fieldTx ∧
    (s.heardAndJudged p).host.receiver = s.host.receiver ∧ (s.heardAndJudged p).host.requests = s.host.requests ∧
    (s.heardAndJudged p).host.restartAfter = s.host.restartAfter ∧ (s.heardAndJudged p).host.hostTx = s.host.hostTx ∧
    (s.heardAndJudged p).clock = s.clock ∧ (s.heardAndJudged p).control = s.control ∧
    (∀ q, (s.heardAndJudged p).allot q = s.allot q) ∧ (∀ m, (s.heardAndJudged p).module m = s.module m) ∧
    (∀ n, (s.heardAndJudged p).tariff n = s.tariff n) ∧
    (s.heardAndJudged p).params = s.params ∧ (∀ q, (s.heardAndJudged p).rating q = s.rating q) := by
  unfold State.heardAndJudged; try simp only []
  (repeat' split) <;> first | (simp; done) | simp [State.slot, State.link, State.allot, State.module, State.tariff, State.params, State.rating]

/-- What `heardMeter` leaves alone. -/
@[simp] theorem heardMeter_frame (s : State) (p : Pedestal) (register : Nat) :
    (s.heardMeter p register).pending = s.pending ∧ (s.heardMeter p register).now = s.now ∧
    (s.heardMeter p register).nextSession = s.nextSession ∧ (s.heardMeter p register).exhausted = s.exhausted ∧
    (s.heardMeter p register).tariffs = s.tariffs ∧ (s.heardMeter p register).settlements = s.settlements ∧
    (s.heardMeter p register).alloc.pAv = s.alloc.pAv ∧ (s.heardMeter p register).alloc.budget = s.alloc.budget ∧
    (s.heardMeter p register).alloc.gridCap = s.alloc.gridCap ∧
    (s.heardMeter p register).alloc.stagedGridCap = s.alloc.stagedGridCap ∧
    (s.heardMeter p register).alloc.pointer = s.alloc.pointer ∧
    (s.heardMeter p register).alloc.periodTimer = s.alloc.periodTimer ∧ (s.heardMeter p register).prot = s.prot ∧
    (s.heardMeter p register).field.can = s.field.can ∧ (s.heardMeter p register).field.buffer = s.field.buffer ∧
    (s.heardMeter p register).field.fieldTx = s.field.fieldTx ∧ (s.heardMeter p register).host.receiver = s.host.receiver ∧
    (s.heardMeter p register).host.requests = s.host.requests ∧
    (s.heardMeter p register).host.restartAfter = s.host.restartAfter ∧ (s.heardMeter p register).host.hostTx = s.host.hostTx ∧
    (s.heardMeter p register).clock = s.clock ∧ (s.heardMeter p register).control = s.control ∧
    (∀ n, (s.heardMeter p register).tariff n = s.tariff n) ∧
    (s.heardMeter p register).params = s.params ∧ (∀ q, (s.heardMeter p register).rating q = s.rating q) := by unfold State.heardMeter; simp only []; split <;> simp

/-- What `goSilent` leaves alone. -/
@[simp] theorem goSilent_frame (s : State) (p : Pedestal) :
    (s.goSilent p).pending = s.pending ∧ (s.goSilent p).now = s.now ∧ (s.goSilent p).nextSession = s.nextSession ∧
    (s.goSilent p).exhausted = s.exhausted ∧ (s.goSilent p).tariffs = s.tariffs ∧ (s.goSilent p).settlements = s.settlements ∧
    (s.goSilent p).alloc.pAv = s.alloc.pAv ∧ (s.goSilent p).alloc.budget = s.alloc.budget ∧
    (s.goSilent p).alloc.gridCap = s.alloc.gridCap ∧ (s.goSilent p).alloc.stagedGridCap = s.alloc.stagedGridCap ∧
    (s.goSilent p).alloc.pointer = s.alloc.pointer ∧ (s.goSilent p).alloc.periodTimer = s.alloc.periodTimer ∧
    (s.goSilent p).prot = s.prot ∧ (s.goSilent p).field.can = s.field.can ∧ (s.goSilent p).field.buffer = s.field.buffer ∧
    (s.goSilent p).field.fieldTx = s.field.fieldTx ∧ (s.goSilent p).host.receiver = s.host.receiver ∧
    (s.goSilent p).host.requests = s.host.requests ∧ (s.goSilent p).host.restartAfter = s.host.restartAfter ∧
    (s.goSilent p).host.hostTx = s.host.hostTx ∧ (s.goSilent p).clock = s.clock ∧ (s.goSilent p).control = s.control ∧
    (∀ n, (s.goSilent p).tariff n = s.tariff n) ∧
    (s.goSilent p).params = s.params ∧ (∀ q, (s.goSilent p).rating q = s.rating q) := by simp [State.goSilent]

/-- What `takeContact` leaves alone. -/
@[simp] theorem takeContact_frame (s : State) (m : ModuleNo) (value : Contact) :
    (s.takeContact m value).pending = s.pending ∧ (s.takeContact m value).now = s.now ∧
    (s.takeContact m value).slots = s.slots ∧ (s.takeContact m value).nextSession = s.nextSession ∧
    (s.takeContact m value).exhausted = s.exhausted ∧ (s.takeContact m value).tariffs = s.tariffs ∧
    (s.takeContact m value).settlements = s.settlements ∧ (s.takeContact m value).alloc.pAv = s.alloc.pAv ∧
    (s.takeContact m value).alloc.budget = s.alloc.budget ∧ (s.takeContact m value).alloc.gridCap = s.alloc.gridCap ∧
    (s.takeContact m value).alloc.stagedGridCap = s.alloc.stagedGridCap ∧
    (s.takeContact m value).alloc.pointer = s.alloc.pointer ∧ (s.takeContact m value).alloc.periodTimer = s.alloc.periodTimer ∧
    (s.takeContact m value).prot = s.prot ∧ (s.takeContact m value).field.can = s.field.can ∧
    (s.takeContact m value).field.buffer = s.field.buffer ∧ (s.takeContact m value).field.links = s.field.links ∧
    (s.takeContact m value).field.fieldTx = s.field.fieldTx ∧ (s.takeContact m value).host.receiver = s.host.receiver ∧
    (s.takeContact m value).host.requests = s.host.requests ∧ (s.takeContact m value).host.restartAfter = s.host.restartAfter ∧
    (s.takeContact m value).host.hostTx = s.host.hostTx ∧ (s.takeContact m value).clock = s.clock ∧
    (s.takeContact m value).control = s.control ∧ (∀ q, (s.takeContact m value).slot q = s.slot q) ∧
    (∀ q, (s.takeContact m value).link q = s.link q) ∧ (∀ n, (s.takeContact m value).tariff n = s.tariff n) ∧
    (s.takeContact m value).params = s.params ∧ (∀ q, (s.takeContact m value).rating q = s.rating q) := by
  unfold State.takeContact; try simp only []
  (repeat' split) <;> first | (simp; done) | simp [State.slot, State.link, State.allot, State.module, State.tariff, State.params, State.rating]

/-- What `takeFault` leaves alone. -/
@[simp] theorem takeFault_frame (s : State) (m : ModuleNo) (code : Byte) :
    (s.takeFault m code).pending = s.pending ∧ (s.takeFault m code).now = s.now ∧ (s.takeFault m code).slots = s.slots ∧
    (s.takeFault m code).nextSession = s.nextSession ∧ (s.takeFault m code).exhausted = s.exhausted ∧
    (s.takeFault m code).tariffs = s.tariffs ∧ (s.takeFault m code).settlements = s.settlements ∧
    (s.takeFault m code).alloc.pAv = s.alloc.pAv ∧ (s.takeFault m code).alloc.budget = s.alloc.budget ∧
    (s.takeFault m code).alloc.gridCap = s.alloc.gridCap ∧ (s.takeFault m code).alloc.stagedGridCap = s.alloc.stagedGridCap ∧
    (s.takeFault m code).alloc.pointer = s.alloc.pointer ∧ (s.takeFault m code).alloc.periodTimer = s.alloc.periodTimer ∧
    (s.takeFault m code).prot = s.prot ∧ (s.takeFault m code).field.can = s.field.can ∧
    (s.takeFault m code).field.buffer = s.field.buffer ∧ (s.takeFault m code).field.links = s.field.links ∧
    (s.takeFault m code).field.fieldTx = s.field.fieldTx ∧ (s.takeFault m code).host.receiver = s.host.receiver ∧
    (s.takeFault m code).host.requests = s.host.requests ∧ (s.takeFault m code).host.restartAfter = s.host.restartAfter ∧
    (s.takeFault m code).host.hostTx = s.host.hostTx ∧ (s.takeFault m code).clock = s.clock ∧
    (s.takeFault m code).control = s.control ∧ (∀ q, (s.takeFault m code).slot q = s.slot q) ∧
    (∀ q, (s.takeFault m code).link q = s.link q) ∧ (∀ n, (s.takeFault m code).tariff n = s.tariff n) ∧
    (s.takeFault m code).params = s.params ∧ (∀ q, (s.takeFault m code).rating q = s.rating q) := by
  unfold State.takeFault; try simp only []
  (repeat' split) <;> first | (simp; done) | simp [State.slot, State.link, State.allot, State.module, State.tariff, State.params, State.rating]

/-- What `takeToken` leaves alone. -/
@[simp] theorem takeToken_frame (s : State) (p : Pedestal) (token : Token) :
    (s.takeToken p token).pending = s.pending ∧ (s.takeToken p token).now = s.now ∧
    (s.takeToken p token).nextSession = s.nextSession ∧ (s.takeToken p token).exhausted = s.exhausted ∧
    (s.takeToken p token).tariffs = s.tariffs ∧ (s.takeToken p token).settlements = s.settlements ∧
    (s.takeToken p token).alloc = s.alloc ∧ (s.takeToken p token).modules = s.modules ∧ (s.takeToken p token).prot = s.prot ∧
    (s.takeToken p token).field = s.field ∧ (s.takeToken p token).host.receiver = s.host.receiver ∧
    (s.takeToken p token).host.requests = s.host.requests ∧ (s.takeToken p token).host.restartAfter = s.host.restartAfter ∧
    (s.takeToken p token).host.hostTx = s.host.hostTx ∧ (s.takeToken p token).clock = s.clock ∧
    (s.takeToken p token).control = s.control ∧ (∀ q, (s.takeToken p token).link q = s.link q) ∧
    (∀ q, (s.takeToken p token).allot q = s.allot q) ∧ (∀ m, (s.takeToken p token).module m = s.module m) ∧
    (∀ n, (s.takeToken p token).tariff n = s.tariff n) ∧
    (s.takeToken p token).params = s.params ∧ (∀ q, (s.takeToken p token).rating q = s.rating q) := by
  unfold State.takeToken; try simp only []
  (repeat' split) <;> first | (simp; done) | simp [State.slot, State.link, State.allot, State.module, State.tariff, State.params, State.rating]

end Sys2Proof.Machine
end

