-- ==== Sys2Proof/Laws/Requests.lean ====
section
/-! SUPPORT. The taking of requests: what `takeRequest` does where the port takes the head, and where it takes nothing; and what the
reply adds. The meanings of the requests are read off these. -/

namespace Sys2Proof.Machine

/-- The part is live in the sense of the operations exactly when it is live in the sense of the statements. -/
theorem isLive_iff_Live (s : State) : s.isLive = true ↔ s.Live := by
  simp [State.isLive, State.Live]

/-- The head that the port takes. -/
theorem headRequest_eq_some (s : State) (r : HostRecord) : s.headRequest = some r ↔ s.AtHead r := by
  simp only [State.headRequest, State.takes, State.AtHead, Config.outputGate, ← isLive_iff_Live]
  simp [and_assoc]
  exact fun _ _ _ => ⟨of_decide_eq_true, decide_eq_true⟩

/-- The port takes nothing where no request is at the head of a taking port. -/
theorem headRequest_eq_none (s : State) (h : ∀ r, ¬ s.AtHead r) : s.headRequest = none := by
  cases h' : s.headRequest with
  | none => rfl
  | some r => exact absurd ((headRequest_eq_some s r).1 h') (h r)

/-- A request taken with the right length is its owner's, and the owner's answer is its reply. -/
theorem takeRequest_of_takes {k : RequestKind} {s : State} {r : HostRecord} (owner : HostRecord → State → Taken)
    (h : s.Takes k r) :
    takeRequest k s owner = .next ((owner r s.dropHead).1.reply r (owner r s.dropHead).2) := by
  obtain ⟨ha, hk, hl⟩ := h
  have hh := (headRequest_eq_some s r).2 ha
  simp [takeRequest, hh, hk, hl]

/-- A request of another kind at the head, or no request taken: nothing happens. -/
theorem takeRequest_of_untaken {k : RequestKind} {s : State} (owner : HostRecord → State → Taken)
    (h : ∀ r, s.AtHead r → r.kind ≠ k.code) : takeRequest k s owner = .next s := by
  unfold takeRequest
  cases hh : s.headRequest with
  | none => rfl
  | some r => simp [h r ((headRequest_eq_some s r).1 hh)]

/-- A refusal answers and changes nothing else. -/
theorem reply_of_refusal (s : State) (r : HostRecord) (code : ResultCode) (h : code ≠ .ok) :
    s.dropHead.reply r (some { code := code }) = s.answered r code [] := by
  simp [State.reply, State.answered, replyRecord, replyTo, h, leBytes, State.dropHead, State.setRequests, State.pushOutput]

/-- An OK reply, with its fields, joins the output's tail. -/
theorem reply_of_ok (s : State) (r : HostRecord) (fields : List Byte) :
    s.reply r (some { code := .ok, body := fields }) = s.pushOutput (replyTo r .ok fields) := by
  simp [State.reply, replyRecord, replyTo, leBytes]

/-- An OK reply to a request that changes nothing else. -/
theorem dropHead_reply_ok (s : State) (r : HostRecord) (fields : List Byte) :
    s.dropHead.reply r (some { code := .ok, body := fields }) = s.answered r .ok fields := by
  simp [reply_of_ok, State.answered, State.dropHead, State.setRequests, State.pushOutput]

end Sys2Proof.Machine
end

