-- ==== Sys2Proof/Laws/Effects.lean ====
section
/-! SUPPORT. What the shared operations do, said once: when an event is taken, what setting a status and changing a state add, which slot
holds a session number, and how far a share of the module budget reaches. -/

namespace Sys2Proof.Machine

/-! ### Numbers -/

/-- A pedestal is the one its number names. -/
@[simp] theorem pedestalOf_succ (p : Pedestal) : pedestalOf (p.val + 1) = some p := by
  have := p.isLt
  unfold pedestalOf
  rw [dif_pos (by omega)]
  rfl

/-- A module is the one its number names. -/
@[simp] theorem moduleOf_succ (m : ModuleNo) : moduleOf (m.val + 1) = some m := by
  have := m.isLt
  unfold moduleOf
  rw [dif_pos (by omega)]
  rfl

/-- A number names a pedestal only where it is the pedestal's. -/
theorem pedestalOf_eq_some {n : Nat} {p : Pedestal} (h : pedestalOf n = some p) : n = p.val + 1 := by
  unfold pedestalOf at h
  split at h
  · cases h; simp; omega
  · cases h

/-- A number names a module only where it is the module's. -/
theorem moduleOf_eq_some {n : Nat} {m : ModuleNo} (h : moduleOf n = some m) : n = m.val + 1 := by
  unfold moduleOf at h
  split at h
  · cases h; simp; omega
  · cases h

/-- Every pedestal is in the list of pedestals. -/
@[simp] theorem mem_allPedestals (p : Pedestal) : p ∈ allPedestals := by revert p; decide

/-- Every module is in the list of modules. -/
@[simp] theorem mem_allModules (m : ModuleNo) : m ∈ allModules := by revert m; decide

/-- No pedestal is in the list twice. -/
theorem allPedestals_nodup : allPedestals.Nodup := by decide

/-- No module is in the list twice. -/
theorem allModules_nodup : allModules.Nodup := by decide

/-! ### Events -/

/-- An event that happens in a live part is taken, and the transmission goes on. -/
theorem occur_of_some {s t : State} {f : State → Option State} (h : s.Live) (hf : f s = some t) :
    occur s f = .next t.startTransmit := by
  simp [occur, (isLive_iff_Live s).2 h, hf]

/-- An event that cannot happen changes nothing. -/
theorem occur_of_none {s : State} {f : State → Option State} (hf : f s = none) : occur s f = .next s := by
  simp [occur, hf]

/-- A part that is not live takes no event. -/
theorem occur_of_dead {s : State} (f : State → Option State) (h : ¬ s.Live) : occur s f = .next s := by
  have : s.isLive = false := by
    cases h' : s.isLive with
    | false => rfl
    | true => exact absurd ((isLive_iff_Live s).1 h') h
  simp [occur, this]

/-- Whatever the event, it answers a next state: the one it leaves, with the transmission gone on, or the state as it was. -/
theorem occur_answers (s : State) (f : State → Option State) :
    occur s f = .next s ∨ ∃ t, f s = some t ∧ occur s f = .next t.startTransmit := by
  unfold occur
  split
  · cases h : f s with
    | none => exact Or.inl rfl
    | some t => exact Or.inr ⟨t, rfl, rfl⟩
  · exact Or.inl rfl

/-- An event of a pedestal is taken as the pedestal's. -/
theorem occurAtPedestal_of_some {s t : State} {p : Pedestal} {f : Pedestal → State → Option State} (h : s.Live)
    (hf : f p s = some t) : occurAtPedestal s (p.val + 1) f = .next t.startTransmit :=
  occur_of_some h (by simpa using hf)

/-- An event of a pedestal that cannot happen changes nothing. -/
theorem occurAtPedestal_of_none {s : State} {p : Pedestal} {f : Pedestal → State → Option State} (hf : f p s = none) :
    occurAtPedestal s (p.val + 1) f = .next s :=
  occur_of_none (by simpa using hf)

/-- An event of a module is taken as the module's. -/
theorem occurAtModule_of_some {s t : State} {m : ModuleNo} {f : ModuleNo → State → Option State} (h : s.Live)
    (hf : f m s = some t) : occurAtModule s (m.val + 1) f = .next t.startTransmit :=
  occur_of_some h (by simpa using hf)

/-- An event of a module that cannot happen changes nothing. -/
theorem occurAtModule_of_none {s : State} {m : ModuleNo} {f : ModuleNo → State → Option State} (hf : f m s = none) :
    occurAtModule s (m.val + 1) f = .next s :=
  occur_of_none (by simpa using hf)

/-! ### Statuses and states -/

/-- Setting a status places its notice, and nothing else, in the output. -/
theorem host_raise (s : State) (c : NoticeClass) : (s.raise c).host = s.emits (s.noticed c) := by
  unfold State.raise State.noticed State.emits
  cases hl : (s.notices.flags c).latch <;> cases hm : (s.notices.flags c).masked <;>
    simp [noticeRecord, leBytes, State.pushOutput, State.setFlags, hl, hm]

/-- Setting a status changes the notice unit and the output alone. -/
theorem raise_eq (s : State) (c : NoticeClass) :
    s.raise c = { s with notices := (s.raise c).notices, host := s.emits (s.noticed c) } := by
  rw [← host_raise]
  unfold State.raise
  simp only []
  split
  · rfl
  · split <;> rfl

/-- What a status does to the notice unit depends on the notice unit alone. -/
theorem notices_raise_congr {s t : State} (c : NoticeClass) (h : t.notices = s.notices) :
    (t.raise c).notices = (s.raise c).notices := by
  unfold State.raise
  rw [h]
  simp only []
  split
  · exact h
  · split <;> simp [State.setFlags, State.pushOutput, h]

/-- A change of state writes the state and the changed flag, and sets the SESSION status (R3). -/
theorem goTo_eq (s : State) (p : Pedestal) (st : SlotState) :
    s.goTo p st = (s.setSlot p { s.slot p with state := st, changed := true }).raise .session := by
  simp [State.goTo, State.markChanged, State.setSlot, State.slot]

/-! ### Orders -/

/-- The unsent order of a place stands in that place. -/
theorem place_of_unsentAt {s : State} {pl : Place} {o : Order} (h : s.unsentAt pl = some o) : o.place = pl := by
  simpa using List.find?_some h

/-- A place holds no unsent order exactly where no order of the queue is of that place. -/
theorem unsentAt_eq_none {s : State} {pl : Place} : s.unsentAt pl = none ↔ ∀ o ∈ s.field.queue, o.place ≠ pl := by
  simp [State.unsentAt]

/-- Replacing an order in place moves no order to another place. -/
theorem places_replaceOrder (s : State) (o : Order) :
    (s.replaceOrder o).field.queue.map Order.place = s.field.queue.map Order.place := by
  simp only [State.replaceOrder, State.setQueue, List.map_map]
  apply List.map_congr_left
  intro x _
  by_cases h : x.place = o.place <;> simp [h]

/-! ### Sessions -/

/-- The slot found for a session number holds an open session of that number. -/
theorem holds_of_findSession {s : State} {n : Nat} {p : Pedestal} (h : s.findSession n = some p) :
    ∃ e, s.Holds p e ∧ e.number = n := by
  have := List.find?_some h
  revert this
  cases hs : (s.slot p).session with
  | none => simp
  | some e => intro hn; exact ⟨e, hs, by simpa using hn⟩

/-- No slot is found for a session number exactly where no slot holds an open session of that number. -/
theorem findSession_eq_none {s : State} {n : Nat} :
    s.findSession n = none ↔ ∀ p e, s.Holds p e → e.number ≠ n := by
  constructor
  · intro h p e he hn
    have := List.find?_eq_none.1 h p (mem_allPedestals p)
    simp [show (s.slot p).session = some e from he, hn] at this
  · intro h
    apply List.find?_eq_none.2
    intro p _
    cases hs : (s.slot p).session with
    | none => simp
    | some e => simpa using h p e hs

/-- The slot that alone holds a session number is the one found. -/
theorem findSession_of_unique {s : State} {p : Pedestal} {e : Session} (h : s.Holds p e)
    (hu : ∀ q f, s.Holds q f → f.number = e.number → q = p) : s.findSession e.number = some p := by
  cases hf : s.findSession e.number with
  | none => exact absurd rfl (findSession_eq_none.1 hf p e h)
  | some q =>
    obtain ⟨f, hq, hn⟩ := holds_of_findSession hf
    rw [hu q f hq hn]

/-! ### Shares of the module budget (R93) -/

/-- The modules a share has granted. -/
def Share.total (sh : Share) : Nat := sh.grants.toList.sum

/-- Granting one module more adds one to the total. -/
theorem sum_set_succ (v : Vector Nat 16) (p : Pedestal) (x : Nat) :
    (v.set p.val x).toList.sum + v[p.val] = v.toList.sum + x := by
  have key : ∀ (l : List Nat) (i : Nat) (h : i < l.length), (l.set i x).sum + l[i] = l.sum + x := by
    intro l
    induction l with
    | nil => intro i h; simp at h
    | cons a l ih =>
      intro i h
      cases i with
      | zero => simp; omega
      | succ i =>
        have := ih i (by simpa using h)
        simp only [List.set_cons_succ, List.sum_cons, List.getElem_cons_succ]
        omega
  have h := key v.toList p.val (by simp)
  rw [← Vector.toList_set] at h
  simpa using h

/-- A visit of pass 1 keeps the sum of what is granted and what is left, where nothing was granted before. -/
theorem total_firstVisit (demand : Pedestal → Nat) (sh : Share) (p : Pedestal) :
    (firstVisit demand sh p).total + (firstVisit demand sh p).left ≤ sh.total + sh.left := by
  unfold firstVisit Share.total
  split
  next h =>
    have := sum_set_succ sh.grants p 1
    simp only
    omega
  next => exact Nat.le_refl _

/-- A visit of pass 2 keeps the sum of what is granted and what is left. -/
theorem total_secondVisit (demand : Pedestal → Nat) (sh : Share) (p : Pedestal) :
    (secondVisit demand sh p).total + (secondVisit demand sh p).left = sh.total + sh.left := by
  unfold secondVisit Share.total
  split
  next h =>
    have := sum_set_succ sh.grants p (sh.grants[p.val] + 1)
    simp only
    omega
  next => rfl

/-- A cycle of pass 2 keeps the sum. -/
theorem total_cycle (demand : Pedestal → Nat) (order : List Pedestal) (sh : Share) :
    (order.foldl (secondVisit demand) sh).total + (order.foldl (secondVisit demand) sh).left = sh.total + sh.left := by
  induction order generalizing sh with
  | nil => rfl
  | cons p l ih => rw [List.foldl_cons, ih, total_secondVisit]

/-- Pass 2 keeps the sum. -/
theorem total_secondPass (demand : Pedestal → Nat) (order : List Pedestal) (n : Nat) (sh : Share) :
    (secondPass demand order n sh).total + (secondPass demand order n sh).left = sh.total + sh.left := by
  induction n generalizing sh with
  | zero => rfl
  | succ n ih => rw [secondPass, ih, total_cycle]

/-- Pass 1 grants no more than the budget. -/
theorem total_firstPass (demand : Pedestal → Nat) (sessions : List Pedestal) (sh : Share) :
    (sessions.foldl (firstVisit demand) sh).total + (sessions.foldl (firstVisit demand) sh).left ≤ sh.total + sh.left := by
  induction sessions generalizing sh with
  | nil => exact Nat.le_refl _
  | cons p l ih => exact Nat.le_trans (ih _) (total_firstVisit demand sh p)

/-- The grants of a share are within the budget (R93). -/
theorem total_shareBudget (sessions : List Pedestal) (demand : Pedestal → Nat) (pointer : Pedestal) (m : Nat) :
    (shareBudget sessions demand pointer m).total ≤ m := by
  have h2 := total_secondPass demand (cycleFrom pointer)
    (sessions.foldl (firstVisit demand) { grants := Vector.replicate 16 0, left := m, last := none }).left
    (sessions.foldl (firstVisit demand) { grants := Vector.replicate 16 0, left := m, last := none })
  have h1 := total_firstPass demand sessions { grants := Vector.replicate 16 0, left := m, last := none }
  have h0 : (Vector.replicate 16 0 : Vector Nat 16).toList.sum = 0 := by decide
  unfold shareBudget Share.total at *
  simp only at *
  omega

/-- What a share keeps while it is made: no grant is above its demand. -/
theorem grants_secondVisit {demand : Pedestal → Nat} {sh : Share} (h : ∀ q : Pedestal, sh.grants[q.val] ≤ demand q)
    (p q : Pedestal) : (secondVisit demand sh p).grants[q.val] ≤ demand q := by
  unfold secondVisit
  split
  next hc =>
    by_cases hq : p = q
    · subst hq; simp; omega
    · have : p.val ≠ q.val := fun e => hq (Fin.ext e)
      simpa [this] using h q
  next => exact h q

/-- A visit of pass 1 keeps every grant within its demand. -/
theorem grants_firstVisit {demand : Pedestal → Nat} {sh : Share} (h : ∀ q : Pedestal, sh.grants[q.val] ≤ demand q)
    (p q : Pedestal) : (firstVisit demand sh p).grants[q.val] ≤ demand q := by
  unfold firstVisit
  split
  next hc =>
    by_cases hq : p = q
    · subst hq; simp; omega
    · have : p.val ≠ q.val := fun e => hq (Fin.ext e)
      simpa [this] using h q
  next => exact h q

/-- Pass 2 keeps every grant within its demand. -/
theorem grants_secondPass {demand : Pedestal → Nat} (order : List Pedestal) (n : Nat) {sh : Share}
    (h : ∀ q : Pedestal, sh.grants[q.val] ≤ demand q) (q : Pedestal) :
    (secondPass demand order n sh).grants[q.val] ≤ demand q := by
  have cycle : ∀ (l : List Pedestal) (sh : Share), (∀ q : Pedestal, sh.grants[q.val] ≤ demand q) →
      ∀ q : Pedestal, (l.foldl (secondVisit demand) sh).grants[q.val] ≤ demand q := by
    intro l
    induction l with
    | nil => intro sh h; exact h
    | cons p l ih => intro sh h; exact ih _ (grants_secondVisit h p)
  induction n generalizing sh with
  | zero => exact h q
  | succ n ih => exact ih (cycle order sh h)

/-- No grant of a share is above its demand (R93). -/
theorem grants_shareBudget (sessions : List Pedestal) (demand : Pedestal → Nat) (pointer : Pedestal) (m : Nat) (q : Pedestal) :
    (shareBudget sessions demand pointer m).grants[q.val] ≤ demand q := by
  have first : ∀ (l : List Pedestal) (sh : Share), (∀ q : Pedestal, sh.grants[q.val] ≤ demand q) →
      ∀ q : Pedestal, (l.foldl (firstVisit demand) sh).grants[q.val] ≤ demand q := by
    intro l
    induction l with
    | nil => intro sh h; exact h
    | cons p l ih => intro sh h; exact ih _ (grants_firstVisit h p)
  exact grants_secondPass _ _ (first sessions _ (by simp)) q

end Sys2Proof.Machine
end

