-- ==== Sys2Proof/WellFormed.lean ====
section
/-! DEFINITION. Which commands are well formed: the operands lie in the ranges the manual gives them. A meaning doesn't depend on
this check (a frame or an expiry of a node that does not exist changes nothing, R146); statements use it. -/

namespace Sys2Proof

/-- A pedestal number (00_scope.md section 6.2). -/
def isPedestalNumber (n : Nat) : Bool := 1 ≤ n && n ≤ 16

/-- A module number (00_scope.md section 6.2). -/
def isModuleNumber (n : Nat) : Bool := 1 ≤ n && n ≤ 32

/-- A classic CAN frame: at most 8 data bytes, and an 11-bit identifier unless it is an extended frame (chapter 9). -/
def FieldFrame.wellFormed (f : FieldFrame) : Bool :=
  f.data.length ≤ 8 && (f.extended || decide (f.ident.toNat < 2048))

/-- The bytes of a run arrive one after another (R164): there is at least one, and no arrival precedes the one before. -/
def rxWellFormed : List RxByte → Bool
  | [] => false
  | [_] => true
  | a :: b :: rest => a.time ≤ b.time && rxWellFormed (b :: rest)

/-- Well-formedness of a command, constructor by constructor. -/
def Instr.wellFormed : Instr → Bool
  | .identify => true
  | .parkStatus => true
  | .noticeStatus => true
  | .noticeMask => true
  | .statusClear => true
  | .commission => true
  | .configure => true
  | .timeSet => true
  | .tariffLoad => true
  | .tariffRetire => true
  | .tariffRead => true
  | .authorise => true
  | .deny => true
  | .extendHold => true
  | .stop => true
  | .sessionCap => true
  | .sessionRead => true
  | .settleRead => true
  | .settleFree => true
  | .curtail => true
  | .cutoffClear => true
  | .pedestalMode => true
  | .pedestalRestart => true
  | .pedestalQuery => true
  | .moduleRead => true
  | .moduleReturn => true
  | .restart => true
  | .badKind => true
  | .hostFrameReceived bytes => rxWellFormed bytes
  | .frameTimerExpiry => true
  | .outputRecordSent _ => true
  | .pdPlug _ p _ => isPedestalNumber p
  | .pdToken _ p _ => isPedestalNumber p
  | .pdVehicle _ p _ _ => isPedestalNumber p
  | .pdMeter _ p _ => isPedestalNumber p
  | .pdRestarted _ p _ => isPedestalNumber p
  | .pdAnswer _ p _ _ data => isPedestalNumber p && data.length ≤ 6
  | .mdState _ m _ => isModuleNumber m
  | .mdFault _ m _ => isModuleNumber m
  | .gmVolts _ _ => true
  | .fieldFrameDiscarded _ f => f.wellFormed
  | .orderSent _ => true
  | .busOff _ => true
  | .busOffRecovery _ => true
  | .lineAssertionAccepted _ _ n => 1 ≤ n
  | .lineReleaseAccepted _ _ n => 1 ≤ n
  | .mainSupplyReturn _ _ _ _ => true
  | .mainSupplyLoss _ => true
  | .resetLinePulse _ _ _ => true
  | .commandedRestartBegin _ _ => true
  | .authWaitExpiry p => isPedestalNumber p
  | .startWaitExpiry p => isPedestalNumber p
  | .resumeWindowExpiry p => isPedestalNumber p
  | .extensionWindowExpiry p => isPedestalNumber p
  | .reportTimerExpiry p => isPedestalNumber p
  | .apportionmentPeriodExpiry => true
  | .prechargeTimerExpiry m => isModuleNumber m
  | .contactTimerExpiry m => isModuleNumber m
  | .rampTimerExpiry m => isModuleNumber m
  | .recoveryHoldExpiry => true
  | .silenceTimerExpiry => true
  | .queryTimerExpiry p => isPedestalNumber p
  | .minuteExpiry => true
  | .frameSyncReceived _ => true
  | .backupSupplyLoss => true

end Sys2Proof
end

