-- ==== Sys2Proof/Tests/Slice0.lean ====
section
/-! SUPPORT. The model's own tests: ill-formed commands that the check refuses; one-step results on small states; and, for every statement
with hypotheses, states and operands that meet the hypotheses of each of its clauses, at the boundary values of the ranges. -/

namespace Sys2Proof.Tests

open Sys2Proof Sys2Proof.Machine

/-! ### Well-formedness -/

/-- Pedestal numbers 0 and 17 are refused in every command that names a pedestal. -/
theorem test_wf_pedestal :
    (∀ n ∈ [0, 17], Instr.wellFormed (.pdPlug 0 n true) = false ∧ Instr.wellFormed (.pdToken 0 n 0) = false ∧
      Instr.wellFormed (.pdVehicle 0 n true 0) = false ∧ Instr.wellFormed (.pdMeter 0 n 0) = false ∧
      Instr.wellFormed (.pdRestarted 0 n true) = false ∧ Instr.wellFormed (.pdAnswer 0 n 0 0 []) = false ∧
      Instr.wellFormed (.authWaitExpiry n) = false ∧ Instr.wellFormed (.startWaitExpiry n) = false ∧
      Instr.wellFormed (.resumeWindowExpiry n) = false ∧ Instr.wellFormed (.extensionWindowExpiry n) = false ∧
      Instr.wellFormed (.reportTimerExpiry n) = false ∧ Instr.wellFormed (.queryTimerExpiry n) = false) ∧
    ∀ n ∈ [1, 16], Instr.wellFormed (.pdPlug 0 n true) = true ∧ Instr.wellFormed (.queryTimerExpiry n) = true := by decide

/-- Module numbers 0 and 33 are refused in every command that names a module. -/
theorem test_wf_module :
    (∀ n ∈ [0, 33], Instr.wellFormed (.mdState 0 n .closed) = false ∧ Instr.wellFormed (.mdFault 0 n 0) = false ∧
      Instr.wellFormed (.prechargeTimerExpiry n) = false ∧ Instr.wellFormed (.contactTimerExpiry n) = false ∧
      Instr.wellFormed (.rampTimerExpiry n) = false) ∧
    ∀ n ∈ [1, 32], Instr.wellFormed (.mdState 0 n .closed) = true ∧ Instr.wellFormed (.rampTimerExpiry n) = true := by decide

/-- An answer of seven data bytes, a run of no bytes, bytes out of order, and an empty run of samples are refused. -/
theorem test_wf_lengths :
    Instr.wellFormed (.pdAnswer 0 1 0 0 [0, 0, 0, 0, 0, 0, 0]) = false ∧
    Instr.wellFormed (.hostFrameReceived []) = false ∧
    Instr.wellFormed (.hostFrameReceived [⟨0xA5, false, 1⟩, ⟨0, false, 0⟩]) = false ∧
    Instr.wellFormed (.lineAssertionAccepted 0 .estop 0) = false ∧
    Instr.wellFormed (.lineReleaseAccepted 0 .trip 0) = false := by decide

/-- A frame of nine bytes and an 11-bit frame with a wider identifier are refused. -/
theorem test_wf_frame :
    Instr.wellFormed (.fieldFrameDiscarded 0 ⟨false, false, 1, [0, 0, 0, 0, 0, 0, 0, 0, 0]⟩) = false ∧
    Instr.wellFormed (.fieldFrameDiscarded 0 ⟨false, false, 2048, []⟩) = false ∧
    Instr.wellFormed (.fieldFrameDiscarded 0 ⟨true, false, 2048, []⟩) = true := by decide

/-- No row of the table gives bits, so no word spells a command. -/
theorem test_no_word_spells_a_command : decodeTableWord 8 0 = none ∧ decodeTableWord 32 0xFFFFFFFF = none := by decide

/-! ### Small states -/

/-- A commissioned part at 100 kW with modules of 20 kW that reach every pedestal, its time valid, its latch clear, tariff slot 1
loaded, and every link UP. -/
def base : State :=
  { State.reset with
    control :=
      { RestartControl.cold with
        commissioned := true
        record :=
          { ceiling := 100, rating := 20, ratings := Vector.replicate 16 100
            windows := Vector.replicate 32 { first := 1, last := 16 } } }
    clock := { State.reset.clock with valid := true }
    tariffs := State.reset.tariffs.set 0
      { state := .active, version := 1, references := 0
        contents :=
          { fee := 50, basePrice := 30, timePrice := 2, idlePrice := 3, grace := 1
            bands := Vector.replicate 4 { start := 1439, stop := 0, price := 0 } } }
    alloc := { Apportioner.cold with pAv := 100, budget := 5, gridCap := 100, periodTimer := some 500 }
    modules := Vector.replicate 32
      { state := .free, window := { first := 1, last := 16 }, assigned := none, timer := .stopped
        releaseOnClose := false, forced := false, fault := none }
    prot :=
      { Protection.cold with
        estop := { samples := 0xFFFF, asserted := false }, trip := { samples := 0xFFFF, asserted := false }
        latch := false, sources := { estop := false, trip := false, restart := false } }
    field :=
      { FieldLink.cold with
        links := Vector.replicate 16
          { Link.cold with state := .up, reportTimer := some 3000, register := some 100, fresh := true } } }

/-- An open session of number 1 on tariff slot 1. -/
def session : Session :=
  { number := 1, tariff := 0, version := 1, startDay := 0, startMinute := 0, request := some 60
    reasons := { link := false, cutoff := false, hold := false }, finishCause := none, endOrdered := false
    startWait := none, resumeWindow := none, extensionWindow := none, interruptions := [], overflow := 0
    accrual :=
      { base := some 100, last := 100, energy := 0, buckets := Vector.replicate 5 0, energyAmount := 0, timeAmount := 0
        idleAmount := 0, fee := 50, chargingMinutes := 0, idleMinutes := 0, grace := 0, hold := 500, topUps := 0
        topUpRequested := false, holdReached := false, strikes := 0, previousArrival := some 0, previousSetpoint := 20 } }

/-- Pedestal 1 in a state without a session. -/
def idle (st : SlotState) (s : State) : State := s.setSlot 0 { s.slot 0 with state := st }

/-- Pedestal 1 in a state with a session. -/
def open_ (st : SlotState) (e : Session) (s : State) : State :=
  { s.setSlot 0 { s.slot 0 with state := st, session := some e } with
    nextSession := 2
    tariffs := s.tariffs.set 0 { s.tariff 0 with references := 1 } }

/-- A RUNNING session with one ASSIGNED module of 20 kW, with its setpoint. -/
def running : State :=
  ((open_ .running session base).setAllot 0
    { demand := 3, grant := 1, setpoint := 20, cap := none, stagedCap := none }).setModule 0
      { (base.module 0) with state := .assigned, assigned := some 0 }

/-- Module 1 in a state, named for pedestal 1 where the state names one. -/
def switching (st : ModuleState) (timer : SeqTimer) (s : State) : State :=
  s.setModule 0 { s.module 0 with state := st, timer := timer, assigned := if st.names then some 0 else none }

/-- A request of a kind at the head of the queue. -/
def asked (k : RequestKind) (body : List Byte) (s : State) : State :=
  { s with host := { s.host with requests := [{ kind := k.code, tag := 7, body := body }] } }

/-- The port takes the request. -/
abbrev Asks (s : State) (k : RequestKind) (body : List Byte) : Prop :=
  (asked k body s).Takes k { kind := k.code, tag := 7, body := body }

/-- The output that one command leaves. -/
def outputAfter (c : Instr) (s : State) : List HostRecord :=
  match exec c s with
  | .next t => t.host.output
  | .fault _ => []
  | .refused _ => []

/-- What one command leaves of a slot's state. -/
def stateAfter (c : Instr) (p : Pedestal) (s : State) : Option SlotState :=
  match exec c s with
  | .next t => some (t.slot p).state
  | .fault _ => none
  | .refused _ => none

/-! ### One-step results -/

/-- IDENTIFY after a cold start: family 0x47, member 16, revision 1, straps 0, not commissioned, cold restart (R174, R188). -/
theorem test_identify :
    outputAfter .identify (asked .identify [] .reset) = [{ kind := 0x81, tag := 7, body := [0, 0x47, 16, 1, 0, 0, 1] }] := by
  decide

/-- Before commissioning AUTHORISE is refused with NOT_COMMISSIONED, and a pedestal number of 17 with RANGE (R7). -/
theorem test_authorise_refused :
    outputAfter .authorise (asked .authorise [1, 1, 1, 0, 0, 0, 0, 0, 0] .reset) = [{ kind := 0x8C, tag := 7, body := [7] }] ∧
    outputAfter .authorise (asked .authorise [17, 1, 1, 0, 0, 0, 0, 0, 0] .reset) =
      [{ kind := 0x8C, tag := 7, body := [4] }] := by
  decide

/-- AUTHORISE of a PLUGGED slot: session number 1, state STARTING (R8, R9). -/
theorem test_authorise :
    outputAfter .authorise (asked .authorise [1, 1, 244, 1, 0, 0, 0, 0, 0] (idle .plugged base)) =
      [{ kind := 0x8C, tag := 7, body := [0, 1, 0, 0, 0] }] ∧
    stateAfter .authorise 0 (asked .authorise [1, 1, 244, 1, 0, 0, 0, 0, 0] (idle .plugged base)) = some .starting := by
  decide

/-- A plug report into VACANT, an unplug in RUNNING, DONE in RUNNING (R4, R16, R12). -/
theorem test_slot_moves :
    stateAfter (.pdPlug 5 1 true) 0 base = some .plugged ∧ stateAfter (.pdPlug 5 1 false) 0 running = some .vacant ∧
    stateAfter (.pdVehicle 5 1 false 0) 0 running = some .finished := by
  decide

/-- The CRC of "123456789" is 0x29B1 (R163). -/
theorem test_crc : crc16 [0x31, 0x32, 0x33, 0x34, 0x35, 0x36, 0x37, 0x38, 0x39] = 0x29B1 := by decide +kernel

/-- The IDENTIFY request on the wire arrives as the record it carries (R163 to R165). -/
theorem test_frame_arrives :
    (receive .hunting (({ kind := 1, tag := 9, body := [] } : HostRecord).wire.map fun b => ⟨b, false, 3⟩)).2 =
      [{ kind := 1, tag := 9, body := [] }] := by
  decide +kernel

/-- The frames of a PD-SETPOINT of 300 kW to pedestal 2 and of an MD-PRECHARGE of module 1 for pedestal 16 (R190). -/
theorem test_order_frames :
    (Order.setpoint 1 300).frame = { extended := false, remote := false, ident := 386, data := [0x2C, 0x01] } ∧
    (Order.precharge 0 15).frame = { extended := false, remote := false, ident := 545, data := [16] } := by
  decide

/-- A PD-METER of pedestal 3 and an MD-STATE ZERO of module 32, read from their frames (R146, R190). -/
theorem test_frame_reports :
    frameReport ⟨false, false, 1283, [1, 2, 0, 0]⟩ = some (.meter 2 513) ∧
    frameReport ⟨false, false, 832, [3]⟩ = some (.moduleState 31 .zero) ∧
    frameReport ⟨false, false, 832, [4]⟩ = none := by
  decide

/-! ### Hypotheses that are met: laws -/

/-- The one session of a state. -/
theorem only_session {s : State} (hs : ∀ q : Pedestal, (s.slot q).session = if q = 0 then some session else none) {p : Pedestal}
    {e : Session} (h : s.Holds p e) : p = 0 ∧ e = session := by
  have := hs p
  rw [show (s.slot p).session = some e from h] at this
  by_cases hp : p = 0
  · exact ⟨hp, by simpa [hp] using this⟩
  · simp [hp] at this

/-- Pedestal 1 of the running part holds the one open session. -/
theorem running_session : ∀ q : Pedestal, (running.slot q).session = if q = 0 then some session else none := by decide

/-- The running part meets the laws of the queues and the port, and a step answers a next state. -/
theorem test_w_laws_of_queues :
    running.OnePerPlace ∧ running.PlacesBounded ∧ running.RequestsBounded ∧ running.PendingSound ∧
    ∃ t, step { running with pending := [.orderSent 1] } = .next t := by
  refine ⟨by unfold State.OnePerPlace; decide, by unfold State.PlacesBounded; decide,
    by unfold State.RequestsBounded; decide, ?_, ⟨_, rfl⟩⟩
  intro c
  cases c <;> decide

/-- The running part meets R2. -/
theorem test_w_slots : running.SlotsSound ∧ ∃ t, step { running with pending := [.apportionmentPeriodExpiry] } = .next t := by
  refine ⟨fun p => ⟨?_, ?_, ?_, ?_, ?_, ?_⟩, ⟨_, rfl⟩⟩
  · revert p; decide
  · revert p; decide
  · revert p; decide
  · intro e h
    obtain ⟨rfl, rfl⟩ := only_session running_session h
    exact ⟨by decide, by decide, by decide⟩
  · revert p; decide
  · revert p; decide

/-- The running part meets R56, R77, R9 and R44. -/
theorem test_w_money : running.MoneySound ∧ running.NumbersSound ∧ running.ReferencesSound := by
  refine ⟨⟨?_, (fun _ hr => nomatch hr)⟩, ⟨by decide, by decide, ?_, ?_, (fun _ hr => nomatch hr), ?_, by decide⟩, fun t => ⟨?_, ?_⟩⟩
  · intro p e h
    obtain ⟨rfl, rfl⟩ := only_session running_session h
    show session.accrual.energy = _
    decide
  · intro p e h
    obtain ⟨rfl, rfl⟩ := only_session running_session h
    exact ⟨by decide, Or.inl (by decide)⟩
  · intro p q e f he hf _
    rw [(only_session running_session he).1, (only_session running_session hf).1]
  · intro r hr
    cases hr
  · revert t; decide
  · intro p e h ht
    obtain ⟨rfl, rfl⟩ := only_session running_session h
    subst ht
    decide

/-- The running part meets R88, R104, R133 and R110 to R112; and so does the part in cutoff after reset, whose latch is set. -/
theorem test_w_power :
    running.PowerBounded ∧ running.SetpointsBacked ∧ running.LatchHasSource ∧ running.CutoffHolds ∧ running.ModulesSound ∧
    State.reset.prot.latch = true := by
  refine ⟨⟨by decide, by decide, by decide, by decide, by decide⟩, ?_, ?_, fun h => absurd h (by decide), ?_, rfl⟩
  · intro p; revert p; decide
  · unfold State.LatchHasSource; decide
  · intro m
    refine ⟨⟨?_, ?_, ?_, ?_, ?_, ?_, ?_, ?_, ?_, ?_⟩, ?_, ?_⟩ <;> revert m
    · decide
    · intro m p h
      have : ∀ m : ModuleNo, (running.module m).window = { first := 1, last := 16 } := by decide
      rw [this m]
      have := p.isLt
      exact ⟨Nat.le_add_left 1 p.val, this⟩
    · decide
    · intro m f h
      have : ∀ m : ModuleNo, (running.module m).fault = none := by decide
      simp [this m] at h
    · decide
    · decide
    · decide
    · decide
    · decide
    · unfold Window.Sound; decide
    · unfold Window.Sound; decide
    · decide

/-- The running part without its main supply, its marker intact or lost. -/
def dark (marker : Bool) : State :=
  { running with control := { running.control with mainPresent := false, marker := marker } }

/-- A part that has lost both supplies; one whose marker is intact, to which the main supply returns with the backup supply missing; and
one with both. -/
theorem test_w_cold_start :
    ((dark false).control.mainPresent = false ∧ (dark false).control.marker = false ∧ (dark false).slots = running.slots) ∧
    ((dark true).control.mainPresent = false ∧ (dark true).control.marker = true) ∧ running.control.mainPresent = true ∧
    running.control.marker = true := by
  decide

/-- A waiting command, and none. -/
theorem test_w_step :
    ({ running with pending := [.identify, .restart] } : State).pending = .identify :: [.restart] ∧ running.pending = [] := by
  decide

/-! ### Hypotheses that are met: rules that many commands share -/

/-- Pedestal 1's link with fields changed. -/
def withLink (f : Link → Link) (s : State) : State := s.setLink 0 (f (s.link 0))

/-- A query that the host awaits. -/
def query : PendingQuery := { tag := 3, code := 1, epoch := 0, sent := true }

/-- The field link with an order in its buffer. -/
def sending (o : Order) (s : State) : State := { s with field := { s.field with buffer := some o } }

/-- A session with reasons. -/
def held (link cutoff hold : Bool) : Session := { session with reasons := { link := link, cutoff := cutoff, hold := hold } }

/-- A class with its latch set; unmasked with the latch clear; masked with the latch clear. The two requests, with every class value from
0 to 6. -/
theorem test_w_notices :
    (base.notices.flags .park).latch = true ∧
    (({ base with notices := { base.notices with field := { latch := false, masked := false, pending := false } } } :
      State).notices.flags .field).masked = false ∧
    ((base.notices.flags .field).latch = false ∧ (base.notices.flags .field).masked = true) ∧
    Asks base .noticeMask [0] ∧ Asks base .noticeMask [0x1F] ∧
    ∀ n ∈ [0, 1, 2, 3, 4, 5, 6], Asks base .statusClear [n] ∧ fieldAt [n] 0 1 = n.toNat := by
  decide

/-- Each kind of order with its place empty, taken by each kind of order, and taken by a query with and without a pending one. -/
theorem test_w_orders :
    (∀ pl ∈ [Place.setpoint 0, .other 0, .module 31], base.unsentAt pl = none) ∧
    (base.setQueue [.setpoint 0 5]).unsentAt (Order.setpoint 0 7).place ≠ none ∧
    (base.setQueue [.precharge 31 0]).unsentAt (Order.openContact 31).place ≠ none ∧
    (base.setQueue [.reset 0]).unsentAt (.other 0) = some (.reset 0) ∧
    (base.setQueue [.beginSession 0 1]).unsentAt (.other 0) = some (.beginSession 0 1) ∧
    (base.setQueue [.query 0 0 1]).unsentAt (.other 0) = some (.query 0 0 1) ∧
    ((base.setQueue [.query 0 0 1]).link 0).query = none ∧
    ((withLink (fun l => { l with query := some query }) (base.setQueue [.query 0 0 1])).link 0).query = some query := by
  decide

/-- A head and an empty buffer; each of the three grounds for no transmission; each kind of order that is sent, with and without a
module or a query that awaits it; both controller states. -/
theorem test_w_transmission :
    (base.setQueue [.close 0]).field.queue = .close 0 :: [] ∧ base.field.can = .onBus ∧ base.field.buffer = none ∧
    (base.Live ∧ (sending (.close 0) base).field.buffer = some (.close 0)) ∧
    ((switching .precharge .awaitingSend base).module 0).timer = .awaitingSend ∧
    ((switching .precharge (.running 5) base).module 0).timer ≠ .awaitingSend ∧
    (Order.precharge 0 1 ∉ base.field.queue ∧ Order.precharge 0 1 ∈ (base.setQueue [.precharge 0 1]).field.queue) ∧
    (Order.query 0 0 1 ∉ base.field.queue ∧ Order.query 0 0 1 ∈ (base.setQueue [.query 0 0 1]).field.queue) ∧
    (base.link 0).query = none ∧ ((withLink (fun l => { l with query := some query }) base).link 0).query = some query ∧
    ({ base with field := { base.field with can := .busOff } } : State).field.can = .busOff := by
  decide

/-- A link UP; a SILENT link without a session; with one that is RUNNING, held by another reason, and held by LINK alone. -/
theorem test_w_links :
    (base.link 0).state ≠ .silent ∧
    ((withLink (fun l => { l with state := .silent }) base).link 0).state = .silent ∧
    (base.slot 0).session = none ∧
    (running.Holds 0 session ∧ (running.slot 0).state ≠ .suspended) ∧
    (open_ .suspended (held true true false) base).Holds 0 (held true true false) ∧
    ((open_ .suspended (held true false false) base).slot 0).state = .suspended := by
  decide

/-- Modules held in each of the three states, and one not held; a setpoint above 0 and one of 0; a power order unsent and none. -/
theorem test_w_leaving :
    ((switching .precharge .awaitingSend base).module 0).heldFor 0 = true ∧
    ((switching .contactClose (.running 5) base).module 0).heldFor 0 = true ∧
    ((running.module 0).heldFor 0 = true ∧ (running.module 0).state = .assigned) ∧ (running.module 1).heldFor 0 = false ∧
    0 < (running.allot 0).setpoint ∧ (base.allot 0).setpoint = 0 ∧ base.unsentPower 0 = false ∧
    (base.setQueue [.setpoint 0 20]).unsentPower 0 = true := by
  decide

/-- A session in each open state, with an empty and a non-empty reason set, and each state without one; an interruption entry that is
open and one that is closed. -/
theorem test_w_sessions :
    (∀ st ∈ [SlotState.starting, .running, .suspended, .finished],
      (open_ st session base).Holds 0 session ∧ ((open_ st session base).slot 0).state = st) ∧
    session.reasons.isEmpty = true ∧ (held false true false).reasons.isEmpty = false ∧
    (∀ st ∈ [SlotState.vacant, .plugged, .waitUnplug], ((idle st base).slot 0).state = st) ∧
    ({ reason := .hold, startDay := 0, startMinute := 0, duration := none } : Interruption).duration = none ∧
    ({ reason := .hold, startDay := 0, startMinute := 0, duration := some 4 } : Interruption).duration = some 4 := by
  decide

/-! ### Hypotheses that are met: requests -/

/-- No request at the head, as for every kind; and for the unknown kind, a known one at the head. -/
theorem test_w_untaken :
    (∀ r, ¬ base.AtHead r) ∧ ∀ r, (asked .stop [1, 0, 0, 0] base).AtHead r → ∃ k : RequestKind, r.kind = k.code := by
  refine ⟨fun r h => ?_, fun r h => ⟨.stop, ?_⟩⟩
  · have := h.2.2.2
    revert this
    show ¬ ((none : Option HostRecord) = some r)
    simp
  · have := h.2.2.2
    have e : some r = some ({ kind := RequestKind.stop.code, tag := 7, body := [1, 0, 0, 0] } : HostRecord) := this.symm
    cases e
    rfl

/-- A body that is one byte short and one that is one byte long; a kind of 0x1C, the first that is none of chapter 12. -/
theorem test_w_malformed :
    (asked .stop [1, 0, 0] base).AtHead { kind := RequestKind.stop.code, tag := 7, body := [1, 0, 0] } ∧
    [1, 0, 0].length ≠ RequestKind.stop.bodyLength ∧ [1, 0, 0, 0, 0].length ≠ RequestKind.stop.bodyLength ∧
    ({ base with host := { base.host with requests := [{ kind := 0x1C, tag := 7, body := [] }] } } : State).AtHead
      { kind := 0x1C, tag := 7, body := [] } ∧
    (0x1C : Byte) ≠ RequestKind.restart.code := by
  decide

/-- The reads are taken, with the greatest number in range and the least above it. -/
theorem test_w_reads :
    Asks running .identify [] ∧ Asks running .parkStatus [] ∧ Asks running .noticeStatus [] ∧ Asks running .sessionRead [16] ∧
    pedestalOf (fieldAt [16] 0 1) = some 15 ∧ Asks running .sessionRead [17] ∧ pedestalOf (fieldAt [17] 0 1) = none ∧
    Asks running .moduleRead [32] ∧ moduleOf (fieldAt [32] 0 1) = some 31 ∧ Asks running .moduleRead [0] ∧
    moduleOf (fieldAt [0] 0 1) = none := by
  decide

/-- A settlement record. -/
def record : Settlement :=
  { number := 1, pedestal := 0, tariff := 0, version := 1, token := none, startDay := 0, startMinute := 0, endDay := 0
    endMinute := 1, finishCause := none, closeCause := .unplug, energy := 0, buckets := Vector.replicate 5 0
    chargingMinutes := 0, idleMinutes := 0, fee := 0, energyAmount := 0, timeAmount := 0, idleAmount := 0, total := 0
    waived := none, hold := 500, topUps := 0, interruptions := [], overflow := 0 }

/-- The Settlement Queue empty and not, with the head's number and another. -/
theorem test_w_settlements :
    Asks base .settleRead [] ∧ base.settlements = [] ∧ ({ base with settlements := [record] } : State).settlements = record :: [] ∧
    Asks { base with settlements := [record] } .settleFree [1, 0, 0, 0] ∧ record.number = fieldAt [1, 0, 0, 0] 0 4 ∧
    record.number ≠ fieldAt [2, 0, 0, 0] 0 4 := by
  decide

/-- A COMMISSION body. -/
def commissionBody (ceiling rating : Nat) (kw : Nat) (first last : Byte) : List Byte :=
  leBytes 2 ceiling ++ leBytes 1 rating ++ (List.replicate 16 (leBytes 2 kw)).flatten ++ (List.replicate 32 [first, last]).flatten

/-- COMMISSION on a commissioned part; bodies at the bounds of R178, and just outside each of them. -/
theorem test_w_commission :
    Asks base .commission (commissionBody 50 10 50 1 16) ∧ Asks .reset .commission (commissionBody 2000 60 500 16 0) ∧
    (fieldAt (commissionBody 2000 60 500 16 0) 0 2 = 2000 ∧ fieldAt (commissionBody 2000 60 500 16 0) 2 1 = 60 ∧
      (∀ p : Pedestal, fieldAt (commissionBody 2000 60 500 16 0) (3 + 2 * p.val) 2 = 500) ∧
      ∀ m : ModuleNo, fieldAt (commissionBody 2000 60 500 16 0) (35 + 2 * m.val) 1 = 16 ∧
        fieldAt (commissionBody 2000 60 500 16 0) (36 + 2 * m.val) 1 = 0) ∧
    Asks .reset .commission (commissionBody 49 10 50 1 16) ∧ fieldAt (commissionBody 49 10 50 1 16) 0 2 = 49 ∧
    Asks .reset .commission (commissionBody 50 10 501 1 16) ∧ fieldAt (commissionBody 50 10 501 1 16) 3 2 = 501 ∧
    Asks .reset .commission (commissionBody 50 10 0 0 16) ∧ fieldAt (commissionBody 50 10 0 0 16) 35 1 = 0 := by
  decide

/-- A CONFIGURE body of the defaults, with sag enable and the period as given. -/
def configureBody (period sag : Nat) : List Byte :=
  leBytes 2 period ++ [3] ++ leBytes 2 180 ++ [60] ++ leBytes 2 60 ++ leBytes 2 120 ++ [90] ++ leBytes 2 200 ++ leBytes 2 500 ++
    leBytes 2 1000 ++ [5] ++ leBytes 1 sag ++ [8, 50, 30]

/-- CONFIGURE at the bounds of the period and of sag enable, which switches on, stays off, and (from a part that has it on) switches off;
and outside them. TIME-SET with minutes 1439 and 1440. -/
theorem test_w_configure :
    (∀ x ∈ [(200, 1), (2000, 0)], Asks base .configure (configureBody x.1 x.2) ∧
      fieldAt (configureBody x.1 x.2) 0 2 = x.1 ∧ fieldAt (configureBody x.1 x.2) 18 1 = x.2 ∧
      fieldAt (configureBody x.1 x.2) 3 2 = 180 ∧ fieldAt (configureBody x.1 x.2) 5 1 = 60 ∧
      fieldAt (configureBody x.1 x.2) 15 2 = 1000 ∧ fieldAt (configureBody x.1 x.2) 21 1 = 30) ∧
    (∀ x ∈ [(100, 0), (2100, 0), (250, 0), (500, 2)], Asks base .configure (configureBody x.1 x.2)) ∧
    base.params.sagEnable = false ∧
    (∀ n ∈ [1439, 1440], Asks base .timeSet ([1, 0] ++ leBytes 2 n) ∧ fieldAt ([1, 0] ++ leBytes 2 n) 2 2 = n) := by
  decide

/-- A TARIFF-LOAD body. -/
def tariffBody (slot grace : Byte) (start stop : Nat) : List Byte :=
  [slot] ++ leBytes 2 50 ++ leBytes 2 30 ++ leBytes 2 2 ++ leBytes 2 3 ++ [grace] ++
    (List.replicate 4 (leBytes 2 start ++ leBytes 2 stop ++ leBytes 2 9)).flatten

/-- Tariff slots 8 and 9; a slot in use; loads at the bounds of R45 and outside them. -/
theorem test_w_tariffs :
    Asks base .tariffLoad (tariffBody 9 0 0 0) ∧ tariffOf (fieldAt (tariffBody 9 0 0 0) 0 1) = none ∧
    Asks running .tariffLoad (tariffBody 1 0 0 0) ∧ (running.tariff 0).references ≠ 0 ∧
    (Asks base .tariffLoad (tariffBody 8 60 1439 0) ∧ tariffOf (fieldAt (tariffBody 8 60 1439 0) 0 1) = some 7 ∧
      (base.tariff 7).references = 0 ∧ fieldAt (tariffBody 8 60 1439 0) 9 1 = 60 ∧
      ∀ i : Fin 4, fieldAt (tariffBody 8 60 1439 0) (10 + 6 * i.val) 2 = 1439 ∧
        fieldAt (tariffBody 8 60 1439 0) (12 + 6 * i.val) 2 = 0) ∧
    (Asks base .tariffLoad (tariffBody 8 61 0 0) ∧ fieldAt (tariffBody 8 61 0 0) 9 1 = 61) ∧
    (Asks base .tariffLoad (tariffBody 8 0 0 1440) ∧ fieldAt (tariffBody 8 0 0 1440) 12 2 = 1440) := by
  decide

/-- TARIFF-RETIRE and TARIFF-READ of slots in each state, and out of range. -/
theorem test_w_tariff_states :
    Asks base .tariffRetire [1] ∧ (base.tariff 0).state = .active ∧ (base.tariff 7).state = .empty ∧
    ((base.setTariff 0 { base.tariff 0 with state := .retired }).tariff 0).state = .retired ∧ Asks base .tariffRead [8] ∧
    Asks base .tariffRead [0] ∧ tariffOf (fieldAt [0] 0 1) = none := by
  decide

/-- Bands 1 and 2 that both contain minute 700, band 3 of that one minute, band 4 disabled; a minute that no band contains. -/
def bands : TariffContents :=
  { fee := 0, basePrice := 30, timePrice := 0, idlePrice := 0, grace := 0
    bands := #v[⟨0, 700, 5⟩, ⟨600, 800, 6⟩, ⟨700, 700, 7⟩, ⟨1439, 0, 8⟩] }

/-- The hypotheses of the selection are met at the ends of a band, behind it, and where no band contains the minute. -/
theorem test_w_bands :
    (bands.bands[0].start ≤ 700 ∧ 700 ≤ bands.bands[0].stop) ∧ (bands.bands[1].start ≤ 701 ∧ ¬ 701 ≤ bands.bands[0].stop) ∧
    (∀ i : Fin 4, ¬ (bands.bands[i.val].start ≤ 801 ∧ 801 ≤ bands.bands[i.val].stop)) ∧
    bands.select 700 = (1, 5) ∧ bands.select 701 = (2, 6) ∧ bands.select 801 = (0, 30) := by
  decide

/-- An AUTHORISE body for pedestal 1. -/
def authorise (tariff : Byte) (hold capMark cap : Nat) : List Byte :=
  [1, tariff] ++ leBytes 4 hold ++ leBytes 1 capMark ++ leBytes 2 cap

/-- A PLUGGED vehicle at pedestal 1. -/
def plugged : State := idle .plugged base

/-- The first five checks of AUTHORISE, each failing with those before it passed. -/
theorem test_w_authorise_refused :
    (Asks base .authorise [0, 1, 1, 0, 0, 0, 0, 0, 0] ∧ pedestalOf (fieldAt [0, 1, 1, 0, 0, 0, 0, 0, 0] 0 1) = none) ∧
    (Asks .reset .authorise (authorise 1 1 0 0) ∧ pedestalOf (fieldAt (authorise 1 1 0 0) 0 1) = some 0) ∧
    Asks { plugged with clock := State.reset.clock } .authorise (authorise 1 1 0 0) ∧
    (Asks base .authorise (authorise 1 1 0 0) ∧ (base.slot 0).state ≠ .plugged) ∧
    (Asks (withLink (fun l => { l with state := .never }) plugged) .authorise (authorise 1 1 0 0)) ∧
    (Asks plugged .authorise (authorise 2 1 0 0) ∧ (plugged.tariff 1).state ≠ .active ∧
      tariffOf (fieldAt (authorise 2 1 0 0) 1 1) = some 1 ∧ tariffOf (fieldAt (authorise 9 1 0 0) 1 1) = none) := by
  decide

/-- The last three checks of AUTHORISE, each failing with those before it passed: hold 0 and 1,000,001, cap mark 2, cap 501, 24 places
taken, the numbers exhausted. -/
theorem test_w_authorise_refused_late :
    (∀ x ∈ [(0, 0, 0), (1000001, 0, 0), (1, 2, 0), (1, 1, 501)], Asks plugged .authorise (authorise 1 x.1 x.2.1 x.2.2) ∧
      fieldAt (authorise 1 x.1 x.2.1 x.2.2) 2 4 = x.1 ∧ fieldAt (authorise 1 x.1 x.2.1 x.2.2) 6 1 = x.2.1 ∧
      fieldAt (authorise 1 x.1 x.2.1 x.2.2) 7 2 = x.2.2) ∧
    (Asks { plugged with settlements := List.replicate 24 record } .authorise (authorise 1 1000000 1 500) ∧
      24 ≤ ({ plugged with settlements := List.replicate 24 record } : State).settlements.length) ∧
    Asks { plugged with exhausted := true } .authorise (authorise 1 1 0 0) := by
  decide

/-- Every check of AUTHORISE passed, with the least and the greatest hold, without a cap and with the greatest. -/
theorem test_w_authorise :
    (Asks plugged .authorise (authorise 1 1 0 0) ∧ Asks plugged .authorise (authorise 1 1000000 1 500)) ∧
    fieldAt (authorise 1 1000000 1 500) 2 4 = 1000000 ∧ fieldAt (authorise 1 1000000 1 500) 7 2 = 500 ∧
    pedestalOf (fieldAt (authorise 1 1 0 0) 0 1) = some 0 ∧ tariffOf (fieldAt (authorise 1 1 0 0) 1 1) = some 0 ∧
    plugged.control.commissioned = true ∧ plugged.clock.valid = true ∧ (plugged.slot 0).state = .plugged ∧
    (plugged.link 0).state = .up ∧ (plugged.tariff 0).state = .active ∧ plugged.openCount + plugged.settlements.length < 24 ∧
    plugged.exhausted = false := by
  decide

/-- DENY out of range, in VACANT, and in PLUGGED. -/
theorem test_w_deny :
    (Asks base .deny [17] ∧ pedestalOf (fieldAt [17] 0 1) = none) ∧ (Asks base .deny [1] ∧ (base.slot 0).state ≠ .plugged) ∧
    (Asks plugged .deny [1] ∧ pedestalOf (fieldAt [1] 0 1) = some 0 ∧ (plugged.slot 0).state = .plugged) := by
  decide

/-- Session number 1 is pedestal 1's alone, and number 2 is nobody's. -/
theorem test_w_session_numbers :
    (∀ p e, running.Holds p e → e.number ≠ 2) ∧ running.Holds 0 session ∧
    (∀ q f, running.Holds q f → f.number = 1 → q = 0) ∧
    ∀ n ∈ [1, 2], fieldAt (leBytes 4 n) 0 4 = n ∧ Asks running .stop (leBytes 4 n) := by
  refine ⟨fun p e h => ?_, by decide, fun q f h _ => (only_session running_session h).1, by decide⟩
  obtain ⟨_, rfl⟩ := only_session running_session h
  decide

/-- STOP, EXTEND-HOLD and SESSION-CAP of session 1: in each open state; a new hold at, just above the old one, at the limit and above it;
14 and 15 top-ups; caps 500, 501 and NONE. -/
theorem test_w_session_requests :
    (∀ st ∈ [SlotState.starting, .running, .suspended, .finished], Asks (open_ st session base) .stop [1, 0, 0, 0]) ∧
    (∀ n ∈ [500, 501, 1000000, 1000001], Asks running .extendHold ([1, 0, 0, 0] ++ leBytes 4 n) ∧
      fieldAt ([1, 0, 0, 0] ++ leBytes 4 n) 4 4 = n) ∧
    session.accrual.hold = 500 ∧
    (∀ n ∈ [14, 15],
      (open_ .running { session with accrual := { session.accrual with topUps := n } } base).Holds 0
        { session with accrual := { session.accrual with topUps := n } }) ∧
    ∀ n ∈ [500, 501, 0xFFFF], Asks running .sessionCap ([1, 0, 0, 0] ++ leBytes 2 n) ∧
      fieldAt ([1, 0, 0, 0] ++ leBytes 2 n) 4 2 = n := by
  decide

/-- Accrued 90 per cent of the hold, the hold itself, and less than either; with the flags clear and set; in RUNNING and elsewhere. -/
theorem test_w_hold :
    let a (energy : Nat) (set : Bool) : Accrual :=
      { session.accrual with fee := 0, energyAmount := energy, topUpRequested := set, holdReached := set }
    (∀ x ∈ [(449999, false), (450000, false), (500000, false), (500000, true)],
      (open_ .running { session with accrual := a x.1 x.2 } base).Holds 0 { session with accrual := a x.1 x.2 }) ∧
    base.params.topUpPercent = 90 ∧ 500 * 90 * 10 = 450000 := by
  decide

/-- CURTAIL before commissioning; above the ceiling; equal to and just above the cap in force; a pass with a module in PRECHARGE. -/
theorem test_w_curtail :
    Asks .reset .curtail [0, 0] ∧ Asks base .curtail [101, 0] ∧ base.control.record.ceiling = 100 ∧
    Asks base .curtail [100, 0] ∧ base.alloc.gridCap = 100 ∧
    (Asks { base with alloc := { base.alloc with gridCap := 99 } } .curtail [100, 0]) ∧
    (fieldAt [101, 0] 0 2 = 101 ∧ fieldAt [100, 0] 0 2 = 100) ∧
    ((switching .precharge .awaitingSend running).reductionPass.module 0).state = .precharge := by
  decide +kernel

/-- CUTOFF-CLEAR with a line ASSERTED, with the latch clear, and with it set: over a session that holds CUTOFF and one that does not. -/
theorem test_w_cutoff_clear :
    let latched (e : Session) : State :=
      { open_ .suspended e base with prot := { base.prot with latch := true } }
    (Asks .reset .cutoffClear [] ∧ State.reset.prot.estop.asserted = true) ∧
    (Asks base .cutoffClear [] ∧ base.prot.latch = false ∧ base.prot.trip.asserted = false) ∧
    (∀ e ∈ [held false true false, held false true true, held true false false],
      Asks (latched e) .cutoffClear [] ∧ (latched e).Holds 0 e) := by
  decide

/-- PEDESTAL-MODE with modes 0 to 3 in VACANT, WAIT_UNPLUG and PLUGGED, and for a pedestal that does not exist. -/
theorem test_w_mode :
    (∀ m ∈ [0, 1, 2, 3], ∀ st ∈ [SlotState.vacant, .waitUnplug, .plugged], Asks (idle st base) .pedestalMode [1, m] ∧
      ((idle st base).slot 0).state = st ∧ fieldAt [1, m] 1 1 = m.toNat) ∧
    Asks base .pedestalMode [0, 0] ∧ pedestalOf (fieldAt [0, 0] 0 1) = none := by
  decide

/-- PEDESTAL-RESTART out of range, before commissioning, of a pedestal that is not installed, and taken. -/
theorem test_w_pedestal_restart :
    Asks base .pedestalRestart [17] ∧ Asks .reset .pedestalRestart [1] ∧
    (Asks { base with control := { base.control with record := .cold } } .pedestalRestart [1] ∧
      ({ base with control := { base.control with record := .cold } } : State).rating 0 = 0) ∧
    (Asks running .pedestalRestart [1] ∧ running.rating 0 ≠ 0 ∧ pedestalOf (fieldAt [1] 0 1) = some 0) := by
  decide

/-- PEDESTAL-QUERY against each of its checks, and taken; an answer that matches, and answers that differ by one thing; an expiry. -/
theorem test_w_queries :
    let asking : State := withLink (fun l => { l with query := some query, queryTimer := some 9 }) base
    Asks base .pedestalQuery [17, 1] ∧ (Asks asking .pedestalQuery [1, 1] ∧ (asking.link 0).query ≠ none) ∧
    (Asks (withLink (fun l => { l with state := .silent }) base) .pedestalQuery [1, 1]) ∧
    (Asks (base.setQueue [.refuse 0]) .pedestalQuery [1, 1] ∧ (base.setQueue [.refuse 0]).unsentAt (.other 0) ≠ none) ∧
    (Asks base .pedestalQuery [1, 1] ∧ (base.link 0).query = none ∧ (base.link 0).state = .up ∧ base.unsentAt (.other 0) = none) ∧
    (asking.Hears 0 ∧ query.sent = true ∧ (0 : Byte).toNat = query.epoch.toNat ∧ (1 : Byte) = query.code ∧
      (1 : Byte).toNat ≠ query.epoch.toNat ∧ (0 : Byte) ≠ query.code) ∧
    ((asking.link 0).queryTimer = some 9 ∧ (asking.link 0).query = some query ∧ asking.Live) := by
  decide

/-! ### Hypotheses that are met: the host link's events -/

/-- The bytes of a frame, back to back. -/
def bytesOf (r : HostRecord) : List RxByte := r.wire.map fun b => ⟨b, false, 3⟩

/-- Frames of kinds 0x7E and 0x7F, the first byte and the last, in a part that hunts with fewer than 4 requests, and with 4. -/
theorem test_w_frames :
    (base.Live ∧ base.host.receiver = .hunting ∧ base.host.requests.length < 4) ∧
    (∀ k ∈ [0x7E, 0x7F],
      let r : HostRecord := { kind := k, tag := 0, body := [] }
      (bytesOf r).map RxByte.value = r.wire ∧ (∀ b ∈ bytesOf r, b.framingError = false ∧ b.time ≤ 3 + 20) ∧
      (bytesOf r).head? = some ⟨0xA5, false, 3⟩ ∧ ((bytesOf r).getLast?).isSome = true) ∧
    ({ base with host := { base.host with requests := List.replicate 4 { kind := 1, tag := 0, body := [] } } } :
      State).host.requests.length = 4 ∧
    ({ base with host := { base.host with output := List.replicate 16 { kind := 0x81, tag := 0, body := [] } } } :
      State).host.output.length = 16 := by
  decide +kernel

/-- A receiver that collects: without a sync byte among its bytes, and with one as the last. -/
theorem test_w_receiver :
    let s (got : List RxByte) : State := { base with host := { base.host with receiver := .collecting 2 got } }
    (∀ b ∈ [(⟨3, false, 4⟩ : RxByte), ⟨0xA5, true, 5⟩], b.value ≠ 0xA5 ∨ b.framingError = true) ∧
    (s [⟨3, false, 4⟩, ⟨0xA5, true, 5⟩]).host.receiver = .collecting 2 [⟨3, false, 4⟩, ⟨0xA5, true, 5⟩] ∧
    (s ([⟨3, false, 4⟩] ++ [⟨0xA5, false, 5⟩])).Live := by
  decide

/-- A record to transmit; RESTART taken; a restart that waits, and one whose reply has gone. -/
theorem test_w_restart_request :
    let r : HostRecord := { kind := 0x81, tag := 0, body := [0] }
    let s (n : Option Nat) : State := { base with host := { base.host with output := [r], restartAfter := n } }
    (s none).host.output = r :: [] ∧ (s none).host.restartAfter ≠ some 0 ∧ Asks base .restart [] ∧
    (s (some 1)).host.restartAfter = some 1 ∧ ((s (some 0)).Live ∧ (s (some 0)).host.restartAfter = some 0) := by
  decide

/-! ### Hypotheses that are met: field reports -/

/-- Pedestal 1 is heard; after the link's part it is in each state of R2, in each mode, with its session where the state has one. -/
theorem test_w_reports :
    base.Hears 0 ∧
    (∀ st ∈ [SlotState.vacant, .plugged, .waitUnplug],
      ((((idle st base).advance 5).heardAndJudged 0).slot 0).state = st) ∧
    (∀ st ∈ [SlotState.starting, .running, .suspended, .finished],
      let e := if st = .suspended then held false true false else session
      (open_ st e base).Hears 0 ∧ ((((open_ st e base).advance 5).heardAndJudged 0).slot 0).state = st ∧
        (((open_ st e base).advance 5).heardAndJudged 0).Holds 0 e) ∧
    ∀ m ∈ [PedestalMode.inService, .closingDown, .outOfService],
      (((base.setSlot 0 { base.slot 0 with mode := m }).heardAndJudged 0).slot 0).mode = m := by
  decide

/-- READY in STARTING with the latch clear and the hold far, with the latch set, and with the hold reached by the fee. -/
theorem test_w_ready :
    let starting (hold : Nat) : State :=
      open_ .starting { session with accrual := { session.accrual with fee := 0, hold := hold } } base
    ((starting 500).Hears 0 ∧ (starting 500).prot.latch = false ∧ 50 * 1000 < 500 * 1000) ∧
    ({ starting 500 with prot := { base.prot with latch := true } } : State).prot.latch = true ∧
    ((starting 50).Hears 0 ∧ (starting 50).Holds 0 { session with accrual := { session.accrual with fee := 0, hold := 50 } } ∧
      ((starting 50).tariff 0).contents.fee = 50) := by
  decide

/-- A register below, at and above the one kept; a session that has metered and one that has not; a setpoint of 20 kW, for which 25 kW
are allowed: 100 ms and 99 ms since the report before, no report before, and each strike count. -/
theorem test_w_meter :
    let with_ (f : Accrual → Accrual) : State := open_ .running { session with accrual := f session.accrual } base
    (running.link 0).register = some 100 ∧ (base.slot 0).session = none ∧ running.Holds 0 session ∧
    (with_ fun a => { a with base := none }).Holds 0 { session with accrual := { session.accrual with base := none } } ∧
    session.accrual.base = some 100 ∧ session.accrual.previousArrival = some 0 ∧
    ((running.advance 99).now - 0 < 100 ∧ 100 ≤ (running.advance 100).now - 0) ∧
    (max (running.allot 0).setpoint session.accrual.previousSetpoint = 20 ∧ 20 + max (20 / 10) 5 = 25) ∧
    (0 * 3600 ≤ 25 * 100 ∧ 25 * 100 < 1 * 3600) ∧
    ∀ n ∈ [1, 2, 3], (with_ fun a => { a with strikes := n }).Holds 0
      { session with accrual := { session.accrual with strikes := n } } := by
  decide

/-- A session held by LINK alone over a SILENT link, whose report brings it to RUNNING and its hold comparison back. -/
theorem test_w_meter_stays :
    let s : State := withLink (fun l => { l with state := .silent })
      (open_ .suspended
        { held true false false with accrual := { session.accrual with hold := 51, energyAmount := 990 } } base)
    s.Hears 0 ∧ (s.slot 0).state = .suspended ∧ (((s.advance 5).heardAndJudged 0).slot 0).state = .running ∧
    ((((s.advance 5).heardAndJudged 0).takeMeter 0 101).slot 0).state = .suspended := by
  decide

/-- Frames that the acceptance refuses for each of its grounds; a pedestal and a module that are not heard; a controller in bus-off. -/
theorem test_w_unaccepted :
    frameReport ⟨true, false, 1283, [1, 2, 0, 0]⟩ = none ∧
    (∀ n ∈ [0, 17, 32, 65, 79, 81], frameReport ⟨false, false, BitVec.ofNat 29 (7 * 128 + n), [1]⟩ = none) ∧
    (¬ State.reset.Hears 0 ∧ ¬ State.reset.HearsModule 0) ∧
    ({ base with field := { base.field with can := .busOff } } : State).field.can = .busOff ∧
    ∀ k ∈ [6, 13], frameReport ⟨false, false, BitVec.ofNat 29 (k * 128 + 1), [1]⟩ = none := by
  decide

/-! ### Hypotheses that are met: timers, modules, protection -/

/-- Each timer of a slot running in the state that has it, and stopped; a link UP with its report timer running. -/
theorem test_w_timers :
    (((base.setSlot 0 { base.slot 0 with state := .plugged, authWait := some 9 }).slot 0).authWait = some 9 ∧
      (base.slot 0).authWait = none ∧ base.Live) ∧
    (open_ .starting { session with startWait := some 9 } base).Holds 0 { session with startWait := some 9 } ∧
    (running.Holds 0 session ∧ session.startWait = none ∧ session.resumeWindow = none ∧ session.extensionWindow = none) ∧
    (open_ .finished { session with resumeWindow := some 9 } base).Holds 0 { session with resumeWindow := some 9 } ∧
    (open_ .suspended { held false false true with extensionWindow := some 9 } base).Holds 0
      { held false false true with extensionWindow := some 9 } ∧
    ((base.link 0).state = .up ∧ (base.link 0).reportTimer = some 3000) := by
  decide

/-- Module 1 is heard in every state but ABSENT, with its timer running, with and without the release-on-close mark. -/
theorem test_w_modules :
    (∀ st ∈ [ModuleState.free, .precharge, .contactClose, .assigned, .rampDown, .contactOpen, .faulted],
      (switching st (.running 9) base).HearsModule 0 ∧ ((switching st (.running 9) base).module 0).state = st ∧
        ((switching st (.running 9) base).module 0).timer = .running 9) ∧
    ((switching .contactClose (.running 9) base).module 0).assigned = some 0 ∧
    ((switching .contactClose (.running 9) base).module 0).releaseOnClose = false ∧
    (((base.setModule 0 { base.module 0 with state := .contactClose, releaseOnClose := true }).module 0).releaseOnClose = true) ∧
    Asks base .moduleReturn [33] ∧ (Asks base .moduleReturn [1] ∧ (base.module 0).state ≠ .faulted) ∧
    Asks (switching .faulted .stopped base) .moduleReturn [1] := by
  decide

/-- A reading with sag enable off; with it on, settling 3, 1 and 0; at the threshold of index 8 and one below it; the timers running and
stopped. -/
theorem test_w_grid_meter :
    let on (n : Nat) : State :=
      { base with
        control := { base.control with params := { Params.default with sagEnable := true } }
        prot := { base.prot with settling := n, recoveryHold := some 9, silence := some 9 } }
    (base.Live ∧ base.field.can = .onBus ∧ base.params.sagEnable = false) ∧
    (∀ n ∈ [3, 1, 0], (on n).Live ∧ (on n).params.sagEnable = true ∧ (on n).prot.settling = n) ∧
    ((869 : BitVec 16).toNat < 800 + 10 * (8 - 1) ∧ 800 + 10 * (8 - 1) ≤ (870 : BitVec 16).toNat) ∧ (on 0).params.sagIndex = 8 ∧
    ((on 0).prot.recoveryHold = some 9 ∧ (on 0).prot.silence = some 9 ∧ base.prot.recoveryHold = none ∧
      base.prot.silence = none) := by
  decide

/-- A line RELEASED with 4 and with 5 low samples at a filter length of 5, a line ASSERTED with 5 high ones; the latch clear and set. -/
theorem test_w_lines :
    let lows (n : Nat) : BitVec 16 := (base.prot.filter .estop).samples <<< n
    let highs (n : Nat) : BitVec 16 := ~~~(~~~(State.reset.prot.filter .trip).samples <<< n)
    base.params.filterLength = 5 ∧ (base.prot.filter .estop).asserted = false ∧
    (∀ i, i < 5 → (lows 5).getLsbD i = false) ∧ (lows 4).getLsbD 4 = true ∧
    (State.reset.prot.filter .trip).asserted = true ∧ (∀ i, i < 5 → (highs 5).getLsbD i = true) ∧
    (highs 4).getLsbD 4 = false ∧ base.prot.latch = false ∧ State.reset.prot.latch = true := by
  decide

/-- The period timer running; a RUNNING slot with its session; a minute of a RUNNING session with a setpoint and without; of a FINISHED
one with its link UP and SILENT, with grace and without, with the hold reached and not. -/
theorem test_w_time :
    (base.Live ∧ running.alloc.periodTimer = some 500 ∧ (running.slot 0).state = .running) ∧
    (0 < (running.allot 0).setpoint ∧ ((open_ .running session base).allot 0).setpoint = 0) ∧
    (∀ a ∈ [{ session.accrual with grace := 1 }, session.accrual, { session.accrual with holdReached := true }],
      (open_ .finished { session with accrual := a } base).Holds 0 { session with accrual := a } ∧
        ((open_ .finished { session with accrual := a } base).link 0).state = .up) ∧
    ((withLink (fun l => { l with state := .silent }) (open_ .finished session base)).link 0).state ≠ .up ∧
    ((open_ .finished session base).tariff 0).contents.grace = 1 := by
  decide

/-! ### Results of the passes, the receiver and the restarts -/

/-- What a command leaves, read by a function. -/
def read {α : Type} (c : Instr) (s : State) (f : State → α) : Option α :=
  match exec c s with
  | .next t => some (f t)
  | .fault _ => none
  | .refused _ => none

/-- A return of the main supply without the backup supply is a cold start, whatever the marker says; with it, the open session is
settled (R182, R184). -/
theorem test_missing_backup_is_cold_start :
    read (.mainSupplyReturn 0 0 false none) (dark true) (fun t => (t.control.lastKind, t.settlements.length, t.nextSession)) =
      some (.cold, 0, 1) ∧
    read (.mainSupplyReturn 0 0 true none) (dark true) (fun t => (t.control.lastKind, t.settlements.length, t.nextSession)) =
      some (.supply, 1, 2) := by
  decide +kernel

/-- The marker, and the kind of the restart at the return of the main supply, where the backup supply was lost before the main supply:
fitted again by then, the store is kept; still missing, or lost in the outage, it is not (R182). -/
theorem test_marker_follows_both_supplies :
    (read .backupSupplyLoss running fun a => read (.mainSupplyLoss ⟨0, true⟩) a fun b =>
      read (.mainSupplyReturn 0 0 true none) b fun t => (b.control.marker, t.control.lastKind)) =
        some (some (some (true, .supply))) ∧
    (read .backupSupplyLoss running fun a => read (.mainSupplyLoss ⟨0, false⟩) a fun b =>
      read (.mainSupplyReturn 0 0 true none) b fun t => (b.control.marker, t.control.lastKind)) =
        some (some (some (false, .cold))) ∧
    (read (.mainSupplyLoss ⟨0, true⟩) running fun a => read .backupSupplyLoss a fun b =>
      read (.mainSupplyReturn 0 0 true none) b fun t => (b.control.marker, t.control.lastKind)) =
        some (some (some (false, .cold))) := by
  decide +kernel

/-- A cold start abandoned before its first action, and the reset pulse behind it, leave no session and no record (R184, R185). -/
theorem test_abandoned_cold_start_has_no_store :
    read (.mainSupplyReturn 0 0 true (some 0)) (dark false) (fun t => (t.openCount, t.settlements.length)) = some (0, 0) ∧
    (read (.mainSupplyReturn 0 0 true (some 0)) (dark false) fun a =>
      read (.resetLinePulse 0 0 none) a fun t => (t.openCount, t.settlements.length)) = some (some (0, 0)) := by
  decide +kernel

/-- Two sessions with a demand of 3 share 5 modules from pedestal 1 on, and 5 modules from pedestal 2 on; one module goes to the older
session (R93). -/
theorem test_share :
    let share (pointer : Pedestal) (m : Nat) : Share := shareBudget [1, 0] (fun p => if p.val < 2 then 3 else 0) pointer m
    ((share 15 5).grants[0], (share 15 5).grants[1], (share 15 5).last) = (3, 2, some 0) ∧
    ((share 0 5).grants[0], (share 0 5).grants[1], (share 0 5).last) = (2, 3, some 1) ∧
    ((share 0 1).grants[0], (share 0 1).grants[1], (share 0 1).last) = (0, 1, none) := by
  decide +kernel

/-- A sync byte alone at 0 ms and a frame from 15 ms on: the byte at 21 ms makes the first frame bad, and the second sync, found among
its bytes, has started a frame of its own that this byte completes (R164). -/
theorem test_second_sync_is_found :
    let r : HostRecord := { kind := 1, tag := 9, body := [] }
    receive .hunting (⟨0xA5, false, 0⟩ :: r.wire.dropLast.map (fun b => ⟨b, false, 15⟩) ++ [⟨r.wire.getLastD 0, false, 21⟩]) =
      (.hunting, [r]) := by
  decide +kernel

/-! ### Hypotheses that are met: passes, windows, layouts, restarts -/

/-- The computed park power before commissioning, with the latch set, with derate active and without; above P_av, equal to it and below;
a setpoint above a limit, equal to it and below; each window stopped and running; a pedestal that holds no session. -/
theorem test_w_power_values :
    (State.reset.control.commissioned = false ∧ State.reset.prot.latch = true) ∧
    (base.control.commissioned = true ∧ base.prot.latch = false ∧ base.prot.derate = false ∧
      ({ base with prot := { base.prot with derate := true } } : State).prot.derate = true) ∧
    (base.computedPower = base.alloc.pAv ∧
      ({ base with prot := { base.prot with derate := true } } : State).computedPower < base.alloc.pAv) ∧
    ((running.slot 0).state = .running ∧ 0 < running.control.record.rating ∧ 0 < running.demandOf 0 ∧
      (base.slot 0).state ≠ .running) ∧
    ((running.allot 0).setpoint = running.setpointValue 0 ∧ (base.setAllot 0 { base.allot 0 with setpoint := 1 }).setpointValue 0 ≠ 1) ∧
    (20 ≤ (running.allot 0).setpoint ∧ (running.allot 0).setpoint ≤ 20 ∧ 19 < (running.allot 0).setpoint) ∧
    (session.resumeWindow = none ∧ session.extensionWindow = none ∧ (base.slot 0).session = none) ∧
    (running.Holds 0 session ∧
      (open_ .suspended { session with resumeWindow := some 9, extensionWindow := some 9 } base).Holds 0
        { session with resumeWindow := some 9, extensionWindow := some 9 }) := by
  decide +kernel

/-- A list of sessions without repetition; a last module of pass 2, and a pass 2 that gives none. -/
theorem test_w_share :
    ([1, 0] : List Pedestal).Nodup ∧
    (let further (p : Pedestal) : Nat := if p.val < 2 then 2 else 0
     let before (p : Pedestal) (j : Nat) : Nat :=
       sumOver fun q => min (further q) j + (decide ((q.val + 15 - 15) % 16 < (p.val + 15 - 15) % 16) && decide (j < further q)).toNat
     (1 : Nat) < further 0 ∧ before 0 1 + 1 = min (5 - 2) (sumOver further)) ∧
    min (1 - 1) (sumOver fun p : Pedestal => if p.val = 1 then 2 else 0) = 0 := by
  decide +kernel

/-- Pedestal 1 holds module 1 in PRECHARGE, module 2 in CONTACT_CLOSE, modules 3 and 4 in ASSIGNED, with a setpoint of 40 kW and a
grant. -/
def holding (grant : Nat) : State :=
  let put (m : ModuleNo) (st : ModuleState) (timer : SeqTimer) (s : State) : State :=
    s.setModule m { s.module m with state := st, assigned := some 0, timer := timer }
  put 0 .precharge .awaitingSend (put 1 .contactClose (.running 9) (put 2 .assigned .stopped (put 3 .assigned .stopped
    ((open_ .running session base).setAllot 0 { demand := 3, grant := grant, setpoint := 40, cap := none, stagedCap := none }))))

/-- Modules released and kept, from each state, at the counts where the next state's turn comes; the setpoint lowered by the last of
them alone; places without an unsent order; modules assigned up to the grant and no further. -/
theorem test_w_releases :
    ((holding 4).heldCount 0 = 4 ∧ (holding 4).releases 0 4 0 = false ∧ (holding 4).releases 0 3 0 = true ∧
      (holding 4).releases 0 3 1 = false ∧ (holding 4).releases 0 2 1 = true ∧ (holding 4).releases 0 2 3 = false ∧
      (holding 4).releases 0 1 3 = true ∧ (holding 4).releases 0 1 2 = false ∧ (holding 4).releases 0 0 2 = true) ∧
    ((holding 4).releasedFrom 0 2 .assigned = [] ∧ (holding 4).releasedFrom 0 0 .assigned = [3, 2]) ∧
    (min 40 (1 * 20) ≠ ((holding 4).allot 0).setpoint ∧ (holding 4).unsentAt (.setpoint 0) = none ∧
      ∀ m, (holding 4).unsentAt (.module m) = none) ∧
    ((holding 6).assigns 0 4 = true ∧ (holding 6).assigns 0 5 = true ∧ (holding 6).assigns 0 6 = false) ∧
    (holding 6).runningBySession = [0] := by
  decide +kernel

/-- The lowered setpoint's order stands ahead of the MD-OPEN of a PRECHARGE module and of the MD-RAMPs (R94); a release of the
PRECHARGE module alone queues none. -/
theorem test_setpoint_ahead_of_releases :
    ((holding 4).releaseBeyond 0 1).field.queue = [.setpoint 0 20, .openContact 0, .ramp 3] ∧
      ((holding 4).releaseBeyond 0 3).field.queue = [.openContact 0] := by
  decide +kernel

/-- A reduction that lowers a setpoint, and one that does not; modules it releases and keeps, and a module that none holds; an empty
queue. -/
theorem test_w_reduction :
    let cut : State := { holding 4 with alloc := { (holding 4).alloc with budget := 1 } }
    (cut.reductionPass.allot 0).grant = 1 ∧ 1 * 20 < (cut.allot 0).setpoint ∧ ((holding 4).allot 0).setpoint ≤ 3 * 20 ∧
    (cut.module 0).heldFor 0 = true ∧ cut.releases 0 1 0 = true ∧ cut.releases 0 1 2 = false ∧
    (∀ p, (cut.module 31).heldFor p = false) ∧ cut.field.queue = [] := by
  decide +kernel

/-- A regular pass that fills every demand, and one that cannot; a pedestal left short of modules that reach it. -/
theorem test_w_pass :
    let poor : State := { holding 4 with modules := Vector.replicate 32 { base.module 0 with window := { first := 2, last := 16 } } }
    ((holding 4).alloc.periodTimer = some 500 ∧ (holding 4).Live ∧ (holding 4).slots = (open_ .running session base).slots) ∧
    (∀ p, ((holding 4).slot p).state = .running → ((holding 4).slot p).session ≠ none) ∧
    ((holding 4).regularPass.allot 0).grant = 3 ∧
    (poor.regularPass.heldCount 0 = 0 ∧ (poor.regularPass.allot 0).grant = 3 ∧ (poor.regularPass.module 0).state = .free) ∧
    ((holding 4).module 4).state = .free ∧ (∀ p, ((holding 4).module 4).heldFor p = false) ∧
    (((holding 4).setModule 4 { base.module 4 with state := .faulted }).module 4).state ≠ .free := by
  decide +kernel

/-- A forced opening with a setpoint above 0 and with one of 0; a cutoff with a RUNNING slot and with none. -/
theorem test_w_forced :
    (0 < (holding 4).assignedCount 0 ∧ 0 < ((holding 4).allot 0).setpoint ∧ base.assignedCount 0 = 0) ∧
    (running.slot 0).state = .running ∧ ∀ p, (base.slot p).state ≠ .running := by
  decide +kernel

/-- A CUTOFF-CLEAR that returns a slot, and one that returns none. -/
theorem test_w_returns :
    let latched (e : Session) : State := { open_ .suspended e base with prot := { base.prot with latch := true } }
    ((latched (held false true false)).Holds 0 (held false true false) ∧
      ((latched (held false true false)).slot 0).state = .suspended ∧
      ({ (held false true false).reasons with cutoff := false } : ReasonSet).isEmpty = true) ∧
    ({ (held true true false).reasons with cutoff := false } : ReasonSet).isEmpty = false := by
  decide

/-- A byte of COLLECTING that breaks the frame by its stop bit, by 21 ms, by a length of 1 and of 249; bytes at 20 ms and of lengths 2
and 248; a last CRC byte that matches, one that does not, and a byte before it; a run that completes no frame. -/
theorem test_w_bad_frames :
    let r : HostRecord := { kind := 1, tag := 9, body := [] }
    let sent := r.wire.drop 1
    ((∀ n ∈ [1, 249], n < 2 ∨ 248 < n) ∧ ∀ n ∈ [2, 248], ¬ (n < 2 ∨ 248 < n)) ∧ (2 + 20 < 23 ∧ ¬ 2 + 20 < 22) ∧
    (sent.length = 2 + 3 ∧ crc16 (sent.take 3) = BitVec.ofNat 16 (ofLe (sent.drop 3)) ∧
      crc16 (sent.take 3) ≠ BitVec.ofNat 16 (ofLe [0, 0])) ∧
    (receive .hunting [⟨0xA5, false, 2⟩, ⟨1, false, 3⟩]).2 = [] ∧
    ([⟨0xA5, false, 2⟩, ⟨1, false, 3⟩] : List RxByte).getLast? = some ⟨1, false, 3⟩ := by
  decide +kernel

/-- An open session with four interruption entries, and a record with as many; the fields before a field of a layout. -/
theorem test_w_layouts :
    let entry : Interruption := { reason := .link, startDay := 1, startMinute := 2, duration := some 3 }
    (open_ .running { session with interruptions := List.replicate 4 entry } base).Holds 0
      { session with interruptions := List.replicate 4 entry } ∧
    (List.replicate 4 entry).length ≤ 4 ∧ (base.slot 0).session = none := by
  decide

end Sys2Proof.Tests
end

section
/-! # The requests of the Tariff Store, and band selection (R43, R45 to R50)

What a taken request answers is read off its owner's equations, one for each branch of the owner; band selection is read off the bands
that contain the minute. -/

namespace Sys2Proof.Machine

/-! ### From an owner's answer to the next state -/

section
variable {k : RequestKind} {s : State} {r : HostRecord} {owner : HostRecord → State → Taken}

/-- A request that its owner refuses is answered with the code, and nothing else changes (R169). -/
theorem takeRequest_of_refuse {code : ResultCode} (h : s.Takes k r) (hcode : code ≠ .ok)
    (howner : owner r s.dropHead = refuse code s.dropHead) :
    takeRequest k s owner = .next (s.answered r code []) := by
  rw [takeRequest_of_takes owner h, howner]
  exact congrArg Host.Outcome.next (reply_of_refusal s r code hcode)

/-- A request that its owner accepts without a change is answered OK, and nothing else changes. -/
theorem takeRequest_of_accept {fields : List Byte} (h : s.Takes k r)
    (howner : owner r s.dropHead = accept fields s.dropHead) :
    takeRequest k s owner = .next (s.answered r .ok fields) := by
  rw [takeRequest_of_takes owner h, howner]
  exact congrArg Host.Outcome.next (dropHead_reply_ok s r fields)

/-- A request that its owner accepts and that writes a tariff slot is answered OK, and the tariffs alone change besides. -/
theorem takeRequest_of_accept_setTariff {fields : List Byte} {n : TariffNo} {x : TariffSlot} (h : s.Takes k r)
    (howner : owner r s.dropHead = accept fields (s.dropHead.setTariff n x)) :
    takeRequest k s owner = .next { s.answered r .ok fields with tariffs := s.tariffs.set n.val x } := by
  rw [takeRequest_of_takes owner h, howner]
  exact congrArg Host.Outcome.next (reply_of_ok _ r fields)

end

/-! ### The contents that a body carries (R45) -/

/-- Checks 3 and 4 of R45 bound the grace by 60 and each band's two minutes by 1439. -/
theorem TariffContents.inRange_iff (c : TariffContents) :
    c.inRange = true ↔
      c.grace ≤ 60 ∧ ∀ i : Fin 4, c.bands[i.val].start ≤ 1439 ∧ c.bands[i.val].stop ≤ 1439 := by
  simp [TariffContents.inRange, Config.minutesPerDay, Fin.forall_iff, Nat.lt_succ_iff]

/-- The contents in a TARIFF-LOAD body, field by field. -/
theorem contentsAt_one (body : List Byte) :
    contentsAt body 1 =
      { fee := fieldAt body 1 2, basePrice := fieldAt body 3 2, timePrice := fieldAt body 5 2
        idlePrice := fieldAt body 7 2, grace := fieldAt body 9 1
        bands := Vector.ofFn fun i =>
          { start := fieldAt body (10 + 6 * i.val) 2, stop := fieldAt body (12 + 6 * i.val) 2
            price := fieldAt body (14 + 6 * i.val) 2 } } := by
  have hstop (i : Fin 4) : 1 + 9 + 6 * i.val + 2 = 12 + 6 * i.val := by omega
  have hprice (i : Fin 4) : 1 + 9 + 6 * i.val + 4 = 14 + 6 * i.val := by omega
  simp only [contentsAt, bandAt, hstop, hprice]

/-- The contents in a TARIFF-LOAD body pass checks 3 and 4 of R45 exactly where the body's grace and band minutes do. -/
theorem contentsAt_one_inRange_iff (body : List Byte) :
    (contentsAt body 1).inRange = true ↔
      fieldAt body 9 1 ≤ 60 ∧
        ∀ i : Fin 4, fieldAt body (10 + 6 * i.val) 2 ≤ 1439 ∧ fieldAt body (12 + 6 * i.val) 2 ≤ 1439 := by
  simp [TariffContents.inRange_iff, contentsAt_one]

/-! ### TARIFF-LOAD (R43, R45, R46) -/

/-- Check 1: the body names no slot. -/
theorem tariffLoad_of_no_slot (s : State) {body : List Byte} (hn : tariffOf (fieldAt body 0 1) = none) :
    s.tariffLoad body = refuse .range s := by
  simp [State.tariffLoad, hn]

section
variable (s : State) {body : List Byte} {n : TariffNo}

/-- Check 2: the slot is referred to. -/
theorem tariffLoad_of_references (hn : tariffOf (fieldAt body 0 1) = some n) (href : (s.tariff n).references ≠ 0) :
    s.tariffLoad body = refuse .inUse s := by
  simp [State.tariffLoad, hn, href]

/-- Checks 3 and 4: the contents are out of range. -/
theorem tariffLoad_of_out_of_range (hn : tariffOf (fieldAt body 0 1) = some n) (href : (s.tariff n).references = 0)
    (hbad : ¬ (contentsAt body 1).inRange = true) :
    s.tariffLoad body = refuse .range s := by
  simp [State.tariffLoad, hn, href, hbad]

/-- The checks passed: the contents are written whole, the version advances, and the slot is ACTIVE. -/
theorem tariffLoad_of_inRange (hn : tariffOf (fieldAt body 0 1) = some n) (href : (s.tariff n).references = 0)
    (hgood : (contentsAt body 1).inRange = true) :
    s.tariffLoad body =
      accept (leBytes 2 ((s.tariff n).version + 1).toNat)
        (s.setTariff n
          { state := .active, version := (s.tariff n).version + 1, references := 0, contents := contentsAt body 1 }) := by
  simp [State.tariffLoad, hn, href, hgood]

end

/-! ### TARIFF-RETIRE (R47) -/

/-- The body names no slot. -/
theorem tariffRetire_of_no_slot (s : State) {body : List Byte} (hn : tariffOf (fieldAt body 0 1) = none) :
    s.tariffRetire body = refuse .range s := by
  simp [State.tariffRetire, hn]

section
variable (s : State) {body : List Byte} {n : TariffNo}

/-- An ACTIVE slot becomes RETIRED. -/
theorem tariffRetire_of_active (hn : tariffOf (fieldAt body 0 1) = some n) (hstate : (s.tariff n).state = .active) :
    s.tariffRetire body = accept [] (s.setTariff n { s.tariff n with state := .retired }) := by
  simp [State.tariffRetire, hn, hstate]

/-- A RETIRED slot stays as it is. -/
theorem tariffRetire_of_retired (hn : tariffOf (fieldAt body 0 1) = some n) (hstate : (s.tariff n).state = .retired) :
    s.tariffRetire body = accept [] s := by
  simp [State.tariffRetire, hn, hstate]

/-- An EMPTY slot cannot be retired. -/
theorem tariffRetire_of_empty (hn : tariffOf (fieldAt body 0 1) = some n) (hstate : (s.tariff n).state = .empty) :
    s.tariffRetire body = refuse .state s := by
  simp [State.tariffRetire, hn, hstate]

end

/-! ### TARIFF-READ (R48) -/

/-- The body names no slot. -/
theorem tariffRead_of_no_slot (s : State) {body : List Byte} (hn : tariffOf (fieldAt body 0 1) = none) :
    s.tariffRead body = refuse .range s := by
  simp [State.tariffRead, hn]

/-- A slot's state, version, reference count and contents are the fields of the reply. -/
theorem tariffRead_of_slot (s : State) {body : List Byte} {n : TariffNo} (hn : tariffOf (fieldAt body 0 1) = some n) :
    s.tariffRead body = accept (s.tariff n).bytes s := by
  simp [State.tariffRead, hn]

/-! ### What the commands run -/

/-- TARIFF-LOAD is the taking of a request that `State.tariffLoad` answers. -/
theorem exec_tariffLoad (s : State) :
    exec .tariffLoad s = takeRequest .tariffLoad s fun r s => s.tariffLoad r.body := rfl

/-- TARIFF-RETIRE is the taking of a request that `State.tariffRetire` answers. -/
theorem exec_tariffRetire (s : State) :
    exec .tariffRetire s = takeRequest .tariffRetire s fun r s => s.tariffRetire r.body := rfl

/-- TARIFF-READ is the taking of a request that `State.tariffRead` answers. -/
theorem exec_tariffRead (s : State) :
    exec .tariffRead s = takeRequest .tariffRead s fun r s => s.tariffRead r.body := rfl

/-! ### Band selection (R49, R50) -/

/-- A band contains the minutes from its start to its end. -/
theorem Band.contains_iff (b : Band) (minute : Nat) : b.contains minute = true ↔ b.start ≤ minute ∧ minute ≤ b.stop := by
  simp [Band.contains]

/-- The selected band is the lowest-numbered one that contains the minute. -/
theorem TariffContents.select_of_lowest {c : TariffContents} {minute : Nat} (i : Fin 4) (hi : c.bands[i.val].contains minute = true)
    (hbelow : ∀ j : Fin 4, j < i → ¬ c.bands[j.val].contains minute = true) :
    c.select minute = (i.succ, c.bands[i.val].price) := by
  unfold TariffContents.select
  match i with
  | 0 => exact if_pos hi
  | 1 => exact (if_neg (hbelow 0 (by decide))).trans (if_pos hi)
  | 2 =>
    calc
      _ = _ := if_neg (hbelow 0 (by decide))
      _ = _ := if_neg (hbelow 1 (by decide))
      _ = _ := if_pos hi
  | 3 =>
    calc
      _ = _ := if_neg (hbelow 0 (by decide))
      _ = _ := if_neg (hbelow 1 (by decide))
      _ = _ := if_neg (hbelow 2 (by decide))
      _ = _ := if_pos hi

/-- Where no band contains the minute, base is selected. -/
theorem TariffContents.select_of_none {c : TariffContents} {minute : Nat}
    (hnone : ∀ i : Fin 4, ¬ c.bands[i.val].contains minute = true) :
    c.select minute = (0, c.basePrice) := by
  unfold TariffContents.select
  calc
    _ = _ := if_neg (hnone 0)
    _ = _ := if_neg (hnone 1)
    _ = _ := if_neg (hnone 2)
    _ = _ := if_neg (hnone 3)

/-! ### The obligation -/

/-- Settles O34: each clause is the owner's equation for one branch, carried to the next state by what a refusal, an acceptance and a
written slot leave; band selection splits on the lowest band that contains the minute. -/
theorem tariffRequestsAndBandSelection : Obligations.TariffRequestsAndBandSelection := by
  refine ⟨fun s r h => ⟨?loadNoSlot, ?loadSlot⟩, fun s r h => ⟨?retireNoSlot, ?retireSlot⟩,
    fun s r h => ⟨?readNoSlot, ?readSlot⟩, fun c minute => ⟨?lowestBand, ?base⟩⟩
  case loadNoSlot =>
    intro hn
    rw [exec_tariffLoad]
    exact takeRequest_of_refuse h (by decide) (tariffLoad_of_no_slot _ hn)
  case loadSlot =>
    intro n hn
    rw [exec_tariffLoad]
    refine ⟨fun href => ?references, fun href hbad => ?outOfRange, fun href hgood => ?taken⟩
    case references =>
      exact takeRequest_of_refuse h (by decide) (tariffLoad_of_references s.dropHead hn href)
    case outOfRange =>
      have hrange := mt (contentsAt_one_inRange_iff r.body).1 hbad
      exact takeRequest_of_refuse h (by decide) (tariffLoad_of_out_of_range s.dropHead hn href hrange)
    case taken =>
      have hrange := (contentsAt_one_inRange_iff r.body).2 hgood
      have haccept := tariffLoad_of_inRange s.dropHead hn href hrange
      rw [contentsAt_one] at haccept
      exact takeRequest_of_accept_setTariff h haccept
  case retireNoSlot =>
    intro hn
    rw [exec_tariffRetire]
    exact takeRequest_of_refuse h (by decide) (tariffRetire_of_no_slot _ hn)
  case retireSlot =>
    intro n hn
    rw [exec_tariffRetire]
    refine ⟨fun hstate => ?active, fun hstate => ?retired, fun hstate => ?empty⟩
    case active => exact takeRequest_of_accept_setTariff h (tariffRetire_of_active s.dropHead hn hstate)
    case retired => exact takeRequest_of_accept h (tariffRetire_of_retired s.dropHead hn hstate)
    case empty => exact takeRequest_of_refuse h (by decide) (tariffRetire_of_empty s.dropHead hn hstate)
  case readNoSlot =>
    intro hn
    rw [exec_tariffRead]
    exact takeRequest_of_refuse h (by decide) (tariffRead_of_no_slot _ hn)
  case readSlot =>
    intro n hn
    rw [exec_tariffRead]
    exact takeRequest_of_accept h (tariffRead_of_slot s.dropHead hn)
  case lowestBand =>
    intro i hstart hstop hbelow
    exact TariffContents.select_of_lowest i ((Band.contains_iff _ _).2 ⟨hstart, hstop⟩)
      fun j hj => mt (Band.contains_iff _ _).1 (hbelow j hj)
  case base =>
    exact fun hnone => TariffContents.select_of_none fun i => mt (Band.contains_iff _ _).1 (hnone i)

end Sys2Proof.Machine
end

section
/-! # The Settlement Queue's requests (R81, R82)

The owners of SETTLE-READ and SETTLE-FREE look at the queue's head alone: an equation for each case of the queue, and for SETTLE-FREE of
the number given. -/

namespace Sys2Proof.Machine

/-- A field of one byte. -/
theorem leBytes_one (n : Nat) : leBytes 1 n = [BitVec.ofNat 8 n] := rfl

/-- A request that its owner accepts leaves the owner's state with the OK reply at the output's tail (R166). -/
theorem takeRequest_of_accept_changed {k : RequestKind} {s t : State} {r : HostRecord} {owner : HostRecord → State → Taken}
    {fields : List Byte} (h : s.Takes k r) (howner : owner r s.dropHead = accept fields t) :
    takeRequest k s owner = .next (t.pushOutput (replyTo r .ok fields)) := by
  rw [takeRequest_of_takes owner h, howner]
  exact congrArg Host.Outcome.next (reply_of_ok t r fields)

section
variable {s : State}

/-! ### SETTLE-READ (R81) -/

/-- An empty queue has no record to read. -/
theorem settleRead_of_empty (hq : s.settlements = []) : s.settleRead = refuse .empty s := by
  simp [State.settleRead, hq]

/-- The occupancy and the whole head record are the fields of the reply. -/
theorem settleRead_of_head {head : Settlement} {rest : List Settlement} (hq : s.settlements = head :: rest) :
    s.settleRead = accept (BitVec.ofNat 8 (rest.length + 1) :: head.bytes) s := by
  simp [State.settleRead, hq, leBytes_one]

/-! ### SETTLE-FREE (R82) -/

/-- An empty queue has no record to free. -/
theorem settleFree_of_empty (body : List Byte) (hq : s.settlements = []) : s.settleFree body = refuse .empty s := by
  simp [State.settleFree, hq]

section
variable {body : List Byte} {head : Settlement} {rest : List Settlement}

/-- A head of another number stays. -/
theorem settleFree_of_mismatch (hq : s.settlements = head :: rest) (hnumber : head.number ≠ fieldAt body 0 4) :
    s.settleFree body = refuse .mismatch s := by
  simp [State.settleFree, hq, hnumber]

/-- A head of the number given leaves the queue, and the reply carries the occupancy that remains. -/
theorem settleFree_of_match (hq : s.settlements = head :: rest) (hnumber : head.number = fieldAt body 0 4) :
    s.settleFree body = accept [BitVec.ofNat 8 rest.length] { s with settlements := rest } := by
  simp [State.settleFree, hq, hnumber, leBytes_one]

end
end

/-! ### What the commands run -/

/-- SETTLE-READ is the taking of a request that `State.settleRead` answers. -/
theorem exec_settleRead (s : State) :
    exec .settleRead s = takeRequest .settleRead s fun _ s => s.settleRead := rfl

/-- SETTLE-FREE is the taking of a request that `State.settleFree` answers. -/
theorem exec_settleFree (s : State) :
    exec .settleFree s = takeRequest .settleFree s fun r s => s.settleFree r.body := rfl

/-! ### The obligation -/

/-- Settles O31: the owners' equations hold of the state without the request, whose queue is that of the state before, and each is
carried to the next state by what a refusal and an acceptance leave. -/
theorem settlementQueueIsReadAndFreedAtTheHead : Obligations.SettlementQueueIsReadAndFreedAtTheHead := by
  have hdrop (s : State) : s.dropHead.settlements = s.settlements := by simp
  refine ⟨fun s r h => ?read, fun s r h => ?free⟩
  case read =>
    rw [exec_settleRead]
    refine ⟨fun hq => ?readEmpty, fun head rest hq => ?readHead⟩
    case readEmpty => exact takeRequest_of_refuse h (by decide) (settleRead_of_empty ((hdrop s).trans hq))
    case readHead => exact takeRequest_of_accept h (settleRead_of_head ((hdrop s).trans hq))
  case free =>
    rw [exec_settleFree]
    refine ⟨fun hq => ?freeEmpty, fun head rest hq => ⟨fun hnumber => ?mismatch, fun hnumber => ?freed⟩⟩
    case freeEmpty => exact takeRequest_of_refuse h (by decide) (settleFree_of_empty r.body ((hdrop s).trans hq))
    case mismatch => exact takeRequest_of_refuse h (by decide) (settleFree_of_mismatch ((hdrop s).trans hq) hnumber)
    case freed =>
      have haccept := settleFree_of_match ((hdrop s).trans hq) hnumber
      exact takeRequest_of_accept_changed (owner := fun r s => s.settleFree r.body) h haccept

end Sys2Proof.Machine
end

section
/-! # CUTOFF-CLEAR (R31, R136)

The removal of CUTOFF visits the sixteen slots one after another. `Slot.withoutCutoff` is what one visit makes of its slot, and
`Slot.returnsOnClear` says whether that visit returns the slot to RUNNING and so sets the SESSION status. No visit touches another
slot, and a status set twice is set once; so the whole removal is read off the state before it. A lemma named
`signals` speaks of the output and the notice unit, the two places where a status shows. -/

namespace Sys2Proof.Machine

/-! ### One slot without CUTOFF (R26, R31) -/

/-- CUTOFF is the last reason of a SUSPENDED slot's session, so that its removal returns the slot to RUNNING (R26, R31). -/
def Slot.returnsOnClear (x : Slot) : Prop :=
  ∃ e, x.session = some e ∧ e.reasons.cutoff = true ∧ x.state = .suspended ∧ (e.reasons.remove .cutoff).isEmpty = true

/-- A slot once CUTOFF has left its session, at a time of the Park Clock. -/
def Slot.withoutCutoff (clock : ParkClock) (x : Slot) : Slot :=
  match x.session with
  | none => x
  | some e =>
    let rest := { e with reasons := e.reasons.remove .cutoff }
    if e.reasons.cutoff = false then x
    else if x.state = .suspended ∧ rest.reasons.isEmpty = true then
      { x with state := .running, changed := true, session := some (rest.closeEntries clock.day clock.minute) }
    else { x with session := some rest }

section
variable {x : Slot} {e : Session}

/-- A session that holds CUTOFF decides whether its slot returns. -/
theorem Slot.returnsOnClear_iff (hx : x.session = some e) (hc : e.reasons.cutoff = true) :
    x.returnsOnClear ↔ x.state = .suspended ∧ (e.reasons.remove .cutoff).isEmpty = true := by
  simp [Slot.returnsOnClear, hx, hc]

/-- A slot whose session, if any, does not hold CUTOFF stays as it is. -/
theorem Slot.withoutCutoff_of_absent (clock : ParkClock) (h : ∀ e, x.session = some e → e.reasons.cutoff = false) :
    x.withoutCutoff clock = x := by
  cases hx : x.session with
  | none => simp [Slot.withoutCutoff, hx]
  | some e => simp [Slot.withoutCutoff, hx, h e hx]

/-- A slot whose session holds CUTOFF loses it, and goes to RUNNING with its entries closed where no other reason is left. -/
theorem Slot.withoutCutoff_of_present (clock : ParkClock) (hx : x.session = some e) (hc : e.reasons.cutoff = true) :
    x.withoutCutoff clock =
      if x.state = .suspended ∧ (e.reasons.remove .cutoff).isEmpty = true then
        { x with
          state := .running, changed := true
          session := some
            { e with
              reasons := e.reasons.remove .cutoff
              interruptions := e.interruptions.map (Interruption.closeAt clock.day clock.minute) } }
      else { x with session := some { e with reasons := e.reasons.remove .cutoff } } := by
  simp [Slot.withoutCutoff, Session.closeEntries, hx, hc]

end

/-! ### A status and the slots -/

/-- A slot written as it stands changes nothing. -/
@[simp] theorem setSlot_slot (s : State) (p : Pedestal) : s.setSlot p (s.slot p) = s := by
  simp [State.setSlot, State.slot]

/-- Setting a status and writing a slot may be taken in either order. -/
theorem setSlot_raise (s : State) (p : Pedestal) (x : Slot) (c : NoticeClass) :
    (s.raise c).setSlot p x = (s.setSlot p x).raise c := by
  have hnotices : ((s.setSlot p x).raise c).notices = (s.raise c).notices := notices_raise_congr c (by simp)
  rw [raise_eq s, raise_eq (s.setSlot p x), hnotices]
  rfl

/-- What a status makes of the output and the notice unit depends on these two alone. -/
theorem signals_raise_congr {s t : State} (c : NoticeClass) (h : t.host = s.host ∧ t.notices = s.notices) :
    (t.raise c).host = (s.raise c).host ∧ (t.raise c).notices = (s.raise c).notices := by
  obtain ⟨hhost, hnotices⟩ := h
  exact ⟨by simp [host_raise, State.emits, State.noticed, hhost, hnotices], notices_raise_congr c hnotices⟩

/-- A status that is set has its latch set. -/
theorem latch_raise (s : State) (c : NoticeClass) : ((s.raise c).notices.flags c).latch = true := by
  unfold State.raise
  cases hlatch : (s.notices.flags c).latch <;> cases hmasked : (s.notices.flags c).masked <;> simp [hlatch, hmasked]

/-- A status set twice is set once. -/
theorem raise_raise (s : State) (c : NoticeClass) : (s.raise c).raise c = s.raise c := by
  rw [State.raise.eq_def (s.raise c)]
  simp [latch_raise]

/-! ### One visit of the removal (R31) -/

section
variable {s : State} {p : Pedestal}

/-- A SUSPENDED slot with no reason left goes to RUNNING with its entries closed, and the SESSION status is set (R26). -/
theorem judge_of_empty {e : Session} (hx : (s.slot p).session = some e) (hstate : (s.slot p).state = .suspended)
    (hempty : e.reasons.isEmpty = true) :
    s.judge p =
      (s.setSlot p
        { s.slot p with
          state := .running, changed := true
          session := some (e.closeEntries s.clock.day s.clock.minute) }).raise .session := by
  simp [State.judge, hx, hstate, hempty, goTo_eq, State.modifySession, setSlot_raise]

/-- A slot in another state, or with a reason left, stays as it is (R26). -/
theorem judge_of_stays {e : Session} (hx : (s.slot p).session = some e)
    (h : ¬ ((s.slot p).state = .suspended ∧ e.reasons.isEmpty = true)) : s.judge p = s := by
  unfold State.judge
  rw [hx]
  split
  next e' hstate he =>
    cases he
    exact if_neg fun hempty => h ⟨hstate, hempty⟩
  next => rfl

/-- A removed reason leaves the session with one reason less. -/
theorem removeReason_eq {e : Session} (reason : Reason) (hx : (s.slot p).session = some e) :
    s.removeReason p reason =
      s.setSlot p { s.slot p with session := some { e with reasons := e.reasons.remove reason } } := by
  simp [State.removeReason, State.modifySession, hx]

/-- The visit of a slot whose session holds CUTOFF removes the reason and judges the slot. -/
theorem removeCutoffAt_of_present {e : Session} (hx : (s.slot p).session = some e) (hc : e.reasons.cutoff = true) :
    s.removeCutoffAt p =
      (s.setSlot p { s.slot p with session := some { e with reasons := e.reasons.remove .cutoff } }).judge p := by
  simp [State.removeCutoffAt, hx, hc, removeReason_eq .cutoff hx]

/-- The visit of a slot whose session, if any, does not hold CUTOFF changes nothing. -/
theorem removeCutoffAt_of_absent (h : ∀ e, (s.slot p).session = some e → e.reasons.cutoff = false) :
    s.removeCutoffAt p = s := by
  cases hx : (s.slot p).session with
  | none => simp [State.removeCutoffAt, hx]
  | some e => simp [State.removeCutoffAt, hx, h e hx]

/-- A visit that returns its slot writes the slot and sets the SESSION status. -/
theorem removeCutoffAt_of_returns (h : (s.slot p).returnsOnClear) :
    s.removeCutoffAt p = (s.setSlot p ((s.slot p).withoutCutoff s.clock)).raise .session := by
  obtain ⟨e, hx, hc, hstate, hempty⟩ := h
  rw [removeCutoffAt_of_present hx hc,
    judge_of_empty (e := { e with reasons := e.reasons.remove .cutoff }) (by simp) (by simpa using hstate) hempty,
    Slot.withoutCutoff_of_present s.clock hx hc, if_pos ⟨hstate, hempty⟩]
  simp [Session.closeEntries]

/-- A visit that does not return its slot writes the slot alone. -/
theorem removeCutoffAt_of_stays (h : ¬ (s.slot p).returnsOnClear) :
    s.removeCutoffAt p = s.setSlot p ((s.slot p).withoutCutoff s.clock) := by
  by_cases habsent : ∀ e, (s.slot p).session = some e → e.reasons.cutoff = false
  case pos => rw [removeCutoffAt_of_absent habsent, Slot.withoutCutoff_of_absent s.clock habsent, setSlot_slot]
  case neg =>
    obtain ⟨e, hx, hc⟩ : ∃ e, (s.slot p).session = some e ∧ e.reasons.cutoff = true := by simpa using habsent
    have hstays := mt (Slot.returnsOnClear_iff hx hc).2 h
    rw [removeCutoffAt_of_present hx hc, Slot.withoutCutoff_of_present s.clock hx hc, if_neg hstays]
    exact judge_of_stays (e := { e with reasons := e.reasons.remove .cutoff }) (by simp) (by simpa using hstays)

end

/-- A visit leaves its own slot without CUTOFF. -/
@[simp] theorem slot_removeCutoffAt (s : State) (p : Pedestal) :
    (s.removeCutoffAt p).slot p = (s.slot p).withoutCutoff s.clock := by
  by_cases h : (s.slot p).returnsOnClear
  case pos => simp [removeCutoffAt_of_returns h]
  case neg => simp [removeCutoffAt_of_stays h]

/-- A visit leaves every other slot as it is. -/
@[simp] theorem slot_removeCutoffAt_ne (s : State) {p q : Pedestal} (hne : q ≠ p) :
    (s.removeCutoffAt p).slot q = s.slot q := by
  by_cases h : (s.slot p).returnsOnClear
  case pos => simp [removeCutoffAt_of_returns h, hne]
  case neg => simp [removeCutoffAt_of_stays h, hne]

/-- A visit that returns its slot sets the SESSION status, and signals nothing else. -/
theorem signals_removeCutoffAt_of_returns {s : State} {p : Pedestal} (h : (s.slot p).returnsOnClear) :
    (s.removeCutoffAt p).host = (s.raise .session).host ∧ (s.removeCutoffAt p).notices = (s.raise .session).notices := by
  rw [removeCutoffAt_of_returns h]
  exact signals_raise_congr .session (by simp)

/-- A visit that does not return its slot signals nothing. -/
theorem signals_removeCutoffAt_of_stays {s : State} {p : Pedestal} (h : ¬ (s.slot p).returnsOnClear) :
    (s.removeCutoffAt p).host = s.host ∧ (s.removeCutoffAt p).notices = s.notices := by
  simp [removeCutoffAt_of_stays h]

/-! ### The removal over several slots -/

/-- Slots that are not visited stay as they are. -/
theorem slot_foldl_removeCutoffAt_of_notMem {l : List Pedestal} {q : Pedestal} (hq : q ∉ l) (s : State) :
    (l.foldl State.removeCutoffAt s).slot q = s.slot q := by
  induction l generalizing s with
  | nil => rfl
  | cons a l ih =>
    obtain ⟨hne, hl⟩ := List.ne_and_not_mem_of_not_mem_cons hq
    rw [List.foldl_cons, ih hl, slot_removeCutoffAt_ne s hne]

/-- A slot visited once is left without CUTOFF. -/
theorem slot_foldl_removeCutoffAt_of_mem {l : List Pedestal} (hnodup : l.Nodup) {q : Pedestal} (hq : q ∈ l) (s : State) :
    (l.foldl State.removeCutoffAt s).slot q = (s.slot q).withoutCutoff s.clock := by
  induction l generalizing s with
  | nil => cases hq
  | cons a l ih =>
    obtain ⟨hnotMem, hl⟩ := List.nodup_cons.1 hnodup
    rw [List.foldl_cons]
    rcases List.mem_cons.1 hq with rfl | hmem
    · rw [slot_foldl_removeCutoffAt_of_notMem hnotMem, slot_removeCutoffAt]
    · have hne : q ≠ a := fun h => hnotMem (h ▸ hmem)
      rw [ih hl hmem, slot_removeCutoffAt_ne s hne]
      simp

/-- Where no visited slot returns, nothing is signalled. -/
theorem signals_foldl_removeCutoffAt_of_none {l : List Pedestal} (hnodup : l.Nodup) {s : State}
    (h : ∀ p ∈ l, ¬ (s.slot p).returnsOnClear) :
    (l.foldl State.removeCutoffAt s).host = s.host ∧ (l.foldl State.removeCutoffAt s).notices = s.notices := by
  induction l generalizing s with
  | nil => exact ⟨rfl, rfl⟩
  | cons a l ih =>
    obtain ⟨hnotMem, hl⟩ := List.nodup_cons.1 hnodup
    have hrest : ∀ p ∈ l, ¬ ((s.removeCutoffAt a).slot p).returnsOnClear := fun p hp => by
      have hne : p ≠ a := fun heq => hnotMem (heq ▸ hp)
      simpa [hne] using h p (List.mem_cons_of_mem a hp)
    obtain ⟨hhost, hnotices⟩ := signals_removeCutoffAt_of_stays (h a List.mem_cons_self)
    obtain ⟨hhostRest, hnoticesRest⟩ := ih hl hrest
    exact ⟨hhostRest.trans hhost, hnoticesRest.trans hnotices⟩

/-- Once the SESSION status is set, a visit leaves it set. -/
theorem raise_removeCutoffAt {s : State} (h : s.raise .session = s) (p : Pedestal) :
    (s.removeCutoffAt p).raise .session = s.removeCutoffAt p := by
  by_cases hp : (s.slot p).returnsOnClear
  case pos => rw [removeCutoffAt_of_returns hp, raise_raise]
  case neg => rw [removeCutoffAt_of_stays hp, ← setSlot_raise, h]

/-- Once the SESSION status is set, the visits signal nothing more. -/
theorem signals_foldl_removeCutoffAt_of_raised (l : List Pedestal) {s : State} (h : s.raise .session = s) :
    (l.foldl State.removeCutoffAt s).host = s.host ∧ (l.foldl State.removeCutoffAt s).notices = s.notices := by
  induction l generalizing s with
  | nil => exact ⟨rfl, rfl⟩
  | cons a l ih =>
    have hvisit : (s.removeCutoffAt a).host = s.host ∧ (s.removeCutoffAt a).notices = s.notices := by
      by_cases ha : (s.slot a).returnsOnClear
      case pos => simpa only [h] using signals_removeCutoffAt_of_returns ha
      case neg => exact signals_removeCutoffAt_of_stays ha
    obtain ⟨hhostRest, hnoticesRest⟩ := ih (raise_removeCutoffAt h a)
    exact ⟨hhostRest.trans hvisit.1, hnoticesRest.trans hvisit.2⟩

/-- Where a visited slot returns, the SESSION status is set, once however many slots return. -/
theorem signals_foldl_removeCutoffAt_of_some {l : List Pedestal} (hnodup : l.Nodup) {s : State}
    (h : ∃ p ∈ l, (s.slot p).returnsOnClear) :
    (l.foldl State.removeCutoffAt s).host = (s.raise .session).host ∧
      (l.foldl State.removeCutoffAt s).notices = (s.raise .session).notices := by
  induction l generalizing s with
  | nil => simp at h
  | cons a l ih =>
    obtain ⟨hnotMem, hl⟩ := List.nodup_cons.1 hnodup
    by_cases ha : (s.slot a).returnsOnClear
    case pos =>
      have hraised : (s.removeCutoffAt a).raise .session = s.removeCutoffAt a := by
        rw [removeCutoffAt_of_returns ha, raise_raise]
      obtain ⟨hhost, hnotices⟩ := signals_removeCutoffAt_of_returns ha
      obtain ⟨hhostRest, hnoticesRest⟩ := signals_foldl_removeCutoffAt_of_raised l hraised
      exact ⟨hhostRest.trans hhost, hnoticesRest.trans hnotices⟩
    case neg =>
      have hrest : ∃ p ∈ l, ((s.removeCutoffAt a).slot p).returnsOnClear := by
        obtain ⟨p, hp, hreturns⟩ := h
        have hne : p ≠ a := fun heq => ha (heq ▸ hreturns)
        exact ⟨p, List.mem_of_ne_of_mem hne hp, by simpa [hne] using hreturns⟩
      obtain ⟨hhost, hnotices⟩ := signals_raise_congr .session (signals_removeCutoffAt_of_stays ha)
      obtain ⟨hhostRest, hnoticesRest⟩ := ih hl hrest
      exact ⟨hhostRest.trans hhost, hnoticesRest.trans hnotices⟩

/-! ### The removal from every slot (R31) -/

/-- Every slot is left without CUTOFF. -/
theorem slot_removeCutoff (s : State) (p : Pedestal) : s.removeCutoff.slot p = (s.slot p).withoutCutoff s.clock :=
  slot_foldl_removeCutoffAt_of_mem allPedestals_nodup (mem_allPedestals p) s

/-- Where no slot returns, nothing is signalled. -/
theorem signals_removeCutoff_of_none {s : State} (h : ∀ p, ¬ (s.slot p).returnsOnClear) :
    s.removeCutoff.host = s.host ∧ s.removeCutoff.notices = s.notices :=
  signals_foldl_removeCutoffAt_of_none allPedestals_nodup fun p _ => h p

/-- Where a slot returns, the SESSION status is set. -/
theorem signals_removeCutoff_of_some {s : State} (h : ∃ p, (s.slot p).returnsOnClear) :
    s.removeCutoff.host = (s.raise .session).host ∧ s.removeCutoff.notices = (s.raise .session).notices := by
  obtain ⟨p, hp⟩ := h
  exact signals_foldl_removeCutoffAt_of_some allPedestals_nodup ⟨p, mem_allPedestals p, hp⟩

/-- The removal changes the slots, the output and the notice unit alone. -/
theorem removeCutoff_eq (s : State) :
    s.removeCutoff =
      { s with slots := s.removeCutoff.slots, host := s.removeCutoff.host, notices := s.removeCutoff.notices } := by
  obtain ⟨hpending, hnow, hnext, hexhausted, htariffs, hsettlements, halloc, hmodules, hprot, hfield, -, -, -, -, hclock,
    hcontrol, -⟩ := removeCutoff_frame s
  rw [← hpending, ← hnow, ← hnext, ← hexhausted, ← htariffs, ← hsettlements, ← halloc, ← hmodules, ← hprot, ← hfield,
    ← hclock, ← hcontrol]

/-! ### CUTOFF-CLEAR (R136) -/

/-- The Protection Unit with the latch clear and no source (R136). -/
def Protection.cleared (x : Protection) : Protection :=
  { x with latch := false, sources := { estop := false, trip := false, restart := false } }

section
variable {s : State}

/-- A line that is ASSERTED refuses the request. -/
theorem cutoffClear_of_asserted (h : s.prot.estop.asserted = true ∨ s.prot.trip.asserted = true) :
    s.cutoffClear = refuse .cutoffActive s := by
  simp [State.cutoffClear, h]

section
variable (hestop : s.prot.estop.asserted = false) (htrip : s.prot.trip.asserted = false)
include hestop htrip

/-- With both lines RELEASED and the latch clear there is nothing to do. -/
theorem cutoffClear_of_clear (hlatch : s.prot.latch = false) : s.cutoffClear = accept [] s := by
  simp [State.cutoffClear, hestop, htrip, hlatch]

/-- With both lines RELEASED and the latch set, the latch and its sources clear and CUTOFF is removed. -/
theorem cutoffClear_of_latched (hlatch : s.prot.latch = true) :
    s.cutoffClear = accept [] { s with prot := s.prot.cleared }.removeCutoff := by
  simp [State.cutoffClear, State.clearCutoff, Protection.cleared, hestop, htrip, hlatch]

end
end

/-- CUTOFF-CLEAR is the taking of a request that `State.cutoffClear` answers. -/
theorem exec_cutoffClear (s : State) :
    exec .cutoffClear s = takeRequest .cutoffClear s fun _ s => s.cutoffClear := rfl

/-! ### The records of a taken request (R166) -/

section
variable {s t : State} {r : HostRecord} {raised : List HostRecord}

/-- The reply stands behind the records that the taking raised. -/
theorem host_pushOutput_of_raised (h : t.host = s.dropHead.emits raised) :
    (t.pushOutput (replyTo r .ok [])).host = (s.answeredAfter r raised .ok []).host := by
  simp [State.pushOutput, h, State.emits, State.answeredAfter, State.dropHead, State.setRequests]

/-- The reply is the only record where the taking raised none. -/
theorem host_pushOutput_of_same (h : t.host = s.dropHead.host) :
    (t.pushOutput (replyTo r .ok [])).host = (s.answered r .ok []).host := by
  simp [State.pushOutput, h, State.answered, State.dropHead, State.setRequests]

end

/-- The part once CUTOFF-CLEAR has left the queue and the latch is clear, with CUTOFF still in the sessions. -/
def State.released (s : State) : State := { s.dropHead with prot := s.prot.cleared }

/-- Every slot is left as the removal at the present time leaves it. -/
theorem slot_released_removeCutoff (s : State) (p : Pedestal) :
    s.released.removeCutoff.slot p = (s.slot p).withoutCutoff s.clock :=
  slot_removeCutoff s.released p

/-- Where a slot returns, the SESSION status is set as it would have been when the request was taken. -/
theorem signals_released_of_some {s : State} (h : ∃ p, (s.slot p).returnsOnClear) :
    s.released.removeCutoff.host = s.dropHead.emits (s.noticed .session) ∧
      s.released.removeCutoff.notices = (s.raise .session).notices := by
  obtain ⟨hhost, hnotices⟩ := signals_removeCutoff_of_some (s := s.released) h
  exact ⟨hhost.trans (host_raise s.released .session), hnotices.trans (notices_raise_congr .session rfl)⟩

/-- Where no slot returns, nothing is signalled. -/
theorem signals_released_of_none {s : State} (h : ∀ p, ¬ (s.slot p).returnsOnClear) :
    s.released.removeCutoff.host = s.dropHead.host ∧ s.released.removeCutoff.notices = s.notices :=
  signals_removeCutoff_of_none (s := s.released) h

/-! ### The obligation -/

/-- Settles O41: the owner's equations decide by the lines and the latch; with the latch set, each slot, the output and the notice
unit are those that the removal of CUTOFF leaves, with the OK reply behind the notice. -/
theorem cutoffClearReleasesTheLatch : Obligations.CutoffClearReleasesTheLatch := by
  intro s r h
  rw [exec_cutoffClear]
  refine ⟨fun hasserted => ?asserted, fun hestop htrip => ⟨fun hlatch => ?clear, fun hlatch => ?latched⟩⟩
  case asserted =>
    exact takeRequest_of_refuse h (by decide) (cutoffClear_of_asserted (s := s.dropHead) hasserted)
  case clear =>
    exact takeRequest_of_accept h (cutoffClear_of_clear (s := s.dropHead) hestop htrip hlatch)
  case latched =>
    intro left returns
    have howner := cutoffClear_of_latched (s := s.dropHead) hestop htrip hlatch
    have hslot (p : Pedestal) :
        (s.released.removeCutoff.pushOutput (replyTo r .ok [])).slot p = (s.slot p).withoutCutoff s.clock := by
      simpa using slot_released_removeCutoff s p
    refine ⟨s.released.removeCutoff.pushOutput (replyTo r .ok []),
      takeRequest_of_accept_changed (owner := fun _ s => s.cutoffClear) h howner,
      ?prot, fun p habsent => ?absent, fun p e he hc => ?present, fun hsome => ?returning, fun hnone => ?staying, ?frame⟩
    case prot => simp [State.released, Protection.cleared]
    case absent => exact (hslot p).trans (Slot.withoutCutoff_of_absent s.clock habsent)
    case present => exact (hslot p).trans (Slot.withoutCutoff_of_present s.clock he hc)
    case returning =>
      obtain ⟨hhost, hnotices⟩ := signals_released_of_some hsome
      exact ⟨host_pushOutput_of_raised hhost, by simpa using hnotices⟩
    case staying =>
      obtain ⟨hhost, hnotices⟩ := signals_released_of_none hnone
      exact ⟨host_pushOutput_of_same hhost, by simpa using hnotices⟩
    case frame =>
      have hframe := removeCutoff_eq s.released
      generalize s.released.removeCutoff = u at hframe ⊢
      rw [hframe]
      rfl

end Sys2Proof.Machine
end

section
/-! # The notice unit: status latches, NOTICE-MASK and STATUS-CLEAR (R170 to R172)

Setting a status has an equation for each case of the class's flags. NOTICE-MASK is five steps, one for each class, and a step changes
the flags of its own class alone, so each class is judged by the flags it had before the request. STATUS-CLEAR is read off the class that
its value names. -/

namespace Sys2Proof.Machine

/-! ### Setting a status (R170) -/

section
variable {s : State} {c : NoticeClass}

/-- With the latch set, an event does nothing more. -/
theorem raise_of_latched (hlatch : (s.notices.flags c).latch = true) : s.raise c = s := by
  simp [State.raise, hlatch]

section
variable (hlatch : (s.notices.flags c).latch = false)
include hlatch

/-- With the latch clear, an unmasked class has its latch set and sends its notice. -/
theorem raise_of_unmasked (hmasked : (s.notices.flags c).masked = false) :
    s.raise c = (s.setFlags c { s.notices.flags c with latch := true }).pushOutput (noticeRecord c) := by
  simp [State.raise, hlatch, hmasked]

/-- With the latch clear, a masked class has its latch set and becomes pending. -/
theorem raise_of_masked (hmasked : (s.notices.flags c).masked = true) :
    s.raise c = s.setFlags c { s.notices.flags c with latch := true, pending := true } := by
  simp [State.raise, hlatch, hmasked]

end
end

/-! ### One class takes its mask bit (R171) -/

/-- A class sends its notice under a new mask bit where it was masked, is not to be, and is pending. -/
def ClassFlags.sendsUnder (f : ClassFlags) (masked : Bool) : Bool := f.masked && !masked && f.pending

/-- The flags of a class under a new mask bit: a class that sends its notice is no longer pending. -/
def ClassFlags.withMask (f : ClassFlags) (masked : Bool) : ClassFlags :=
  { latch := f.latch, masked := masked, pending := f.pending && !f.sendsUnder masked }

/-- The notice that a class sends under a new mask bit, if it does. -/
def NoticeUnit.sentUnder (n : NoticeUnit) (c : NoticeClass) (masked : Bool) : List HostRecord :=
  if (n.flags c).sendsUnder masked then [noticeRecord c] else []

/-- The state with the notice unit replaced and records placed at the tail of the output. -/
def State.signalled (s : State) (n : NoticeUnit) (records : List HostRecord) : State :=
  { s with notices := n, host := s.emits records }

/-- The notice unit is the one given. -/
@[simp] theorem notices_signalled (s : State) (n : NoticeUnit) (records : List HostRecord) :
    (s.signalled n records).notices = n := rfl

/-- Of two signals the later notice unit stands, and the records follow one another. -/
theorem signalled_signalled (s : State) (n n' : NoticeUnit) (records records' : List HostRecord) :
    (s.signalled n records).signalled n' records' = s.signalled n' (records ++ records') := by
  simp [State.signalled, State.emits]

/-- Writing a class's flags is a signal without a record. -/
theorem setFlags_eq_signalled (s : State) (c : NoticeClass) (f : ClassFlags) :
    s.setFlags c f = s.signalled (s.notices.setFlags c f) [] := by
  simp [State.signalled, State.emits, State.setFlags]

/-- Placing a record is a signal that leaves the notice unit. -/
theorem pushOutput_eq_signalled (s : State) (x : HostRecord) : s.pushOutput x = s.signalled s.notices [x] := rfl

/-- A class's step writes the flags of the class and sends its notice where it is due. -/
theorem maskClass_eq (s : State) (c : NoticeClass) (masked : Bool) :
    s.maskClass c masked =
      s.signalled (s.notices.setFlags c ((s.notices.flags c).withMask masked)) (s.notices.sentUnder c masked) := by
  by_cases hsends : (s.notices.flags c).sendsUnder masked = true
  case pos =>
    obtain ⟨⟨hwas, hnow⟩, hpending⟩ : ((s.notices.flags c).masked = true ∧ masked = false) ∧
        (s.notices.flags c).pending = true := by simpa [ClassFlags.sendsUnder] using hsends
    have hflags : (s.notices.flags c).withMask masked = { s.notices.flags c with masked := false, pending := false } := by
      rw [ClassFlags.withMask, hsends, hnow, Bool.not_true, Bool.and_false]
    rw [State.maskClass, if_pos ⟨hwas, hpending, hnow⟩, hflags, setFlags_eq_signalled, pushOutput_eq_signalled,
      signalled_signalled, NoticeUnit.sentUnder, if_pos hsends]
    rfl
  case neg =>
    have hstays : ¬ ((s.notices.flags c).masked = true ∧ (s.notices.flags c).pending = true ∧ masked = false) :=
      fun ⟨hwas, hpending, hnow⟩ => hsends (by simp [ClassFlags.sendsUnder, hwas, hpending, hnow])
    have hflags : (s.notices.flags c).withMask masked = { s.notices.flags c with masked := masked } := by
      simp [ClassFlags.withMask, hsends]
    rw [State.maskClass, if_neg hstays, hflags, setFlags_eq_signalled, NoticeUnit.sentUnder, if_neg hsends]

/-! ### The five classes take their mask bits (R171) -/

/-- The notice unit with the mask replaced whole. -/
def NoticeUnit.withMasks (n : NoticeUnit) (masked : NoticeClass → Bool) : NoticeUnit :=
  { n with
    session := n.session.withMask (masked .session), settle := n.settle.withMask (masked .settle)
    hold := n.hold.withMask (masked .hold), park := n.park.withMask (masked .park)
    field := n.field.withMask (masked .field) }

/-- The notices that a new mask sends, in the order of the classes. -/
def NoticeUnit.sentUnderMasks (n : NoticeUnit) (masked : NoticeClass → Bool) : List HostRecord :=
  n.sentUnder .session (masked .session) ++ n.sentUnder .settle (masked .settle) ++ n.sentUnder .hold (masked .hold) ++
    n.sentUnder .park (masked .park) ++ n.sentUnder .field (masked .field)

/-- A new mask changes the flags of the five classes, and sends the notices that are due: a class's flags are read after the steps of the
classes before it, which leave them as they were. -/
theorem maskClasses_eq (s : State) (map : Nat) :
    s.maskClasses map = s.signalled (s.notices.withMasks (maskBit map)) (s.notices.sentUnderMasks (maskBit map)) := by
  simp only [State.maskClasses, allClasses, List.foldl_cons, List.foldl_nil, maskClass_eq, notices_signalled,
    signalled_signalled]
  rfl

/-- NOTICE-MASK is the taking of a request that `State.maskClasses` accepts. -/
theorem exec_noticeMask (s : State) :
    exec .noticeMask s = takeRequest .noticeMask s fun r s => accept [] (s.maskClasses (fieldAt r.body 0 1)) := rfl

/-- A taken NOTICE-MASK replaces the mask, and its reply stands behind the notices that are due. -/
theorem exec_noticeMask_of_takes {s : State} {r : HostRecord} (h : s.Takes .noticeMask r) :
    exec .noticeMask s = .next
      { s.answeredAfter r (s.notices.sentUnderMasks (maskBit (fieldAt r.body 0 1))) .ok [] with
        notices := s.notices.withMasks (maskBit (fieldAt r.body 0 1)) } := by
  have howner := congrArg (accept []) (maskClasses_eq s.dropHead (fieldAt r.body 0 1))
  rw [exec_noticeMask]
  exact takeRequest_of_accept_changed (owner := fun r s => accept [] (s.maskClasses (fieldAt r.body 0 1))) h howner

/-! ### STATUS-CLEAR (R172) -/

/-- A class is the one its code names. -/
@[simp] theorem noticeClassOf_code (c : NoticeClass) : noticeClassOf c.code = some c := by
  cases c <;> rfl

/-- The values 0 and above 5 name no class. -/
theorem noticeClassOf_of_out_of_range {n : Nat} (h : n = 0 ∨ 5 < n) : noticeClassOf n = none := by
  rcases h with rfl | h
  · rfl
  · obtain ⟨k, rfl⟩ := Nat.exists_eq_add_of_le' h
    rfl

/-- A value that names no class is refused. -/
theorem statusClear_of_no_class (s : State) {body : List Byte} (hn : noticeClassOf (fieldAt body 0 1) = none) :
    s.statusClear body = refuse .range s := by
  simp [State.statusClear, hn]

/-- A value that names a class clears it. -/
theorem statusClear_of_class (s : State) {body : List Byte} {c : NoticeClass} (hn : fieldAt body 0 1 = c.code) :
    s.statusClear body = accept [] (s.clearClass c) := by
  simp [State.statusClear, hn]

/-- STATUS-CLEAR is the taking of a request that `State.statusClear` answers. -/
theorem exec_statusClear (s : State) :
    exec .statusClear s = takeRequest .statusClear s fun r s => s.statusClear r.body := rfl

/-- Clearing a class changes the slots and the notice unit alone. -/
theorem clearClass_eq (s : State) (c : NoticeClass) :
    s.clearClass c = { s with slots := (s.clearClass c).slots, notices := (s.clearClass c).notices } := by
  cases c <;> rfl

/-- What clearing a class makes of the slots and the notice unit does not depend on the request queue. -/
theorem clearClass_dropHead (s : State) (c : NoticeClass) :
    (s.dropHead.clearClass c).slots = (s.clearClass c).slots ∧ (s.dropHead.clearClass c).notices = (s.clearClass c).notices := by
  cases c <;> exact ⟨rfl, rfl⟩

/-- The reply to STATUS-CLEAR joins the output as it was. -/
theorem clearClass_dropHead_pushOutput (s : State) (r : HostRecord) (c : NoticeClass) :
    (s.dropHead.clearClass c).pushOutput (replyTo r .ok []) =
      { s.answered r .ok [] with slots := (s.clearClass c).slots, notices := (s.clearClass c).notices } := by
  obtain ⟨hslots, hnotices⟩ := clearClass_dropHead s c
  rw [clearClass_eq, hslots, hnotices]
  rfl

/-- A taken STATUS-CLEAR that names a class is answered OK, and the class is cleared. -/
theorem exec_statusClear_of_class {s : State} {r : HostRecord} {c : NoticeClass} (h : s.Takes .statusClear r)
    (hn : fieldAt r.body 0 1 = c.code) :
    exec .statusClear s = .next
      { s.answered r .ok [] with slots := (s.clearClass c).slots, notices := (s.clearClass c).notices } := by
  rw [exec_statusClear, ← clearClass_dropHead_pushOutput]
  exact takeRequest_of_accept_changed (owner := fun r s => s.statusClear r.body) h (statusClear_of_class s.dropHead hn)

/-! ### The obligation -/

/-- Settles O16: setting a status by the class's flags; NOTICE-MASK by the five classes' steps; STATUS-CLEAR by the class that its value
names, whose detail `State.clearClass` empties. -/
theorem noticeUnitLatchesMasksAndClears : Obligations.NoticeUnitLatchesMasksAndClears := by
  refine ⟨fun s c => ⟨raise_of_latched, fun hlatch hmasked => ?unmasked, raise_of_masked⟩, fun s r h => ?mask,
    fun s r h => ⟨fun hn => ?session, fun hn => ?settle, fun hn => ?hold, fun hn => ?park, fun hn => ?field,
      fun hn => ?noClass⟩⟩
  case unmasked => exact raise_of_unmasked hlatch hmasked
  case mask => exact exec_noticeMask_of_takes h
  case session => exact exec_statusClear_of_class (c := .session) h hn
  case settle => exact exec_statusClear_of_class (c := .settle) h hn
  case hold => exact exec_statusClear_of_class (c := .hold) h hn
  case park => exact exec_statusClear_of_class (c := .park) h hn
  case field => exact exec_statusClear_of_class (c := .field) h hn
  case noClass =>
    rw [exec_statusClear]
    exact takeRequest_of_refuse h (by decide) (statusClear_of_no_class s.dropHead (noticeClassOf_of_out_of_range hn))

end Sys2Proof.Machine
end

section
/-! # COMMISSION (R112, R178)

The owner's equations follow the checks in their order. The powers, the ratings and the windows of a record each have their range, and the
record that a body spells passes the checks exactly where the body's fields do. -/

namespace Sys2Proof.Machine

/-! ### The checks on the record (R178) -/

/-- Check 2 bounds the ceiling and the module rating. -/
theorem Commissioning.powersInRange_iff (c : Commissioning) :
    c.powersInRange = true ↔ 50 ≤ c.ceiling ∧ c.ceiling ≤ 2000 ∧ 10 ≤ c.rating ∧ c.rating ≤ 60 := by
  simp [Commissioning.powersInRange, and_assoc]

/-- Check 3: a pedestal that is not installed, or a rating between the bounds. -/
theorem ratingInRange_iff (kw : Nat) : ratingInRange kw = true ↔ kw = 0 ∨ (50 ≤ kw ∧ kw ≤ 500) := by
  simp [ratingInRange]

/-- Check 4 accepts exactly the windows that the laws of the Module Pool call sound. -/
theorem Window.inRange_iff_sound (w : Window) : w.inRange = true ↔ w.Sound := by
  simp only [Window.inRange, Window.Sound, Window.usable, Bool.and_eq_true, Bool.or_eq_true, Bool.not_eq_true',
    decide_eq_true_eq, decide_eq_false_iff_not]
  omega

/-- Checks 2 to 4, entry by entry. -/
theorem Commissioning.inRange_iff (c : Commissioning) :
    c.inRange = true ↔
      (50 ≤ c.ceiling ∧ c.ceiling ≤ 2000 ∧ 10 ≤ c.rating ∧ c.rating ≤ 60) ∧
        (∀ p : Pedestal, c.ratings[p.val] = 0 ∨ (50 ≤ c.ratings[p.val] ∧ c.ratings[p.val] ≤ 500)) ∧
          ∀ m : ModuleNo, c.windows[m.val].Sound := by
  simp [Commissioning.inRange, Commissioning.powersInRange_iff, ratingInRange_iff, Window.inRange_iff_sound, Fin.forall_iff,
    and_assoc]

/-! ### The record that a body spells (R188) -/

/-- A pedestal's rating is the pair of bytes at its place. -/
theorem ratings_commissioningAt (body : List Byte) (p : Pedestal) :
    (commissioningAt body).ratings[p.val] = fieldAt body (3 + 2 * p.val) 2 := by
  simp [commissioningAt]

/-- A module's window is the two bytes at its place. -/
theorem windows_commissioningAt (body : List Byte) (m : ModuleNo) :
    (commissioningAt body).windows[m.val] =
      { first := fieldAt body (35 + 2 * m.val) 1, last := fieldAt body (36 + 2 * m.val) 1 } := by
  simp [commissioningAt]

/-! ### What the record makes of the state (R112, R178) -/

/-- A window is usable where its first pedestal does not come behind its last. -/
theorem Window.usable_iff (w : Window) : w.usable = true ↔ w.first ≤ w.last := by
  simp [Window.usable]

/-- A module's record at commissioning: its window is the record's, and it is FREE where that is usable. -/
theorem commissionedModule_eq (w : Window) :
    commissionedModule w =
      { state := if w.first ≤ w.last then .free else .absent
        window := w, assigned := none, timer := .stopped, releaseOnClose := false, forced := false, fault := none } := by
  simp only [commissionedModule, ModuleRecord.cold, Window.usable_iff]

/-- The state with a commissioning record written: the modules by their windows, the grid cap at the ceiling, the period timer started
(steps 1 to 4 of R178). -/
def State.commissionedWith (s : State) (c : Commissioning) : State :=
  { s with
    control := { s.control with commissioned := true, record := c }
    modules := Vector.ofFn fun m => commissionedModule c.windows[m.val]
    alloc :=
      { s.alloc with
        gridCap := c.ceiling, stagedGridCap := none, periodTimer := some (s.now + s.control.params.periodMs) } }

/-! ### The owner's branches (R178) -/

section
variable {s : State} {body : List Byte}

/-- Check 1: the part is commissioned already. -/
theorem commission_of_commissioned (hflag : s.control.commissioned = true) : s.commission body = refuse .locked s := by
  simp [State.commission, hflag]

section
variable (hflag : s.control.commissioned = false)
include hflag

/-- Checks 2 to 4: the record is out of range. -/
theorem commission_of_out_of_range (hbad : ¬ (commissioningAt body).inRange = true) : s.commission body = refuse .range s := by
  simp [State.commission, hflag, hbad]

/-- The checks passed: the record is written whole. -/
theorem commission_of_inRange (hgood : (commissioningAt body).inRange = true) :
    s.commission body = accept [] (s.commissionedWith (commissioningAt body)) := by
  simp only [State.commission, hflag, hgood, Bool.false_eq_true, Bool.true_eq_false, if_false]
  rfl

end
end

/-! ### What the command runs -/

/-- COMMISSION is the taking of a request that `State.commission` answers. -/
theorem exec_commission (s : State) :
    exec .commission s = takeRequest .commission s fun r s => s.commission r.body := rfl

/-- Writing the record reads nothing of the host port, so it may as well follow the reply. -/
theorem commissionedWith_dropHead_pushOutput (s : State) (r : HostRecord) (c : Commissioning) :
    (s.dropHead.commissionedWith c).pushOutput (replyTo r .ok []) = (s.answered r .ok []).commissionedWith c := rfl

/-! ### The obligation -/

/-- Settles O32: one clause for each branch of the owner; the body's fields pass the checks exactly where the record that it spells is
in range. -/
theorem commissionChecksAndWritesTheRecord : Obligations.CommissionChecksAndWritesTheRecord := by
  intro s r h ceiling rating kw window good
  have hrange : (commissioningAt r.body).inRange = true ↔ good := by
    simp only [Commissioning.inRange_iff, ratings_commissioningAt, windows_commissioningAt]
    rfl
  rw [exec_commission]
  refine ⟨fun hflag => ?locked, fun hflag hbad => ?outOfRange, fun hflag hgood => ?taken⟩
  case locked =>
    exact takeRequest_of_refuse h (by decide) (commission_of_commissioned (s := s.dropHead) hflag)
  case outOfRange =>
    exact takeRequest_of_refuse h (by decide) (commission_of_out_of_range (s := s.dropHead) hflag (mt hrange.1 hbad))
  case taken =>
    have howner := commission_of_inRange (s := s.dropHead) hflag (hrange.2 hgood)
    rw [takeRequest_of_accept_changed (owner := fun r s => s.commission r.body) h howner,
      commissionedWith_dropHead_pushOutput]
    simp only [State.commissionedWith, commissionedModule_eq, windows_commissioningAt]
    rfl

end Sys2Proof.Machine
end

section
/-! # Facts about lists

The proofs are kept as a file that imports the model and nothing else, and the model is written over core Lean; what they need of lists
beyond the core library is proved here. -/

namespace Sys2Proof.Machine

section
variable {α β : Type}

/-- Elements of a list whose images do not repeat are told apart by their images. -/
theorem eq_of_nodup_map {f : α → β} {l : List α} (h : (l.map f).Nodup) {x y : α} (hx : x ∈ l) (hy : y ∈ l) (heq : f x = f y) :
    x = y := by
  induction l with
  | nil => cases hx
  | cons a l ih =>
    rw [List.map_cons, List.nodup_cons] at h
    obtain ⟨hnot, hnodup⟩ := h
    rcases List.mem_cons.1 hx with rfl | hxl <;> rcases List.mem_cons.1 hy with rfl | hyl
    · rfl
    · exact absurd (heq ▸ List.mem_map_of_mem hyl) hnot
    · exact absurd (heq ▸ List.mem_map_of_mem hxl) hnot
    · exact ih hnodup hxl hyl

/-- The two parts of a list without repetitions have no element in common. -/
theorem not_mem_of_nodup_append {l l' : List α} (h : (l ++ l').Nodup) {x : α} (hx : x ∈ l) : x ∉ l' :=
  fun hx' => (List.nodup_append.1 h).2.2 x hx x hx' rfl

/-- Parts without repetitions and without a common element. -/
theorem nodup_append_of_apart {l l' : List α} (h : l.Nodup) (h' : l'.Nodup) (hapart : ∀ x, x ∈ l → x ∉ l') : (l ++ l').Nodup :=
  List.nodup_append.2 ⟨h, h', fun x hx _ hy heq => hapart x hx (heq ▸ hy)⟩

/-- Lists without repetitions and without a common element, one behind another. -/
theorem nodup_flatMap_of_apart {l : List α} {f : α → List β} (h : ∀ x ∈ l, (f x).Nodup)
    (hapart : l.Pairwise fun a b => ∀ x, x ∈ f a → x ∉ f b) : (l.flatMap f).Nodup :=
  List.pairwise_flatMap.2 ⟨h, hapart.imp fun {_ _} hab x hx y hy (heq : x = y) => hab x hx (heq ▸ hy)⟩

theorem nodup_map_of_inj {l : List α} {f : α → β} (hf : ∀ a b, f a = f b → a = b) (h : l.Nodup) : (l.map f).Nodup :=
  List.pairwise_map.2 (h.imp fun hne heq => hne (hf _ _ heq))

theorem flatMap_congr_of_mem {l : List α} {f g : α → List β} (h : ∀ x ∈ l, f x = g x) : l.flatMap f = l.flatMap g := by
  rw [List.flatMap_def, List.flatMap_def, List.map_congr_left h]

/-- Induction on a list from its end. -/
theorem snoc_induction {motive : List α → Prop} (l : List α) (nil : motive [])
    (append_singleton : ∀ (l : List α) (x : α), motive l → motive (l ++ [x])) : motive l := by
  rw [← List.reverse_reverse l]
  induction l.reverse with
  | nil => exact nil
  | cons x l ih =>
    rw [List.reverse_cons]
    exact append_singleton _ x ih

/-- A list is split by a test. -/
theorem length_filter_add_length_filter (l : List α) (p : α → Bool) :
    (l.filter p).length + (l.filter fun x => !p x).length = l.length := by
  induction l with
  | nil => rfl
  | cons a l ih => cases ha : p a <;> simp [ha] <;> omega

/-- A test that drops one element more. -/
theorem length_filter_add_one {l : List α} (hnodup : l.Nodup) {f g : α → Bool} {p : α} (hmem : p ∈ l) (hf : f p = true)
    (hg : g p = false) (hne : ∀ q, q ≠ p → g q = f q) : (l.filter g).length + 1 = (l.filter f).length := by
  induction l with
  | nil => cases hmem
  | cons a l ih =>
    obtain ⟨hnot, hnodup'⟩ := List.nodup_cons.1 hnodup
    rcases List.mem_cons.1 hmem with rfl | hin
    · have hrest : l.filter g = l.filter f := List.filter_congr fun q hq => hne q fun heq => hnot (heq ▸ hq)
      rw [List.filter_cons_of_pos hf, List.filter_cons_of_neg (by simp [hg]), hrest, List.length_cons]
    · have ha : g a = f a := hne a fun heq => hnot (heq ▸ hin)
      have hrest := ih hnodup' hin
      cases hfa : f a
      · rw [List.filter_cons_of_neg (by rw [ha, hfa]; exact Bool.false_ne_true), List.filter_cons_of_neg (by rw [hfa]; exact Bool.false_ne_true)]
        exact hrest
      · rw [List.filter_cons_of_pos hfa, List.filter_cons_of_pos (ha.trans hfa), List.length_cons, List.length_cons, hrest]

/-! ### Sums -/

theorem sum_map_le {l : List α} {f g : α → Nat} (h : ∀ x ∈ l, f x ≤ g x) : (l.map f).sum ≤ (l.map g).sum := by
  induction l with
  | nil => exact Nat.le_refl _
  | cons a l ih =>
    simp only [List.map_cons, List.sum_cons]
    exact Nat.add_le_add (h a (by simp)) (ih fun x hx => h x (by simp [hx]))

theorem le_sum_map {l : List α} (f : α → Nat) {x : α} (hx : x ∈ l) : f x ≤ (l.map f).sum := by
  induction l with
  | nil => cases hx
  | cons a l ih =>
    simp only [List.map_cons, List.sum_cons]
    rcases List.mem_cons.1 hx with rfl | hin
    · exact Nat.le_add_right _ _
    · exact Nat.le_trans (ih hin) (Nat.le_add_left _ _)

theorem sum_map_add (l : List α) (f g : α → Nat) : (l.map fun x => f x + g x).sum = (l.map f).sum + (l.map g).sum := by
  induction l with
  | nil => rfl
  | cons a l ih =>
    simp only [List.map_cons, List.sum_cons, ih]
    omega

theorem sum_map_mul (l : List α) (f : α → Nat) (k : Nat) : (l.map fun x => f x * k).sum = (l.map f).sum * k := by
  induction l with
  | nil => simp
  | cons a l ih => simp only [List.map_cons, List.sum_cons, ih, Nat.add_mul]

theorem sum_map_zero {l : List α} {f : α → Nat} (h : ∀ x ∈ l, f x = 0) : (l.map f).sum = 0 := by
  induction l with
  | nil => rfl
  | cons a l ih => simp only [List.map_cons, List.sum_cons, h a (by simp), ih fun x hx => h x (by simp [hx])]

/-- A sum of one term. -/
theorem sum_map_single {l : List α} [DecidableEq α] (hnodup : l.Nodup) {x : α} (hx : x ∈ l) (n : Nat) :
    (l.map fun y => if y = x then n else 0).sum = n := by
  induction l with
  | nil => cases hx
  | cons a l ih =>
    obtain ⟨hnot, hnodup'⟩ := List.nodup_cons.1 hnodup
    simp only [List.map_cons, List.sum_cons]
    rcases List.mem_cons.1 hx with rfl | hin
    · have hrest : ∀ y ∈ l, (if y = x then n else 0) = 0 := fun y hy => if_neg fun (heq : y = x) => hnot (heq ▸ hy)
      rw [if_pos rfl, sum_map_zero hrest, Nat.add_zero]
    · rw [if_neg fun (heq : a = x) => hnot (heq ▸ hin), ih hnodup' hin, Nat.zero_add]

/-- The entries of a vector are its entries by number. -/
theorem toList_eq_map {n : Nat} (v : Vector α n) : v.toList = (List.finRange n).map fun i => v[i.val] := by
  refine List.ext_getElem (by simp) fun i hi hi' => ?_
  simp

end

end Sys2Proof.Machine
end

section
/-! # Steps, reset, and the values of power and the windows (R20, R27, R32, R88, R92, R96, R98, R102, R103)

The laws hold at reset because every table is empty there. The wanted power and the value of a setpoint are equations of the model with
the session read out; a setpoint order is placed exactly where the value changes. -/

namespace Sys2Proof.Machine

/-! ### The queue of commands -/

/-- Settles O1: by the definition of a step. -/
theorem stepRunsFrontCommand : Obligations.StepRunsFrontCommand := by
  refine ⟨fun c rest s h => ?front, fun s h => ?idle⟩
  case front => simp [step, h]
  case idle => simp [step, h]

/-! ### Reset -/

section
variable (p : Pedestal)

/-- Every slot is cold at reset. -/
@[simp] theorem slot_reset : State.reset.slot p = Slot.cold := by simp [State.slot, State.reset]

/-- Every allotment is cold at reset. -/
@[simp] theorem allot_reset : State.reset.allot p = Allotment.cold := by simp [State.allot, State.reset, Apportioner.cold]

/-- Every link is cold at reset. -/
@[simp] theorem link_reset : State.reset.link p = Link.cold := by simp [State.link, State.reset, FieldLink.cold]

end

/-- Every module is cold at reset. -/
@[simp] theorem module_reset (m : ModuleNo) : State.reset.module m = ModuleRecord.cold := by simp [State.module, State.reset]

/-- Every tariff slot is cold at reset. -/
@[simp] theorem tariff_reset (n : TariffNo) : State.reset.tariff n = TariffSlot.cold := by simp [State.tariff, State.reset]

/-- Settles O3: by the values of `State.reset`, table by table. -/
theorem resetHoldsColdStartValues : Obligations.ResetHoldsColdStartValues := by
  refine ⟨slot_reset, rfl, rfl, fun n => ?tariffs, rfl, rfl, rfl, rfl, rfl, rfl, rfl, allot_reset, module_reset, rfl, rfl, rfl, rfl,
    link_reset, rfl, rfl, rfl, fun c => ?masked, fun c hc => ?clear, rfl, rfl, rfl, rfl, rfl, rfl, rfl, rfl, rfl, rfl, rfl,
    rfl, rfl, rfl, rfl⟩
  case tariffs => simp [TariffSlot.cold]
  case masked => cases c <;> rfl
  case clear =>
    cases c with
    | park => exact absurd rfl hc
    | session | settle | hold | field => exact ⟨rfl, rfl⟩

/-- No slot holds a session at reset. -/
theorem not_holds_reset (p : Pedestal) (e : Session) : ¬ State.reset.Holds p e := by simp [State.Holds, Slot.cold]

/-- A vacant slot without a session, a timer or power is sound. -/
theorem slotSound_of_cold {s : State} {p : Pedestal} {mode : PedestalMode} (hslot : s.slot p = { Slot.cold with mode := mode })
    (hmode : mode ≠ .closingDown) (hgrant : (s.allot p).grant = 0) (hset : (s.allot p).setpoint = 0) : s.SlotSound p := by
  simp [State.SlotSound, State.Holds, hslot, Slot.cold, SlotState.isOpen, hmode, hgrant, hset]

/-- An absent module with a sound window is sound. -/
theorem ModuleRecord.sound_cold {w : Window} (hw : w.Sound) : ({ ModuleRecord.cold with window := w } : ModuleRecord).Sound := by
  simp [ModuleRecord.Sound, ModuleRecord.cold, ModuleState.names, hw]

/-- The window of a cold module is one that COMMISSION accepts. -/
theorem Window.sound_cold : (Window.mk 1 0).Sound := by simp [Window.Sound]

/-- Settles O4: every table is empty at reset, and the latch has its restart source. -/
theorem resetKeepsEveryLaw : Obligations.ResetKeepsEveryLaw := by
  refine ⟨List.Pairwise.nil, ?places, Nat.zero_le 4, fun c => ?pending, fun p => ?slots, ?money, ?numbers, fun n => ?references, ?power,
    fun p => ?backed, ?latch, fun _ => ⟨rfl, rfl, fun m => ?cutoff⟩, fun m => ?modules⟩
  case places =>
    have hopen : State.reset.openCount = 0 := by simp [State.openCount, Slot.cold]
    rw [State.PlacesBounded, hopen]
    exact Nat.zero_le 24
  case pending =>
    cases c with
    | park => exact fun _ => ⟨rfl, rfl⟩
    | session | settle | hold | field => exact fun h => absurd h (by decide)
  case slots =>
    exact slotSound_of_cold (mode := .inService) (slot_reset p) (by decide) (by simp [Allotment.cold]) (by simp [Allotment.cold])
  case money => exact ⟨fun p e h => absurd h (not_holds_reset p e), fun r h => absurd h (by simp [State.reset])⟩
  case numbers =>
    exact ⟨by decide, by decide, fun p e h => absurd h (not_holds_reset p e), fun p _ e _ h => absurd h (not_holds_reset p e),
      fun r h => absurd h (by simp [State.reset]), fun r h => absurd h (by simp [State.reset]), List.Pairwise.nil⟩
  case references =>
    refine ⟨?count, fun p e h => absurd h (not_holds_reset p e)⟩
    have hnone : State.reset.sessionsOn n = 0 := by
      rw [State.sessionsOn, List.length_eq_zero_iff, List.filter_eq_nil_iff]
      exact fun p _ => by simp [Slot.cold]
    rw [hnone, tariff_reset]
    rfl
  case power => exact ⟨by decide, fun p => by simp [Allotment.cold], by decide, rfl, fun _ => rfl⟩
  case backed => simp [Allotment.cold]
  case latch => exact ⟨fun _ => Or.inr (Or.inr rfl), fun _ => rfl⟩
  case cutoff => simp [ModuleRecord.cold, ModuleState.switching]
  case modules =>
    have hwindow : State.reset.control.record.windows[m.val] = { first := 1, last := 0 } := by
      simp [State.reset, RestartControl.cold, Commissioning.cold]
    rw [module_reset, hwindow]
    exact ⟨ModuleRecord.sound_cold Window.sound_cold, Window.sound_cold, fun h => absurd rfl h⟩

/-! ### Available power (R88, R98) -/

section
variable {s : State}

/-- Before commissioning and with the latch set there is no power. -/
theorem computedPower_of_off (h : s.control.commissioned = false ∨ s.prot.latch = true) : s.computedPower = 0 := by
  rcases h with h | h <;> simp [State.computedPower, h]

/-- The computed park power of a commissioned park with the latch clear. -/
theorem computedPower_of_on (hc : s.control.commissioned = true) (hl : s.prot.latch = false) :
    s.computedPower = min (min s.control.record.ceiling s.alloc.gridCap) s.deratedCeiling := by
  simp [State.computedPower, hc, hl]

/-- A reduction pass runs where the computed park power has fallen. -/
theorem considerReduction_of_lt (h : s.computedPower < s.alloc.pAv) :
    s.considerReduction = (s.setPower s.computedPower).reductionPass := by
  simp [State.considerReduction, h]

/-- No reduction pass runs where the computed park power has not fallen. -/
theorem considerReduction_of_le (h : s.alloc.pAv ≤ s.computedPower) : s.considerReduction = s := by
  simp [State.considerReduction, Nat.not_lt.2 h]

end

/-! ### Demand and setpoints (R92, R96, R102, R103) -/

/-- The whole modules that cover a power: enough, and no more than enough. -/
theorem ceilDiv_covers {kw rating : Nat} (h : 0 < rating) :
    kw ≤ (kw + rating - 1) / rating * rating ∧
      (0 < (kw + rating - 1) / rating → ((kw + rating - 1) / rating - 1) * rating < kw) := by
  have hdiv := Nat.div_add_mod (kw + rating - 1) rating
  have hmod := Nat.mod_lt (kw + rating - 1) h
  rw [Nat.mul_comm] at hdiv
  refine ⟨by omega, fun hpos => ?_⟩
  obtain ⟨n, hn⟩ := Nat.exists_eq_succ_of_ne_zero (Nat.ne_of_gt hpos)
  rw [hn, Nat.succ_mul] at hdiv
  rw [hn, Nat.succ_sub_one]
  omega

section
variable (s : State) (p : Pedestal)

/-- The wanted power, with the session's request read out (R92). -/
theorem wantedPower_eq :
    s.wantedPower p =
      (let request := match (s.slot p).session with
        | some e => e.request.getD 0
        | none => 0
      match (s.allot p).cap with
      | none => min request s.control.record.ratings[p.val]
      | some kw => min (min request s.control.record.ratings[p.val]) kw) := by
  unfold State.wantedPower State.rating
  cases (s.slot p).session <;> rfl

/-- The slot is RUNNING. -/
@[simp] theorem isRunning_iff : s.isRunning p = true ↔ (s.slot p).state = .running := by simp [State.isRunning]

/-- The step 8 value of a setpoint (R96). -/
theorem setpointValue_eq :
    s.setpointValue p =
      if (s.slot p).state = .running then
        min (min (s.wantedPower p) (s.assignedCount p * s.control.record.rating))
          ((s.allot p).grant * s.control.record.rating)
      else 0 := by
  simp [State.setpointValue, State.modulePower]

/-- A slot outside RUNNING has no demand (R92). -/
theorem demandOf_of_not_running (h : (s.slot p).state ≠ .running) : s.demandOf p = 0 := by
  simp [State.demandOf, h]

/-- The demand of a RUNNING slot (R92). -/
theorem demandOf_of_running (h : (s.slot p).state = .running) :
    s.demandOf p = (s.wantedPower p + s.control.record.rating - 1) / s.control.record.rating := by
  simp [State.demandOf, h]

/-- An unchanged setpoint is not queued (R96). -/
theorem orderSetpoint_of_eq {kw : Nat} (h : (s.allot p).setpoint = kw) : s.orderSetpoint p kw = s := by
  simp [State.orderSetpoint, h]

/-- A changed setpoint replaces the one held and is queued (R96). -/
theorem orderSetpoint_of_ne {kw : Nat} (h : (s.allot p).setpoint ≠ kw) :
    s.orderSetpoint p kw = (s.setAllot p { s.allot p with setpoint := kw }).placeOrder (.setpoint p kw) := by
  simp [State.orderSetpoint, h]

/-- A setpoint within the limit stays (R103). -/
theorem lowerSetpoint_of_le {limit : Nat} (h : (s.allot p).setpoint ≤ limit) : s.lowerSetpoint p limit = s :=
  orderSetpoint_of_eq s p (by omega)

/-- A setpoint above the limit falls to it (R103). -/
theorem lowerSetpoint_of_gt {limit : Nat} (h : limit < (s.allot p).setpoint) :
    s.lowerSetpoint p limit = (s.setAllot p { s.allot p with setpoint := limit }).placeOrder (.setpoint p limit) := by
  have hmin : min (s.allot p).setpoint limit = limit := by omega
  rw [State.lowerSetpoint, hmin]
  exact orderSetpoint_of_ne s p (by omega)

end

/-! ### The windows (R20, R27, R32) -/

section
variable {s : State} {p : Pedestal} {e : Session}

/-- A slot without a session has no session to change. -/
theorem modifySession_of_none (h : (s.slot p).session = none) (f : Session → Session) : s.modifySession p f = s := by
  have hslot : ({ s.slot p with session := (s.slot p).session.map f } : Slot) = s.slot p := by
    rw [h, Option.map_none, ← h]
  rw [State.modifySession, hslot, setSlot_slot]

/-- The session that a slot holds, changed. -/
theorem modifySession_of_some (h : s.Holds p e) (f : Session → Session) :
    s.modifySession p f = s.setSlot p { s.slot p with session := some (f e) } := by
  have h' : (s.slot p).session = some e := h
  simp [State.modifySession, h']

/-- A session changed into itself is no change. -/
theorem modifySession_of_same (h : s.Holds p e) {f : Session → Session} (hf : f e = e) : s.modifySession p f = s := by
  have h' : (s.slot p).session = some e := h
  rw [modifySession_of_some h, hf, ← h', setSlot_slot]

/-- A window that runs already stays (R20). -/
theorem startWindow_of_running (s : State) {t : Timer} (h : t ≠ none) (seconds : Nat) : s.startWindow t seconds = t := by
  cases t with
  | none => exact absurd rfl h
  | some due => rfl

end

/-- Settles O20: by the equations above, with the session read out of its slot. -/
theorem powerAndWindowsTakeTheirValues : Obligations.PowerAndWindowsTakeTheirValues := by
  refine ⟨fun s => ⟨computedPower_of_off, fun hc hl => ⟨fun hd => ?full, fun hd => ?derated⟩, fun kw => rfl,
    considerReduction_of_lt, considerReduction_of_le⟩, fun s p => ?values, fun s p => ⟨fun hnone => ?closed, fun e he => ?held⟩⟩
  case full => simp [computedPower_of_on hc hl, State.deratedCeiling, hd]
  case derated => simp [computedPower_of_on hc hl, State.deratedCeiling, hd]
  case values =>
    have hwanted := wantedPower_eq s p
    intro rating request wanted value
    have hvalue : s.setpointValue p = value := by
      have h := setpointValue_eq s p
      rw [hwanted] at h
      exact h
    refine ⟨hwanted, hvalue, demandOf_of_not_running s p, fun hrun hrating => ?demand, fun h => ?same, fun h => ?changed,
      fun limit => ⟨lowerSetpoint_of_le s p, lowerSetpoint_of_gt s p⟩⟩
    case demand =>
      rw [demandOf_of_running s p hrun, hwanted]
      exact ceilDiv_covers hrating
    case same => exact orderSetpoint_of_eq s p (h.trans hvalue.symm)
    case changed =>
      rw [State.settleSetpoint, hvalue]
      exact orderSetpoint_of_ne s p h
  case closed => exact ⟨modifySession_of_none hnone _, modifySession_of_none hnone _⟩
  case held =>
    refine ⟨fun h => ?resumeStarts, fun h => ?resumeRuns, fun h => ?extensionStarts, fun h => ?extensionRuns⟩
    case resumeStarts => rw [State.startResume, modifySession_of_some he, h]; rfl
    case resumeRuns => exact modifySession_of_same he (by rw [startWindow_of_running s h])
    case extensionStarts => rw [State.startExtension, modifySession_of_some he, h]; rfl
    case extensionRuns => exact modifySession_of_same he (by rw [startWindow_of_running s h])

end Sys2Proof.Machine
end

section
/-! # The field transmit queue (R147, R149 to R152)

An order is placed by what its place holds, so every way of placing one is one of three changes of the queue: the order joins the tail, it
replaces the unsent order of its place, or it drops. -/

namespace Sys2Proof.Machine

/-! ### What a place holds (R149) -/

section
variable (s : State) (o : Order) (pl : Place)

/-- A place is read off the queue alone. -/
theorem unsentAt_congr {s t : State} (h : t.field.queue = s.field.queue) (pl : Place) : t.unsentAt pl = s.unsentAt pl := by
  simp [State.unsentAt, h]

/-- An order that joins the tail is found in its place where the place was empty; the other places are as before. -/
theorem unsentAt_enqueue :
    (s.enqueue o).unsentAt pl = (s.unsentAt pl).or (if o.place = pl then some o else none) := by
  by_cases h : o.place = pl <;> simp [State.enqueue, State.unsentAt, List.find?_append, h]

/-- An order that replaces is found in its place where the place was taken; the other places are as before. -/
theorem unsentAt_replaceOrder :
    (s.replaceOrder o).unsentAt pl = if o.place = pl then (s.unsentAt pl).map fun _ => o else s.unsentAt pl := by
  have hplace (x : Order) : ((if x.place == o.place then o else x).place == pl) = (x.place == pl) := by
    by_cases hx : x.place = o.place <;> simp [hx]
  have hfind : (s.replaceOrder o).unsentAt pl = (s.unsentAt pl).map fun x => if x.place == o.place then o else x := by
    simp only [State.unsentAt, State.replaceOrder, queue_setQueue, List.find?_map]
    congr 2
    funext x
    exact hplace x
  rw [hfind]
  cases hu : s.unsentAt pl with
  | none => simp
  | some x =>
    have hx := place_of_unsentAt hu
    by_cases ho : o.place = pl
    · simp [hx, ho]
    · simp [hx, ho, Ne.symm ho]

/-- An order placed over what its place holds is found there; the other places are as before. -/
theorem unsentAt_replaceOrEnqueue :
    (s.replaceOrEnqueue o).unsentAt pl = if o.place = pl then some o else s.unsentAt pl := by
  unfold State.replaceOrEnqueue
  split
  next hnone =>
    rw [unsentAt_enqueue]
    by_cases h : o.place = pl
    · subst h; simp [hnone]
    · simp [h]
  next x hsome =>
    rw [unsentAt_replaceOrder]
    by_cases h : o.place = pl
    · subst h; simp [hsome]
    · simp [h]

end

/-! ### How an order is placed (R150) -/

section
variable {s : State} {o : Order}

/-- An order of an empty place joins the tail. -/
theorem replaceOrEnqueue_of_empty (h : s.unsentAt o.place = none) :
    s.replaceOrEnqueue o = s.setQueue (s.field.queue ++ [o]) := by
  simp [State.replaceOrEnqueue, h, State.enqueue]

/-- An order of a taken place replaces the one there. -/
theorem replaceOrEnqueue_of_taken (h : s.unsentAt o.place ≠ none) :
    s.replaceOrEnqueue o = s.setQueue (s.field.queue.map fun x => if x.place = o.place then o else x) := by
  obtain ⟨x, hx⟩ := Option.ne_none_iff_exists'.1 h
  simp [State.replaceOrEnqueue, hx, State.replaceOrder]

end

/-- A setpoint order and the orders of a module replace what their place holds. -/
theorem placeOrder_eq_replaceOrEnqueue (s : State) {o : Order}
    (h : (∃ p kw, o = .setpoint p kw) ∨ (∃ m p, o = .precharge m p) ∨ (∃ m, o = .close m ∨ o = .ramp m ∨ o = .openContact m)) :
    s.placeOrder o = s.replaceOrEnqueue o := by
  rcases h with ⟨p, kw, rfl⟩ | ⟨m, p, rfl⟩ | ⟨m, rfl | rfl | rfl⟩ <;> rfl

/-- PD-BEGIN, PD-END and PD-REFUSE are placed by what the pedestal's other-order place holds. -/
theorem placeOrder_eq_placeSessionOrder (s : State) {p : Pedestal} {o : Order}
    (h : o = .endSession p ∨ o = .refuse p ∨ (∃ n, o = .beginSession p n)) :
    s.placeOrder o = s.placeSessionOrder p o ∧ o.place = .other p := by
  rcases h with rfl | rfl | ⟨n, rfl⟩ <;> exact ⟨rfl, rfl⟩

section
variable {s : State} {p : Pedestal} {o : Order}

/-- A session order joins the tail where its place is empty. -/
theorem placeSessionOrder_of_empty (h : s.unsentAt (.other p) = none) :
    s.placeSessionOrder p o = s.setQueue (s.field.queue ++ [o]) := by
  simp [State.placeSessionOrder, h, State.enqueue]

/-- A session order drops behind an unsent PD-RESET. -/
theorem placeSessionOrder_of_reset (h : s.unsentAt (.other p) = some (.reset p)) : s.placeSessionOrder p o = s := by
  simp [State.placeSessionOrder, h]

/-- A session order replaces an unsent one of its kind. -/
theorem placeSessionOrder_of_session {x : Order} (h : s.unsentAt (.other p) = some x)
    (hx : x = .endSession p ∨ x = .refuse p ∨ (∃ n, x = .beginSession p n)) :
    s.placeSessionOrder p o = s.replaceOrder o := by
  rcases hx with rfl | rfl | ⟨n, rfl⟩ <;> simp [State.placeSessionOrder, h]

/-- A session order replaces an unsent PD-QUERY, whose query ends. -/
theorem placeSessionOrder_of_query {e : BitVec 4} {c : Byte} (h : s.unsentAt (.other p) = some (.query p e c)) :
    s.placeSessionOrder p o = (s.replaceOrder o).endQuery p .noAnswer [] := by
  simp [State.placeSessionOrder, h]

/-- A pending query ends with its delayed reply. -/
theorem endQuery_of_some {q : PendingQuery} (h : (s.link p).query = some q) (code : ResultCode) (data : List Byte) :
    s.endQuery p code data =
      (s.setLink p { s.link p with query := none, queryTimer := none }).pushOutput (delayedReply q.tag p code data) := by
  simp [State.endQuery, h]

/-- Where no query is pending nothing ends. -/
theorem endQuery_of_none (h : (s.link p).query = none) (code : ResultCode) (data : List Byte) : s.endQuery p code data = s := by
  simp [State.endQuery, h]

end

/-- The replacement of an order, written with the place it replaces. -/
theorem replaceOrder_of_place (s : State) {o : Order} {pl : Place} (h : o.place = pl) :
    s.replaceOrder o = s.setQueue (s.field.queue.map fun x => if x.place = pl then o else x) := by
  simp [State.replaceOrder, h]

/-- Settles O17: one clause for each way of placing, by what the place holds. -/
theorem ordersArePlacedByTheirPlace : Obligations.OrdersArePlacedByTheirPlace := by
  refine ⟨fun s o ho => ?replaces, fun s p o ho => ?session, fun s p => rfl, fun s p e c => rfl⟩
  case replaces =>
    rw [placeOrder_eq_replaceOrEnqueue s ho]
    exact ⟨replaceOrEnqueue_of_empty, replaceOrEnqueue_of_taken⟩
  case session =>
    obtain ⟨hplaced, hplace⟩ := placeOrder_eq_placeSessionOrder s ho
    rw [hplaced]
    refine ⟨placeSessionOrder_of_empty, placeSessionOrder_of_reset, fun x hx hkind => ?replaced, fun e c q hu hq => ?queried,
      fun e c hu hq => ?unqueried⟩
    case replaced => rw [placeSessionOrder_of_session hx hkind, replaceOrder_of_place s hplace]
    case queried =>
      rw [placeSessionOrder_of_query hu, replaceOrder_of_place s hplace, endQuery_of_some (by simpa using hq)]
      rfl
    case unqueried =>
      rw [placeSessionOrder_of_query hu, replaceOrder_of_place s hplace, endQuery_of_none (by simpa using hq)]

/-! ### Transmission (R151, R152) -/

section
variable {s : State}

/-- The head of the queue moves into the empty buffer while the controller is on the bus. -/
theorem startTransmit_of_head {o : Order} {rest : List Order} (hcan : s.field.can = .onBus) (hbuffer : s.field.buffer = none)
    (hqueue : s.field.queue = o :: rest) :
    s.startTransmit = { s with field := { s.field with queue := rest, buffer := some o } } := by
  simp [State.startTransmit, hcan, hbuffer, hqueue]

/-- In BUS_OFF, with the buffer taken or the queue empty, nothing moves. -/
theorem startTransmit_of_blocked (h : s.field.can = .busOff ∨ s.field.buffer ≠ none ∨ s.field.queue = []) :
    s.startTransmit = s := by
  unfold State.startTransmit
  split
  next hcan hbuffer hqueue => simp [hcan, hbuffer, hqueue] at h
  next => rfl

/-- The order in the buffer is sent while the controller is on the bus. -/
theorem exec_orderSent_of_buffer (time : Nat) {o : Order} (hlive : s.Live) (hcan : s.field.can = .onBus)
    (hbuffer : s.field.buffer = some o) :
    exec (.orderSent time) s = .next ((s.advance time).orderSent o).startTransmit :=
  occur_of_some (f := fun s => match s.field.can, s.field.buffer with
    | .onBus, some o => some ((s.advance time).orderSent o)
    | _, _ => none) hlive (by simp [hcan, hbuffer])

/-- The controller enters BUS_OFF while an order is in transmission. -/
theorem exec_busOff_of_buffer (time : Nat) {o : Order} (hlive : s.Live) (hcan : s.field.can = .onBus)
    (hbuffer : s.field.buffer = some o) : exec (.busOff time) s = .next (s.advance time).enterBusOff.startTransmit :=
  occur_of_some (f := fun s =>
    if s.field.can = .onBus ∧ s.field.buffer.isSome then some (s.advance time).enterBusOff else none) hlive (by simp [hcan, hbuffer])

/-- The controller returns to the bus. -/
theorem exec_busOffRecovery_of_busOff (time : Nat) (hlive : s.Live) (hcan : s.field.can = .busOff) :
    exec (.busOffRecovery time) s = .next (s.advance time).leaveBusOff.startTransmit :=
  occur_of_some (f := fun s => if s.field.can = .busOff then some (s.advance time).leaveBusOff else none) hlive (by simp [hcan])

/-- An unsent MD-PRECHARGE of the module. -/
def Order.isPrechargeOf (m : ModuleNo) : Order → Bool
  | .precharge n _ => n == m
  | _ => false

/-- An MD-PRECHARGE of a module is unsent exactly where one stands in the queue. -/
theorem any_isPrechargeOf {m : ModuleNo} (l : List Order) :
    l.any (Order.isPrechargeOf m) = true ↔ ∃ q, Order.precharge m q ∈ l := by
  simp only [List.any_eq_true]
  constructor
  · rintro ⟨o, ho, hm⟩
    cases o with
    | precharge n q => exact ⟨q, by simpa [← beq_iff_eq.1 hm] using ho⟩
    | _ => cases hm
  · exact fun ⟨q, hq⟩ => ⟨_, hq, beq_self_eq_true m⟩

/-- Whether a module awaits the sending, with the unsent orders looked for by `Order.isPrechargeOf`. -/
theorem awaitsSend_eq (s : State) (m : ModuleNo) :
    s.awaitsSend m = ((s.module m).state == .precharge && (s.module m).timer == .awaitingSend &&
      !(s.field.queue.any (Order.isPrechargeOf m))) := rfl

/-- A module awaits the sending of its precharge order exactly where no newer one is unsent. -/
theorem awaitsSend_iff {m : ModuleNo} :
    s.awaitsSend m = true ↔ (s.module m).state = .precharge ∧ (s.module m).timer = .awaitingSend ∧
      ∀ q, Order.precharge m q ∉ s.field.queue := by
  rw [← not_exists, ← any_isPrechargeOf, awaitsSend_eq]
  simp [and_assoc]

/-- A PD-QUERY of a pedestal is unsent exactly where one stands in the queue. -/
theorem any_isQueryOf {p : Pedestal} (l : List Order) :
    l.any (Order.isQueryOf p) = true ↔ ∃ e c, Order.query p e c ∈ l := by
  simp only [List.any_eq_true]
  constructor
  · rintro ⟨o, ho, hp⟩
    cases o with
    | query q e c => exact ⟨e, c, by simpa [← beq_iff_eq.1 hp] using ho⟩
    | _ => cases hp
  · exact fun ⟨e, c, h⟩ => ⟨_, h, beq_self_eq_true p⟩

/-- A query whose PD-QUERY is not unsent again is marked sent. -/
theorem markSent_of_sent {p : Pedestal} {q : PendingQuery} (hq : (s.link p).query = some q)
    (hunsent : ∀ e c, Order.query p e c ∉ s.field.queue) :
    s.markSent p = s.setLink p { s.link p with query := some { q with sent := true } } := by
  have hany : ¬ s.field.queue.any (Order.isQueryOf p) = true := by
    rw [any_isQueryOf]; exact fun ⟨e, c, h⟩ => hunsent e c h
  simp [State.markSent, hany, hq]

/-- A link entry written as it stands changes nothing. -/
@[simp] theorem setLink_link (s : State) (p : Pedestal) : s.setLink p (s.link p) = s := by
  simp [State.setLink, State.link]

/-- Without a pending query, or with a newer PD-QUERY unsent, nothing is marked. -/
theorem markSent_of_other {p : Pedestal} (h : (s.link p).query = none ∨ ∃ e c, Order.query p e c ∈ s.field.queue) :
    s.markSent p = s := by
  unfold State.markSent
  split
  next => rfl
  next hany =>
    rw [any_isQueryOf] at hany
    have hnone := h.resolve_right hany
    have hlink : ({ s.link p with query := (s.link p).query.map fun q => { q with sent := true } } : Link) = s.link p := by
      rw [hnone, Option.map_none, ← hnone]
    rw [hlink, setLink_link]

end

/-- Settles O18: the order sent tells its owner by its kind, and the buffer's next content is `State.startTransmit`'s. -/
theorem ordersAreTransmittedFromTheHead : Obligations.OrdersAreTransmittedFromTheHead := by
  refine ⟨fun s o rest hcan hbuffer hqueue => startTransmit_of_head hcan hbuffer hqueue, fun s h => startTransmit_of_blocked h,
    fun s time hlive => ⟨fun o hcan hbuffer => ?sent, fun hcan => ?returned⟩⟩
  case returned => exact exec_busOffRecovery_of_busOff time hlive hcan
  case sent =>
    intro sent
    rw [exec_orderSent_of_buffer time hlive hcan hbuffer, exec_busOff_of_buffer time hlive hcan hbuffer]
    refine ⟨fun hprecharge hquery => ?other, fun m p ho => ?precharge, fun p e c q ho hq hunsent => ?query, fun p e c ho h => ?noQuery,
      ?busOff⟩
    case other =>
      cases o with
      | precharge m p => exact absurd rfl (hprecharge m p)
      | query p e c => exact absurd rfl (hquery p e c)
      | _ => rfl
    case precharge =>
      subst ho
      refine ⟨fun hstate htimer hunsent => ?awaited, fun h => ?unawaited⟩
      case awaited =>
        have hawaits : State.awaitsSend { s.advance time with field := sent } m = true :=
          awaitsSend_iff.2 ⟨hstate, htimer, hunsent⟩
        rw [State.orderSent, State.orderReported]
        exact congrArg (fun x => Host.Outcome.next (State.startTransmit x)) (if_pos hawaits)
      case unawaited =>
        have hawaits : ¬ State.awaitsSend { s.advance time with field := sent } m = true := by
          rw [awaitsSend_iff]
          rintro ⟨hstate, htimer, hunsent⟩
          rcases h with h | h | ⟨q, hq⟩
          · exact h hstate
          · exact h htimer
          · exact hunsent q hq
        rw [State.orderSent, State.orderReported]
        exact congrArg (fun x => Host.Outcome.next (State.startTransmit x)) (if_neg hawaits)
    case query =>
      subst ho
      exact congrArg (fun x => Host.Outcome.next (State.startTransmit x))
        (markSent_of_sent (s := { s.advance time with field := sent }) hq hunsent)
    case noQuery =>
      subst ho
      exact congrArg (fun x => Host.Outcome.next (State.startTransmit x))
        (markSent_of_other (s := { s.advance time with field := sent }) h)
    case busOff =>
      rw [startTransmit_of_blocked]
      · rfl
      · exact Or.inl (by simp [State.enterBusOff])

/-! ### An accepted frame (R28, R147, R154) -/

section
variable {s : State} {p : Pedestal}

/-- A pedestal's link entry once a frame of it has been accepted (R147). -/
def State.linkHeard (s : State) (p : Pedestal) : Link :=
  { s.link p with
    state := .up
    reportTimer := some (s.now + s.params.reportTimeoutS * 1000)
    fresh := if (s.link p).state = .up then (s.link p).fresh else false
    lastArrival := some s.now }

/-- A frame over a link that is not SILENT brings the link up and changes nothing else. -/
theorem heardFrom_of_heard (h : (s.link p).state ≠ .silent) : s.heardFrom p = s.setLink p (s.linkHeard p) := by
  simp [State.heardFrom, h, State.linkHeard, State.after]

/-- A frame over a SILENT link brings the link up, and the slot learns of the return. -/
theorem heardFrom_of_silent (h : (s.link p).state = .silent) :
    s.heardFrom p = (s.setLink p (s.linkHeard p)).linkReturned p := by
  simp [State.heardFrom, h, State.linkHeard, State.after]

/-- A frame over a link that is not SILENT leaves nothing to judge. -/
theorem heardAndJudged_of_heard (h : (s.link p).state ≠ .silent) : s.heardAndJudged p = s.setLink p (s.linkHeard p) := by
  rw [State.heardAndJudged, if_neg h, heardFrom_of_heard h]

/-- A frame over a SILENT link judges the slot. -/
theorem heardAndJudged_of_silent (h : (s.link p).state = .silent) :
    s.heardAndJudged p = ((s.setLink p (s.linkHeard p)).linkReturned p).judge p := by
  rw [State.heardAndJudged, if_pos h, heardFrom_of_silent h]

/-- A slot without a session is not judged. -/
theorem judge_of_no_session (h : (s.slot p).session = none) : s.judge p = s := by
  simp [State.judge, h]

/-- The return of a link leaves the session without its resume window and without LINK (R28). -/
def Session.linkReturned (e : Session) : Session := { e with resumeWindow := none, reasons := e.reasons.remove .link }

/-- The return of the link is told to the session. -/
theorem linkReturned_of_some {e : Session} (h : s.Holds p e) :
    s.linkReturned p = s.setSlot p { s.slot p with session := some e.linkReturned } :=
  modifySession_of_some h _

end

/-- No reason is left where LINK, CUTOFF and HOLD are absent. -/
theorem ReasonSet.isEmpty_iff (r : ReasonSet) : r.isEmpty = true ↔ r.link = false ∧ r.cutoff = false ∧ r.hold = false := by
  simp [ReasonSet.isEmpty, and_assoc]

/-- A SUSPENDED slot with no reason left returns to RUNNING: the slot, the output and the notice unit alone change (R26). -/
theorem judge_of_empty_eq {s : State} {p : Pedestal} {e : Session} (hx : s.Holds p e) (hstate : (s.slot p).state = .suspended)
    (hempty : e.reasons.isEmpty = true) :
    s.judge p =
      { s with
        slots := s.slots.set p.val
          { s.slot p with
            state := .running, changed := true
            session := some { e with interruptions := e.interruptions.map (Interruption.closeAt s.clock.day s.clock.minute) } }
        notices := (s.raise .session).notices
        host := s.emits (s.noticed .session) } := by
  rw [judge_of_empty hx hstate hempty, raise_eq, notices_raise_congr (s := s) .session (by simp)]
  rfl

/-- Settles O19: by the link's state, then by the session that the slot holds and the reasons that the return leaves it. -/
theorem acceptedFrameBringsLinkUp : Obligations.AcceptedFrameBringsLinkUp := by
  intro s p l up
  refine ⟨fun h => heardAndJudged_of_heard h, fun h hnone => ?noSession, fun e h he => ?session⟩
  case noSession =>
    have hnone' : ((s.setLink p up).slot p).session = none := by simpa using hnone
    rw [heardAndJudged_of_silent h]
    exact (congrArg (State.judge · p) (modifySession_of_none hnone' _)).trans (judge_of_no_session hnone')
  case session =>
    intro e'
    have he' : (s.setLink p up).Holds p e := by simpa [State.Holds] using he
    have hreturned : s.heardAndJudged p = ((s.setLink p up).setSlot p { s.slot p with session := some e' }).judge p := by
      rw [heardAndJudged_of_silent h]
      exact congrArg (State.judge · p) (linkReturned_of_some he')
    have hholds : ((s.setLink p up).setSlot p { s.slot p with session := some e' }).Holds p e' := by simp [State.Holds]
    have hreasons : e'.reasons.isEmpty = true ↔ e.reasons.cutoff = false ∧ e.reasons.hold = false := by
      simp [e', ReasonSet.isEmpty_iff]
    refine ⟨fun hstays => ?stays, fun hstate hcutoff hhold => ?returns⟩
    case stays =>
      rw [hreturned]
      refine judge_of_stays hholds fun ⟨hstate, hempty⟩ => ?_
      obtain ⟨hcutoff, hhold⟩ := hreasons.1 hempty
      simp [hcutoff, hhold] at hstays
      exact hstays (by simpa using hstate)
    case returns =>
      have hempty := hreasons.2 ⟨hcutoff, hhold⟩
      have hsuspended : (((s.setLink p up).setSlot p { s.slot p with session := some e' }).slot p).state = .suspended := by
        simpa using hstate
      rw [hreturned, judge_of_empty_eq hholds hsuspended hempty, notices_raise_congr (s := s) .session (by simp)]
      simp [State.setSlot, State.setLink, State.slot, e', State.emits, State.noticed]
      rfl

end Sys2Proof.Machine
end

section
/-! # Releases, assignments and the withdrawal of power (R94, R95, R100, R114, R118)

A release or an assignment changes one module's record and places at most one order, of the module's own place; so a run of them over
different modules is one change of the pool and one list of orders placed in turn (`State.reworked`). The order of R94 is a strict
order of a pedestal's held modules, and the modules that come early enough in a list so ordered are those with few enough ahead. -/

namespace Sys2Proof.Machine

/-! ### Orders placed in turn -/

/-- A queue once an order has been placed that replaces what its place holds (R150). -/
def placed (q : List Order) (o : Order) : List Order :=
  match q.find? fun x => x.place == o.place with
  | none => q ++ [o]
  | some _ => q.map fun x => if x.place == o.place then o else x

/-- Placing over what the place holds changes the queue alone, as `placed` says. -/
theorem replaceOrEnqueue_eq (s : State) (o : Order) : s.replaceOrEnqueue o = s.setQueue (placed s.field.queue o) := by
  unfold State.replaceOrEnqueue placed State.unsentAt
  cases s.field.queue.find? fun x => x.place == o.place <;> rfl

/-- What a place holds once an order has been placed. -/
theorem find_placed (q : List Order) (o : Order) (pl : Place) :
    (placed q o).find? (fun x => x.place == pl) = if o.place = pl then some o else q.find? fun x => x.place == pl := by
  have h := unsentAt_replaceOrEnqueue (State.reset.setQueue q) o pl
  rw [replaceOrEnqueue_eq] at h
  exact h

/-- What a place holds once orders have been placed in turn: the last of its orders, or what it held. -/
theorem find_foldl_placed (os : List Order) (q : List Order) (pl : Place) :
    (os.foldl placed q).find? (fun x => x.place == pl) =
      (os.reverse.find? fun x => x.place == pl).or (q.find? fun x => x.place == pl) := by
  induction os generalizing q with
  | nil => simp
  | cons o os ih =>
    rw [List.foldl_cons, ih, find_placed, List.reverse_cons, List.find?_append, Option.or_assoc]
    by_cases h : o.place = pl <;> simp [h]

/-- A place that none of the orders has is left alone. -/
theorem find_foldl_placed_of_not_mem {os : List Order} {pl : Place} (h : ∀ o ∈ os, o.place ≠ pl) (q : List Order) :
    (os.foldl placed q).find? (fun x => x.place == pl) = q.find? fun x => x.place == pl := by
  have hnone : (os.reverse.find? fun x => x.place == pl) = none := by simpa using h
  rw [find_foldl_placed, hnone, Option.none_or]

/-- Each of several orders of different places is found in its place. -/
theorem find_foldl_placed_of_mem {os : List Order} (hnodup : (os.map Order.place).Nodup) {o : Order} (ho : o ∈ os) (q : List Order) :
    (os.foldl placed q).find? (fun x => x.place == o.place) = some o := by
  have hfind : (os.reverse.find? fun x => x.place == o.place) = some o := by
    cases hf : os.reverse.find? fun x => x.place == o.place with
    | none => simp at hf; exact absurd rfl (hf o ho)
    | some x =>
      have hx : x ∈ os := by simpa using List.mem_of_find?_eq_some hf
      have hplace : x.place = o.place := by simpa using List.find?_some hf
      rw [eq_of_nodup_map hnodup hx ho hplace]
  rw [find_foldl_placed, hfind, Option.some_or]

/-- Orders of different empty places join the tail one after another. -/
theorem foldl_placed_of_empty {os : List Order} (hnodup : (os.map Order.place).Nodup) {q : List Order}
    (hempty : ∀ o ∈ os, (q.find? fun x => x.place == o.place) = none) : os.foldl placed q = q ++ os := by
  induction os generalizing q with
  | nil => simp
  | cons o os ih =>
    have hplaced : placed q o = q ++ [o] := by simp [placed, hempty o (by simp)]
    rw [List.map_cons, List.nodup_cons] at hnodup
    rw [List.foldl_cons, ih hnodup.2, hplaced, List.append_assoc, List.singleton_append]
    intro x hx
    have hne : o.place ≠ x.place := fun h => hnodup.1 (h ▸ List.mem_map_of_mem hx)
    rw [find_placed, if_neg hne]
    exact hempty x (by simp [hx])

/-! ### Changes of the pool -/

/-- The state with every module's record replaced and orders placed in turn. -/
def State.reworked (s : State) (g : ModuleNo → ModuleRecord) (os : List Order) : State :=
  { s with modules := Vector.ofFn g, field := { s.field with queue := os.foldl placed s.field.queue } }

section
variable (s : State) (g : ModuleNo → ModuleRecord) (os : List Order)

/-- The records are those given. -/
@[simp] theorem module_reworked (m : ModuleNo) : (s.reworked g os).module m = g m := by simp [State.module, State.reworked]

/-- The orders have been placed. -/
theorem queue_reworked : (s.reworked g os).field.queue = os.foldl placed s.field.queue := rfl

/-- The pool and the queue alone change. -/
@[simp] theorem reworked_frame :
    (s.reworked g os).pending = s.pending ∧ (s.reworked g os).now = s.now ∧ (s.reworked g os).slots = s.slots ∧
    (s.reworked g os).nextSession = s.nextSession ∧ (s.reworked g os).exhausted = s.exhausted ∧
    (s.reworked g os).tariffs = s.tariffs ∧ (s.reworked g os).settlements = s.settlements ∧ (s.reworked g os).alloc = s.alloc ∧
    (s.reworked g os).prot = s.prot ∧ (s.reworked g os).host = s.host ∧ (s.reworked g os).notices = s.notices ∧
    (s.reworked g os).clock = s.clock ∧ (s.reworked g os).control = s.control ∧
    (∀ q, (s.reworked g os).slot q = s.slot q) ∧ (∀ q, (s.reworked g os).allot q = s.allot q) ∧
    (s.reworked g os).params = s.params := by
  simp [State.reworked, State.slot, State.allot, State.params]

/-- Of two changes of the pool the later stands, and the orders follow one another. -/
theorem reworked_reworked (g' : ModuleNo → ModuleRecord) (os' : List Order) :
    (s.reworked g os).reworked g' os' = s.reworked g' (os ++ os') := by
  simp [State.reworked]

/-- The pool as it stands, and no order, is no change. -/
theorem reworked_self : s.reworked s.module [] = s := by
  have hmodules : (Vector.ofFn s.module : Vector ModuleRecord 32) = s.modules := by
    ext i hi; simp [State.module]
  simp [State.reworked, hmodules]

/-- An order that replaces, placed beside one module's new record. -/
theorem setModule_replaceOrEnqueue (m : ModuleNo) (r : ModuleRecord) (o : Order) :
    (s.replaceOrEnqueue o).setModule m r = s.reworked (fun k => if k = m then r else s.module k) [o] := by
  have hmodules : s.modules.set m.val r = Vector.ofFn fun k => if k = m then r else s.module k := by
    ext i hi
    by_cases h : m.val = i
    · subst h; simp
    · have hne : (⟨i, hi⟩ : ModuleNo) ≠ m := fun e => h (by rw [← e])
      simp [h, hne, State.module]
  rw [replaceOrEnqueue_eq]
  simp [State.reworked, State.setModule, State.setQueue, hmodules]

/-- One module's new record. -/
theorem setModule_eq_reworked (m : ModuleNo) (r : ModuleRecord) :
    s.setModule m r = s.reworked (fun k => if k = m then r else s.module k) [] := by
  have hmodules : s.modules.set m.val r = Vector.ofFn fun k => if k = m then r else s.module k := by
    ext i hi
    by_cases h : m.val = i
    · subst h; simp
    · have hne : (⟨i, hi⟩ : ModuleNo) ≠ m := fun e => h (by rw [← e])
      simp [h, hne, State.module]
  simp [State.reworked, State.setModule, hmodules]

end

/-- Steps over different modules, each of which changes its module's record and places orders as the state before all of them says, are one
change of the pool. -/
theorem foldl_eq_reworked {f : State → ModuleNo → State} {l : List ModuleNo} (hnodup : l.Nodup) (s : State)
    (r : ModuleNo → ModuleRecord) (os : ModuleNo → List Order)
    (hf : ∀ g os', ∀ m ∈ l, g m = s.module m →
      f (s.reworked g os') m = (s.reworked g os').reworked (fun k => if k = m then r m else g k) (os m)) :
    l.foldl f s = s.reworked (fun k => if k ∈ l then r k else s.module k) (l.flatMap os) := by
  suffices h : ∀ (pre : List Order) (g : ModuleNo → ModuleRecord), (∀ m ∈ l, g m = s.module m) →
      l.foldl f (s.reworked g pre) = s.reworked (fun k => if k ∈ l then r k else g k) (pre ++ l.flatMap os) by
    have := h [] s.module fun _ _ => rfl
    rwa [reworked_self] at this
  induction l with
  | nil => intro pre g _; simp
  | cons m l ih =>
    intro pre g hg
    rw [List.nodup_cons] at hnodup
    rw [List.foldl_cons, hf g pre m (by simp) (hg m (by simp)), reworked_reworked,
      ih hnodup.2 (fun g os' k hk => hf g os' k (by simp [hk]))]
    · congr 1
      · funext k
        by_cases hk : k = m <;> simp [hk, hnodup.1]
      · simp
    · intro k hk
      have hkm : k ≠ m := fun h => hnodup.1 (h ▸ hk)
      rw [if_neg hkm]
      exact hg k (by simp [hk])

/-! ### The front of an ordered list -/

/-- In a list ordered by an asymmetric relation, the first `k` elements are those with fewer than `k` before them. -/
theorem mem_take_iff_of_pairwise {α : Type} {r : α → α → Bool} (hasymm : ∀ a b, r a b = true → r b a = false) {l : List α}
    (hl : l.Pairwise fun a b => r a b = true) (k : Nat) (x : α) :
    x ∈ l.take k ↔ x ∈ l ∧ (l.filter fun y => r y x).length < k := by
  induction l generalizing k with
  | nil => simp
  | cons y l ih =>
    rw [List.pairwise_cons] at hl
    obtain ⟨hy, hl⟩ := hl
    have hirrefl (a : α) : r a a = false := by
      cases h : r a a with
      | false => rfl
      | true => exact (hasymm a a h).symm.trans h |>.symm ▸ rfl
    cases k with
    | zero => simp
    | succ k =>
      have hhead : ((y :: l).filter fun z => r z y) = [] := by
        rw [List.filter_eq_nil_iff]
        intro z hz
        rcases List.mem_cons.1 hz with rfl | hz
        · simp [hirrefl]
        · simp [hasymm y z (hy z hz)]
      rw [List.take_succ_cons, List.mem_cons, List.mem_cons, ih hl]
      constructor
      · rintro (rfl | ⟨hx, hlt⟩)
        · rw [hhead]; exact ⟨Or.inl rfl, Nat.succ_pos k⟩
        · rw [List.filter_cons_of_pos (p := fun z => r z x) (hy x hx), List.length_cons]
          exact ⟨Or.inr hx, by omega⟩
      · rintro ⟨rfl | hx, hlt⟩
        · exact Or.inl rfl
        · rw [List.filter_cons_of_pos (p := fun z => r z x) (hy x hx), List.length_cons] at hlt
          exact Or.inr ⟨hx, by omega⟩

/-- The front of a list without repetitions is the part of the list that is in the front. -/
theorem take_eq_filter_of_nodup {α : Type} {l : List α} (hnodup : l.Nodup) (k : Nat) {p : α → Bool}
    (hp : ∀ x ∈ l, p x = true ↔ x ∈ l.take k) : l.filter p = l.take k := by
  have hsplit : l.filter p = (l.take k).filter p ++ (l.drop k).filter p := by
    rw [← List.filter_append, List.take_append_drop]
  have hfront : (l.take k).filter p = l.take k :=
    List.filter_eq_self.2 fun x hx => (hp x (List.mem_of_mem_take hx)).2 hx
  have hback : (l.drop k).filter p = [] := by
    rw [List.filter_eq_nil_iff]
    intro x hx hpx
    have hfrontx := (hp x (List.mem_of_mem_drop hx)).1 hpx
    rw [← List.take_append_drop k l] at hnodup
    exact not_mem_of_nodup_append hnodup hfrontx hx
  rw [hsplit, hfront, hback, List.append_nil]

/-! ### A pedestal's held modules in the order of R94 -/

section
variable (s : State) (p : Pedestal)

/-- A pedestal's held modules in the order of R94. -/
def State.heldInOrder : List ModuleNo :=
  s.modulesIn p .precharge ++ s.modulesIn p .contactClose ++ s.modulesIn p .assigned

/-- One module comes before another in the order of R94. -/
def State.releasedBefore (n m : ModuleNo) : Bool :=
  decide ((s.module n).state.releaseStage < (s.module m).state.releaseStage) ||
    ((s.module n).state == (s.module m).state && decide (m < n))

/-- The modules of a pedestal in a state are those held in it. -/
theorem mem_modulesIn {st : ModuleState} {m : ModuleNo} :
    m ∈ s.modulesIn p st ↔ (s.module m).heldFor p = true ∧ (s.module m).state = st := by
  simp only [State.modulesIn, List.mem_reverse, List.mem_filter, mem_allModules, true_and, ModuleRecord.serves,
    ModuleRecord.heldFor, Bool.and_eq_true, beq_iff_eq]
  grind

/-- A held module is in PRECHARGE, in CONTACT_CLOSE without its mark, or in ASSIGNED. -/
theorem ModuleRecord.heldFor_iff (r : ModuleRecord) :
    r.heldFor p = true ↔ r.assigned = some p ∧
      (r.state = .precharge ∨ (r.state = .contactClose ∧ r.releaseOnClose = false) ∨ r.state = .assigned) := by
  simp only [ModuleRecord.heldFor, Bool.and_eq_true, Bool.or_eq_true, beq_iff_eq, Bool.not_eq_true']
  grind

/-- The list holds the held modules. -/
theorem mem_heldInOrder {m : ModuleNo} : m ∈ s.heldInOrder p ↔ (s.module m).heldFor p = true := by
  simp only [State.heldInOrder, List.mem_append, mem_modulesIn]
  have := (ModuleRecord.heldFor_iff p (s.module m)).1
  grind

/-- The order of R94 is asymmetric. -/
theorem releasedBefore_asymm (a b : ModuleNo) (h : s.releasedBefore a b = true) : s.releasedBefore b a = false := by
  simp only [State.releasedBefore, Bool.or_eq_true, Bool.and_eq_true, decide_eq_true_eq, beq_iff_eq] at h
  simp only [State.releasedBefore, Bool.or_eq_false_iff, Bool.and_eq_false_iff, decide_eq_false_iff_not, beq_eq_false_iff_ne]
  rcases h with h | ⟨hst, hlt⟩
  · refine ⟨by omega, Or.inl fun e => ?_⟩
    rw [e] at h
    exact Nat.lt_irrefl _ h
  · exact ⟨by rw [hst]; exact Nat.lt_irrefl _, Or.inr (Nat.lt_asymm hlt)⟩

/-- The modules run through in ascending number. -/
theorem allModules_ascending : allModules.Pairwise (· < ·) := by decide

/-- Within a state the order of R94 is descending number. -/
theorem modulesIn_ordered (st : ModuleState) : (s.modulesIn p st).Pairwise fun a b => s.releasedBefore a b = true := by
  have hdesc : (s.modulesIn p st).Pairwise fun a b => b < a :=
    List.pairwise_reverse.2 (allModules_ascending.filter _)
  refine hdesc.imp_of_mem fun {a b} ha hb hab => ?_
  have ha := ((mem_modulesIn s p).1 ha).2
  have hb := ((mem_modulesIn s p).1 hb).2
  simp [State.releasedBefore, ha, hb, hab]

/-- The list is in the order of R94. -/
theorem heldInOrder_ordered : (s.heldInOrder p).Pairwise fun a b => s.releasedBefore a b = true := by
  have hstage {st st' : ModuleState} (h : st.releaseStage < st'.releaseStage) (a b : ModuleNo) (ha : a ∈ s.modulesIn p st)
      (hb : b ∈ s.modulesIn p st') : s.releasedBefore a b = true := by
    have ha := ((mem_modulesIn s p).1 ha).2
    have hb := ((mem_modulesIn s p).1 hb).2
    simp [State.releasedBefore, ha, hb, h]
  refine List.pairwise_append.2 ⟨List.pairwise_append.2 ⟨modulesIn_ordered s p _, modulesIn_ordered s p _,
    fun a ha b hb => hstage (by decide) a b ha hb⟩, modulesIn_ordered s p _, fun a ha b hb => ?_⟩
  rcases List.mem_append.1 ha with ha | ha
  · exact hstage (by decide) a b ha hb
  · exact hstage (by decide) a b ha hb

/-- No module is in the list twice. -/
theorem heldInOrder_nodup : (s.heldInOrder p).Nodup :=
  (heldInOrder_ordered s p).imp fun {a b} h e => by
    subst e
    have := releasedBefore_asymm s a a h
    rw [h] at this
    cases this

/-- The list is the held modules in another order. -/
theorem heldInOrder_perm : (s.heldInOrder p).Perm (allModules.filter fun m => (s.module m).heldFor p) :=
  (List.perm_ext_iff_of_nodup (heldInOrder_nodup s p) (allModules_nodup.filter _)).2 fun m => by
    simp [mem_heldInOrder]

/-- The list is as long as the held count. -/
theorem length_heldInOrder : (s.heldInOrder p).length = s.heldCount p := (heldInOrder_perm s p).length_eq

/-- The modules ahead of one in the order of R94 are those ahead of it in the list. -/
theorem releasedAhead_eq (m : ModuleNo) :
    s.releasedAhead p m = ((s.heldInOrder p).filter fun n => s.releasedBefore n m).length := by
  rw [((heldInOrder_perm s p).filter _).length_eq, List.filter_filter]
  simp only [State.releasedAhead, State.releasedBefore, Bool.and_comm]

/-- The modules released are the front of the list. -/
theorem releases_iff (keep : Nat) (m : ModuleNo) :
    s.releases p keep m = true ↔ m ∈ (s.heldInOrder p).take (s.heldCount p - keep) := by
  rw [mem_take_iff_of_pairwise (releasedBefore_asymm s) (heldInOrder_ordered s p), mem_heldInOrder, ← releasedAhead_eq]
  simp [State.releases]

/-- Down to 0 every held module is released. -/
theorem releases_zero (m : ModuleNo) : s.releases p 0 m = (s.module m).heldFor p := by
  rw [Bool.eq_iff_iff, releases_iff, Nat.sub_zero, ← length_heldInOrder, List.take_length, mem_heldInOrder]

/-- The modules released from one state. -/
theorem releasedFrom_eq (keep : Nat) (st : ModuleState) :
    s.releasedFrom p keep st = (s.modulesIn p st).filter (s.releases p keep) := by
  rw [State.releasedFrom, State.modulesIn, ← List.filter_reverse, List.filter_filter]
  apply List.filter_congr
  intro m _
  rw [Bool.eq_iff_iff]
  simp only [Bool.and_eq_true, beq_iff_eq, ModuleRecord.serves, State.releases]
  have := (ModuleRecord.heldFor_iff p (s.module m)).1
  grind

/-- The front of the list, state by state. -/
theorem take_heldInOrder (keep : Nat) :
    (s.heldInOrder p).take (s.heldCount p - keep) =
      s.releasedFrom p keep .precharge ++ s.releasedFrom p keep .contactClose ++ s.releasedFrom p keep .assigned := by
  rw [← take_eq_filter_of_nodup (heldInOrder_nodup s p) _ fun m _ => releases_iff s p keep m]
  simp only [State.heldInOrder, List.filter_append, releasedFrom_eq]

/-- The assigned count is the number of held modules in ASSIGNED. -/
theorem assignedCount_eq : s.assignedCount p = (s.modulesIn p .assigned).length := by
  rw [State.assignedCount, State.modulesIn, List.length_reverse]
  congr 1
  apply List.filter_congr
  intro m _
  rw [Bool.eq_iff_iff]
  simp only [Bool.and_eq_true, beq_iff_eq, ModuleRecord.serves, ModuleRecord.heldFor_iff]
  grind

end

end Sys2Proof.Machine
end

section
namespace Sys2Proof.Machine

/-- A changed pool leaves everything but the records and the queue. -/
theorem eq_of_reworked {s t : State} {g : ModuleNo → ModuleRecord} {os : List Order} (h : t = s.reworked g os) :
    t = { s with modules := t.modules, field := { s.field with queue := t.field.queue } } := by
  subst h
  rfl

/-! ### Switching steps as changes of the pool -/

section
variable (s : State) (m : ModuleNo)

/-- MD-OPEN is queued and the module goes to CONTACT_OPEN. -/
theorem openContactor_eq :
    s.openContactor m = s.reworked
      (fun k => if k = m then
          { s.module m with state := .contactOpen, timer := .running (s.now + s.params.contactMs), releaseOnClose := false }
        else s.module k) [.openContact m] := by
  have h := setModule_replaceOrEnqueue s m
    { s.module m with state := .contactOpen, timer := .running (s.now + s.params.contactMs), releaseOnClose := false }
    (.openContact m)
  rw [← h]
  simp [State.openContactor, State.placeOrder, State.contactTimer]

/-- MD-RAMP is queued and the module goes to RAMP_DOWN. -/
theorem rampModule_eq :
    s.rampModule m = s.reworked
      (fun k => if k = m then
          { s.module m with state := .rampDown, timer := .running (s.now + s.params.rampMs), releaseOnClose := false }
        else s.module k) [.ramp m] := by
  have h := setModule_replaceOrEnqueue s m
    { s.module m with state := .rampDown, timer := .running (s.now + s.params.rampMs), releaseOnClose := false } (.ramp m)
  rw [← h]
  simp [State.rampModule, State.placeOrder, State.rampTimer]

/-- MD-CLOSE is queued and the module goes to CONTACT_CLOSE. -/
theorem closeContactor_eq :
    s.closeContactor m = s.reworked
      (fun k => if k = m then
          { s.module m with state := .contactClose, timer := .running (s.now + s.params.contactMs), releaseOnClose := false }
        else s.module k) [.close m] := by
  have h := setModule_replaceOrEnqueue s m
    { s.module m with state := .contactClose, timer := .running (s.now + s.params.contactMs), releaseOnClose := false } (.close m)
  rw [← h]
  simp [State.closeContactor, State.placeOrder, State.contactTimer]

/-- The orders that a release places (R118). -/
def State.releaseOrders : List Order :=
  match (s.module m).state with
  | .precharge => [.openContact m]
  | .assigned => [.ramp m]
  | .absent | .free | .contactClose | .rampDown | .contactOpen | .faulted => []

/-- A release writes the module's record and places its orders. -/
theorem releaseModule_eq :
    s.releaseModule m =
      s.reworked (fun k => if k = m then s.releasedRecord m else s.module k) (s.releaseOrders m) := by
  have hself : s = s.reworked (fun k => if k = m then s.module m else s.module k) [] := by
    have hg : (fun k => if k = m then s.module m else s.module k) = s.module := by
      funext k
      by_cases h : k = m <;> simp [h]
    rw [hg, reworked_self]
  unfold State.releaseModule State.releasedRecord State.releaseOrders
  cases (s.module m).state with
  | precharge => exact openContactor_eq s m
  | assigned => exact rampModule_eq s m
  | contactClose => exact setModule_eq_reworked s m _
  | absent | free | rampDown | contactOpen | faulted => exact hself

/-- A window contains the pedestals from its first to its last. -/
theorem Window.contains_iff (w : Window) (p : Pedestal) : w.contains p = true ↔ w.first ≤ p.val + 1 ∧ p.val + 1 ≤ w.last := by
  rw [Window.contains, Bool.and_eq_true]
  exact and_congr ⟨of_decide_eq_true, decide_eq_true⟩ ⟨of_decide_eq_true, decide_eq_true⟩

/-- A module offers itself to a pedestal where it is FREE and reaches it. -/
theorem offers_iff (p : Pedestal) :
    s.offers p m = true ↔ (s.module m).state = .free ∧ (s.module m).window.contains p = true := by
  rw [Window.contains_iff, State.offers, Bool.and_eq_true, beq_iff_eq, decide_eq_true_eq]

/-- The pool is the table of its records. -/
theorem ofFn_module : Vector.ofFn s.module = s.modules := by
  ext i hi
  simp [State.module]

/-- An order that replaces what its place holds is a change of the queue alone. -/
theorem replaceOrEnqueue_eq_reworked (o : Order) : s.replaceOrEnqueue o = s.reworked s.module [o] := by
  simp [State.reworked, ofFn_module, replaceOrEnqueue_eq, State.setQueue]

/-- The step of R114, for a module that is FREE and reaches the pedestal. -/
theorem assignModule_eq (p : Pedestal) (h : s.offers p m = true) :
    s.assignModule m p = s.reworked
      (fun k => if k = m then { s.module m with state := .precharge, assigned := some p, timer := .awaitingSend }
        else s.module k) [.precharge m p] := by
  have hplaced : s.assignModule m p =
      (s.setModule m { s.module m with state := .precharge, assigned := some p, timer := .awaitingSend }).replaceOrEnqueue
        (.precharge m p) := if_pos ((offers_iff s m p).1 h)
  rw [hplaced, replaceOrEnqueue_eq_reworked, setModule_eq_reworked, reworked_reworked]
  exact congrArg (s.reworked · _) (funext fun k => module_reworked s _ [] k)

/-- A module that is not FREE, or does not reach the pedestal, is not assigned to it. -/
theorem assignModule_of_not_offers (p : Pedestal) (h : ¬ s.offers p m = true) : s.assignModule m p = s := by
  rw [State.assignModule, if_neg fun hcond => h ((offers_iff s m p).2 hcond)]

/-- A released module is no longer held. -/
theorem releasedRecord_not_held {p : Pedestal} (h : (s.module m).heldFor p = true) : (s.releasedRecord m).heldFor p = false := by
  have hstate := ((ModuleRecord.heldFor_iff p (s.module m)).1 h).2
  unfold State.releasedRecord
  rcases hstate with hstate | ⟨hstate, -⟩ | hstate <;> rw [hstate] <;> simp [ModuleRecord.heldFor, hstate]

end

/-! ### A setpoint and its order -/

/-- The order of a setpoint that has changed. -/
def State.setpointOrders (s : State) (p : Pedestal) (kw : Nat) : List Order :=
  if kw = (s.allot p).setpoint then [] else [.setpoint p kw]

section
variable (s : State) (p : Pedestal)

/-- An allotment written as it stands changes nothing. -/
@[simp] theorem setAllot_allot : s.setAllot p (s.allot p) = s := by
  simp [State.setAllot, State.allot]

/-- Of two writes of one allotment the later stands. -/
@[simp] theorem setAllot_setAllot (x y : Allotment) : (s.setAllot p x).setAllot p y = s.setAllot p y := by
  simp [State.setAllot]

/-- The Allotment Table and the pool are written independently. -/
theorem setAllot_reworked (x : Allotment) (g : ModuleNo → ModuleRecord) (os : List Order) :
    (s.reworked g os).setAllot p x = (s.setAllot p x).reworked g os := rfl

/-- The field transmit queue is read off the pool's change alone. -/
theorem unsentAt_reworked (g : ModuleNo → ModuleRecord) (os : List Order) (pl : Place) :
    (s.reworked g os).unsentAt pl = (os.foldl placed s.field.queue).find? fun x => x.place == pl := rfl

/-- A setpoint that is set is written and, where it changes, ordered. -/
theorem orderSetpoint_eq (kw : Nat) :
    s.orderSetpoint p kw = (s.setAllot p { s.allot p with setpoint := kw }).reworked s.module (s.setpointOrders p kw) := by
  by_cases h : (s.allot p).setpoint = kw
  · have hallot : ({ s.allot p with setpoint := kw } : Allotment) = s.allot p := by rw [← h]
    rw [orderSetpoint_of_eq s p h, hallot, setAllot_allot, State.setpointOrders, if_pos h.symm]
    exact (reworked_self s).symm
  · have hself := reworked_self (s.setAllot p { s.allot p with setpoint := kw })
    rw [orderSetpoint_of_ne s p h, State.setpointOrders, if_neg (Ne.symm h)]
    refine (replaceOrEnqueue_eq _ _).trans ?_
    conv => lhs; rw [← hself]
    rfl

end

/-! ### The releases of a pedestal (R94) -/

section
variable (s : State) (p : Pedestal) (keep : Nat)

/-- The setpoint that the releases leave: the power of the modules that remain, where an ASSIGNED one is released. -/
def State.releasedSetpoint : Nat :=
  if (s.releasedFrom p keep .assigned).isEmpty then (s.allot p).setpoint
  else min (s.allot p).setpoint (keep * s.control.record.rating)

/-- The orders that the releases place behind the setpoint's. -/
def State.releasedOrders : List Order :=
  (s.releasedFrom p keep .precharge).map .openContact ++ (s.releasedFrom p keep .assigned).map .ramp

/-- A module's record once the pedestal's releases have been made. -/
def State.releasedModule (m : ModuleNo) : ModuleRecord :=
  if s.releases p keep m = true then s.releasedRecord m else s.module m

/-- The modules released from PRECHARGE and CONTACT_CLOSE come first. -/
theorem early_eq :
    (s.modulesIn p .precharge ++ s.modulesIn p .contactClose).take (s.heldCount p - keep) =
      s.releasedFrom p keep .precharge ++ s.releasedFrom p keep .contactClose := by
  have hnodup := heldInOrder_nodup s p
  rw [releasedFrom_eq, releasedFrom_eq, ← List.filter_append]
  refine (take_eq_filter_of_nodup (List.nodup_append.1 hnodup).1 _ fun m hm => ?_).symm
  rw [releases_iff, State.heldInOrder, List.take_append, List.mem_append]
  exact or_iff_left fun h => not_mem_of_nodup_append hnodup hm (List.mem_of_mem_take h)

/-- The modules released from ASSIGNED come behind them. -/
theorem late_eq :
    (s.modulesIn p .assigned).take (s.heldCount p - keep -
        ((s.modulesIn p .precharge ++ s.modulesIn p .contactClose).take (s.heldCount p - keep)).length) =
      s.releasedFrom p keep .assigned := by
  have hnodup := heldInOrder_nodup s p
  rw [releasedFrom_eq]
  refine (take_eq_filter_of_nodup (List.nodup_append.1 hnodup).2.1 _ fun m hm => ?_).symm
  have hlength (n k : Nat) : n - k = n - min n k := by omega
  rw [releases_iff, State.heldInOrder, List.take_append, List.mem_append, List.length_take, ← hlength]
  exact or_iff_right fun h => not_mem_of_nodup_append hnodup (List.mem_of_mem_take h) hm

/-- Where an ASSIGNED module is released, as many remain as the pedestal may keep. -/
theorem assigned_remaining (h : ¬ (s.releasedFrom p keep .assigned).isEmpty) :
    s.assignedCount p - (s.releasedFrom p keep .assigned).length = keep := by
  have hheld := length_heldInOrder s p
  rw [← late_eq] at h ⊢
  simp only [State.heldInOrder, List.length_append, List.isEmpty_iff_length_eq_zero, List.length_take, assignedCount_eq] at *
  omega

/-- Elements that each give one order give a list of orders. -/
theorem flatMap_eq_map {α : Type} {l : List α} {f : α → List Order} {g : α → Order} (h : ∀ x ∈ l, f x = [g x]) :
    l.flatMap f = l.map g := by
  rw [List.map_eq_flatMap]
  exact flatMap_congr_of_mem h

/-- The orders of the released modules, in the order of R94. -/
theorem flatMap_releaseOrders :
    (s.releasedFrom p keep .precharge ++ s.releasedFrom p keep .contactClose ++ s.releasedFrom p keep .assigned).flatMap
        s.releaseOrders = s.releasedOrders p keep := by
  have hstate {st : ModuleState} {m : ModuleNo} (hm : m ∈ s.releasedFrom p keep st) : (s.module m).state = st := by
    rw [releasedFrom_eq] at hm
    exact ((mem_modulesIn s p).1 (List.mem_filter.1 hm).1).2
  have hopen : (s.releasedFrom p keep .precharge).flatMap s.releaseOrders = (s.releasedFrom p keep .precharge).map .openContact :=
    flatMap_eq_map fun m hm => by simp [State.releaseOrders, hstate hm]
  have hramp : (s.releasedFrom p keep .assigned).flatMap s.releaseOrders = (s.releasedFrom p keep .assigned).map .ramp :=
    flatMap_eq_map fun m hm => by simp [State.releaseOrders, hstate hm]
  have hnone : (s.releasedFrom p keep .contactClose).flatMap s.releaseOrders = [] :=
    List.flatMap_eq_nil_iff.2 fun m hm => by simp [State.releaseOrders, hstate hm]
  rw [List.flatMap_append, List.flatMap_append, hopen, hnone, hramp, List.append_nil, State.releasedOrders]

/-- The releases of a pedestal write its setpoint, the released modules' records and the orders of both. -/
theorem releaseBeyond_eq :
    s.releaseBeyond p keep =
      (s.setAllot p { s.allot p with setpoint := s.releasedSetpoint p keep }).reworked (s.releasedModule p keep)
        (s.setpointOrders p (s.releasedSetpoint p keep) ++ s.releasedOrders p keep) := by
  have hlowered : (if (s.releasedFrom p keep .assigned).isEmpty then s
      else s.lowerSetpoint p (s.modulePower (s.assignedCount p - (s.releasedFrom p keep .assigned).length))) =
      s.orderSetpoint p (s.releasedSetpoint p keep) := by
    by_cases h : (s.releasedFrom p keep .assigned).isEmpty
    · rw [if_pos h, State.releasedSetpoint, if_pos h, orderSetpoint_of_eq s p rfl]
    · rw [if_neg h, State.releasedSetpoint, if_neg h, assigned_remaining s p keep h]
      rfl
  have hmem (m : ModuleNo) : m ∈ s.releasedFrom p keep .precharge ++ s.releasedFrom p keep .contactClose ++
      s.releasedFrom p keep .assigned ↔ s.releases p keep m = true := by
    rw [← take_heldInOrder, releases_iff]
  have hnodup : (s.releasedFrom p keep .precharge ++ s.releasedFrom p keep .contactClose ++
      s.releasedFrom p keep .assigned).Nodup := by
    rw [← take_heldInOrder]
    exact (heldInOrder_nodup s p).sublist (List.take_sublist _ _)
  have hstep := foldl_eq_reworked (f := State.releaseModule) hnodup (s.orderSetpoint p (s.releasedSetpoint p keep))
    s.releasedRecord s.releaseOrders fun g os m _ hm => by
      rw [releaseModule_eq]
      simp [State.releasedRecord, State.releaseOrders, hm]
  have hunfold : s.releaseBeyond p keep = (s.releasedFrom p keep .precharge ++ s.releasedFrom p keep .contactClose ++
      s.releasedFrom p keep .assigned).foldl State.releaseModule (s.orderSetpoint p (s.releasedSetpoint p keep)) := by
    have hlate := late_eq s p keep
    rw [early_eq] at hlate
    simp only [State.releaseBeyond, early_eq, hlate, hlowered]
  rw [hunfold, hstep, flatMap_releaseOrders, orderSetpoint_eq, reworked_reworked]
  congr 1
  funext m
  simp only [hmem, State.releasedModule, module_reworked]

/-- The orders that the releases place are of different places. -/
theorem releasedOrders_places :
    ((s.setpointOrders p (s.releasedSetpoint p keep) ++ s.releasedOrders p keep).map Order.place).Nodup := by
  have hsub : (s.releasedFrom p keep .precharge ++ s.releasedFrom p keep .assigned).Nodup := by
    have h := (heldInOrder_nodup s p).sublist (List.take_sublist (s.heldCount p - keep) _)
    rw [take_heldInOrder, List.append_assoc] at h
    exact h.sublist ((List.Sublist.refl _).append (List.sublist_append_right _ _))
  have hmodules : (s.releasedOrders p keep).map Order.place =
      (s.releasedFrom p keep .precharge ++ s.releasedFrom p keep .assigned).map Place.module := by
    simp [State.releasedOrders, Function.comp_def, Order.place]
  rw [List.map_append, hmodules]
  refine nodup_append_of_apart ?_ (nodup_map_of_inj (fun _ _ h => Place.module.inj h) hsub) fun pl hpl hpl' => ?_
  · unfold State.setpointOrders
    split <;> simp
  · obtain ⟨m, -, rfl⟩ := List.mem_map.1 hpl'
    unfold State.setpointOrders at hpl
    split at hpl <;> simp [Order.place] at hpl

/-- The orders that the releases place. -/
theorem mem_releasedOrders {o : Order} :
    o ∈ s.releasedOrders p keep ↔ ∃ m, s.releases p keep m = true ∧
      (((s.module m).state = .precharge ∧ o = .openContact m) ∨ ((s.module m).state = .assigned ∧ o = .ramp m)) := by
  simp only [State.releasedOrders, List.mem_append, List.mem_map, State.releasedFrom, List.mem_filter, List.mem_reverse,
    mem_allModules, true_and, Bool.and_eq_true, beq_iff_eq]
  constructor
  · rintro (⟨m, ⟨hm, hst⟩, rfl⟩ | ⟨m, ⟨hm, hst⟩, rfl⟩)
    · exact ⟨m, hm, Or.inl ⟨hst, rfl⟩⟩
    · exact ⟨m, hm, Or.inr ⟨hst, rfl⟩⟩
  · rintro ⟨m, hm, ⟨hst, rfl⟩ | ⟨hst, rfl⟩⟩
    · exact Or.inl ⟨m, ⟨hm, hst⟩, rfl⟩
    · exact Or.inr ⟨m, ⟨hm, hst⟩, rfl⟩

/-- The setpoint order that the releases place. -/
theorem mem_setpointOrders {kw : Nat} {o : Order} : o ∈ s.setpointOrders p kw ↔ kw ≠ (s.allot p).setpoint ∧ o = .setpoint p kw := by
  by_cases h : kw = (s.allot p).setpoint <;> simp [State.setpointOrders, h]

/-- Each order that the releases place is found in its place. -/
theorem unsentAt_releaseBeyond_of_mem {o : Order}
    (ho : o ∈ s.setpointOrders p (s.releasedSetpoint p keep) ++ s.releasedOrders p keep) :
    (s.releaseBeyond p keep).unsentAt o.place = some o := by
  rw [releaseBeyond_eq, unsentAt_reworked]
  exact find_foldl_placed_of_mem (releasedOrders_places s p keep) ho _

/-- A place of no such order is left alone. -/
theorem unsentAt_releaseBeyond_of_not_mem {pl : Place}
    (h : ∀ o ∈ s.setpointOrders p (s.releasedSetpoint p keep) ++ s.releasedOrders p keep, o.place ≠ pl) :
    (s.releaseBeyond p keep).unsentAt pl = s.unsentAt pl := by
  rw [releaseBeyond_eq, unsentAt_reworked]
  exact find_foldl_placed_of_not_mem h _

/-- A released module's place holds the order that its release places, or what it held. -/
theorem unsentAt_module_releaseBeyond (m : ModuleNo) :
    (s.releaseBeyond p keep).unsentAt (.module m) =
      if s.releases p keep m = true then s.releasedOrder m else s.unsentAt (.module m) := by
  have hfound {o : Order} (ho : o ∈ s.releasedOrders p keep) : (s.releaseBeyond p keep).unsentAt o.place = some o :=
    unsentAt_releaseBeyond_of_mem s p keep (List.mem_append_right _ ho)
  have hleft (h : ∀ o ∈ s.releasedOrders p keep, o.place ≠ .module m) :
      (s.releaseBeyond p keep).unsentAt (.module m) = s.unsentAt (.module m) := by
    refine unsentAt_releaseBeyond_of_not_mem s p keep fun o ho => ?_
    rcases List.mem_append.1 ho with ho | ho
    · obtain ⟨-, rfl⟩ := (mem_setpointOrders s p).1 ho
      simp [Order.place]
    · exact h o ho
  by_cases hrel : s.releases p keep m = true
  · rw [if_pos hrel]
    have hheld : (s.module m).heldFor p = true := by
      simp only [State.releases, Bool.and_eq_true] at hrel; exact hrel.1
    rcases ((ModuleRecord.heldFor_iff p (s.module m)).1 hheld).2 with hst | ⟨hst, -⟩ | hst
    · have h := hfound ((mem_releasedOrders s p keep).2 ⟨m, hrel, Or.inl ⟨hst, rfl⟩⟩)
      simpa [State.releasedOrder, hst, Order.place] using h
    · rw [hleft]
      · simp [State.releasedOrder, hst]
      · intro o ho hplace
        obtain ⟨n, -, ⟨hn, rfl⟩ | ⟨hn, rfl⟩⟩ := (mem_releasedOrders s p keep).1 ho <;> cases hplace <;> simp [hst] at hn
    · have h := hfound ((mem_releasedOrders s p keep).2 ⟨m, hrel, Or.inr ⟨hst, rfl⟩⟩)
      simpa [State.releasedOrder, hst, Order.place] using h
  · rw [if_neg hrel]
    refine hleft fun o ho hplace => ?_
    obtain ⟨n, hn, ⟨-, rfl⟩ | ⟨-, rfl⟩⟩ := (mem_releasedOrders s p keep).1 ho <;> cases hplace <;> exact hrel hn

/-- The held count once the releases have been made. -/
theorem heldCount_releaseBeyond : (s.releaseBeyond p keep).heldCount p = min keep (s.heldCount p) := by
  have hfilter : (allModules.filter fun m => ((s.releaseBeyond p keep).module m).heldFor p) =
      (allModules.filter fun m => (s.module m).heldFor p).filter fun m => !s.releases p keep m := by
    rw [List.filter_filter, releaseBeyond_eq]
    refine List.filter_congr fun m _ => ?_
    rw [module_reworked, State.releasedModule]
    by_cases hrel : s.releases p keep m = true
    · have hheld : (s.module m).heldFor p = true := by
        simp only [State.releases, Bool.and_eq_true] at hrel; exact hrel.1
      rw [if_pos hrel, releasedRecord_not_held s m hheld, hrel]
      rfl
    · simp [hrel]
  have hcount : (s.releaseBeyond p keep).heldCount p =
      ((s.heldInOrder p).filter fun m => !s.releases p keep m).length := by
    rw [((heldInOrder_perm s p).filter _).length_eq, State.heldCount, hfilter]
  have hsplit := length_filter_add_length_filter (s.heldInOrder p) (s.releases p keep)
  have hreleased : ((s.heldInOrder p).filter (s.releases p keep)).length = s.heldCount p - keep := by
    rw [take_eq_filter_of_nodup (heldInOrder_nodup s p) _ fun m _ => releases_iff s p keep m, List.length_take,
      length_heldInOrder]
    omega
  rw [length_heldInOrder, hreleased] at hsplit
  rw [hcount]
  omega

end

/-! ### The assignments of a pedestal (R95) -/

section
variable (s : State) (p : Pedestal)

/-- The modules that offer themselves to a pedestal, lowest number first, as many as it lacks. -/
def State.assignedInOrder : List ModuleNo :=
  (allModules.filter (s.offers p)).take ((s.allot p).grant - s.heldCount p)

/-- A module's record once it has been assigned (R114). -/
def State.assignedRecord (m : ModuleNo) : ModuleRecord :=
  { s.module m with state := .precharge, assigned := some p, timer := .awaitingSend }

/-- The modules assigned are those at the front. -/
theorem assigns_iff (m : ModuleNo) : s.assigns p m = true ↔ m ∈ s.assignedInOrder p := by
  rw [State.assignedInOrder, mem_take_iff_of_pairwise (r := fun a b : ModuleNo => decide (a < b))
    (fun _ _ h => decide_eq_false (Nat.lt_asymm (of_decide_eq_true h)))
    ((allModules_ascending.filter _).imp fun h => decide_eq_true h), List.filter_filter]
  simp [State.assigns]

/-- No module is assigned twice. -/
theorem assignedInOrder_nodup : (s.assignedInOrder p).Nodup :=
  (allModules_nodup.filter _).sublist (List.take_sublist _ _)

/-- The front of the offers is the assigned modules in ascending number. -/
theorem assignedInOrder_eq : s.assignedInOrder p = allModules.filter (s.assigns p) := by
  rw [State.assignedInOrder, ← take_eq_filter_of_nodup (allModules_nodup.filter _) _ fun m _ => assigns_iff s p m,
    List.filter_filter]
  apply List.filter_congr
  intro m _
  cases h : s.offers p m <;> simp [State.assigns, h]

/-- A module that offers itself is not held. -/
theorem not_held_of_offers {m : ModuleNo} (h : s.offers p m = true) (q : Pedestal) : (s.module m).heldFor q = false := by
  simp only [State.offers, Bool.and_eq_true, beq_iff_eq] at h
  simp [ModuleRecord.heldFor, h.1]

/-- An assignment adds one to the held count. -/
theorem heldCount_assignModule {m : ModuleNo} (h : s.offers p m = true) :
    (s.assignModule m p).heldCount p = s.heldCount p + 1 := by
  have hm : m ∉ allModules.filter fun k => (s.module k).heldFor p := by simp [not_held_of_offers s p h]
  have hperm : (allModules.filter fun k => ((s.assignModule m p).module k).heldFor p).Perm
      (m :: allModules.filter fun k => (s.module k).heldFor p) := by
    refine (List.perm_ext_iff_of_nodup (allModules_nodup.filter _)
      (List.nodup_cons.2 ⟨hm, allModules_nodup.filter _⟩)).2 fun k => ?_
    rw [assignModule_eq s m p h]
    by_cases hk : k = m <;> simp [hk, ModuleRecord.heldFor]
  exact hperm.length_eq

/-- The walk through the modules assigns the front of the offers. -/
theorem foldl_assign (l : List ModuleNo) (hnodup : l.Nodup) :
    l.foldl (fun s m => if s.heldCount p < (s.allot p).grant then s.assignModule m p else s) s =
      ((l.filter (s.offers p)).take ((s.allot p).grant - s.heldCount p)).foldl (fun s m => s.assignModule m p) s := by
  induction l generalizing s with
  | nil => simp
  | cons m l ih =>
    rw [List.nodup_cons] at hnodup
    rw [List.foldl_cons, ih _ hnodup.2]
    by_cases hroom : s.heldCount p < (s.allot p).grant
    · by_cases hoffers : s.offers p m = true
      · obtain ⟨n, hn⟩ : ∃ n, (s.allot p).grant - s.heldCount p = n + 1 := ⟨_, (Nat.succ_pred (by omega)).symm⟩
        have hleft : (s.allot p).grant - (s.heldCount p + 1) = n := by omega
        have hothers : l.filter ((s.assignModule m p).offers p) = l.filter (s.offers p) := by
          apply List.filter_congr
          intro k hk
          have hkm : k ≠ m := fun e => hnodup.1 (e ▸ hk)
          simp [State.offers, assignModule_eq s m p hoffers, hkm]
        rw [if_pos hroom, List.filter_cons_of_pos hoffers, hn, List.take_succ_cons, List.foldl_cons, hothers,
          heldCount_assignModule s p hoffers, (show ((s.assignModule m p).allot p).grant = (s.allot p).grant by simp), hleft]
      · rw [if_pos hroom, assignModule_of_not_offers s m p hoffers, List.filter_cons_of_neg hoffers]
    · have hfull : (s.allot p).grant - s.heldCount p = 0 := by omega
      rw [if_neg hroom, hfull, List.take_zero, List.take_zero]

/-- The assignments of a pedestal write the assigned modules' records and their orders. -/
theorem assignFor_eq :
    s.assignFor p =
      s.reworked (fun m => if s.assigns p m = true then s.assignedRecord p m else s.module m)
        ((allModules.filter (s.assigns p)).map fun m => .precharge m p) := by
  have hoffers {m : ModuleNo} (hm : m ∈ s.assignedInOrder p) : s.offers p m = true := by
    have h := (assigns_iff s p m).2 hm
    simp only [State.assigns, Bool.and_eq_true] at h
    exact h.1
  have hstep := foldl_eq_reworked (f := fun s m => s.assignModule m p) (assignedInOrder_nodup s p) s (s.assignedRecord p)
    (fun m => [.precharge m p]) fun g os m hm hg => by
      have hu : (s.reworked g os).offers p m = true := by simpa [State.offers, hg] using hoffers hm
      rw [assignModule_eq _ _ _ hu]
      simp [State.assignedRecord, hg]
  rw [State.assignFor, foldl_assign s p allModules allModules_nodup]
  refine hstep.trans ?_
  rw [flatMap_eq_map (g := fun m => Order.precharge m p) fun _ _ => rfl, assignedInOrder_eq]
  congr 1
  funext m
  simp only [← assigns_iff, ← assignedInOrder_eq]

/-- The orders of the assignments are of different places. -/
theorem assignOrders_places : (((allModules.filter (s.assigns p)).map fun m => Order.precharge m p).map Order.place).Nodup := by
  rw [List.map_map]
  exact nodup_map_of_inj (fun _ _ h => Place.module.inj h) (allModules_nodup.filter _)

/-- A module's place holds the order of its assignment, or what it held. -/
theorem unsentAt_module_assignFor (m : ModuleNo) :
    (s.assignFor p).unsentAt (.module m) = if s.assigns p m = true then some (.precharge m p) else s.unsentAt (.module m) := by
  rw [assignFor_eq, unsentAt_reworked]
  by_cases h : s.assigns p m = true
  · have hmem : Order.precharge m p ∈ (allModules.filter (s.assigns p)).map fun m => Order.precharge m p := by simp [h]
    rw [if_pos h]
    exact find_foldl_placed_of_mem (assignOrders_places s p) hmem _
  · rw [if_neg h]
    refine find_foldl_placed_of_not_mem (fun o ho hplace => ?_) _
    obtain ⟨n, hn, rfl⟩ := List.mem_map.1 ho
    cases hplace
    exact h (List.mem_filter.1 hn).2

/-- Where the assigned modules' places are empty, their orders join the tail in ascending number. -/
theorem queue_assignFor_of_empty (h : ∀ m, s.assigns p m = true → s.unsentAt (.module m) = none) :
    (s.assignFor p).field.queue = s.field.queue ++ (allModules.filter (s.assigns p)).map fun m => .precharge m p := by
  rw [assignFor_eq, queue_reworked]
  refine foldl_placed_of_empty (assignOrders_places s p) fun o ho => ?_
  obtain ⟨m, hm, rfl⟩ := List.mem_map.1 ho
  exact h m (List.mem_filter.1 hm).2

/-- A place that is no module's is left alone. -/
theorem unsentAt_assignFor {pl : Place} (h : ∀ m, pl ≠ .module m) : (s.assignFor p).unsentAt pl = s.unsentAt pl := by
  rw [assignFor_eq, unsentAt_reworked]
  refine find_foldl_placed_of_not_mem (fun o ho hplace => ?_) _
  obtain ⟨n, -, rfl⟩ := List.mem_map.1 ho
  exact h n hplace.symm

end

/-! ### The sessions in ascending number (R22, R93, R180) -/

/-- An inserted element is one more element. -/
theorem insertByKey_perm (x : Nat × Pedestal) (l : List (Nat × Pedestal)) : (insertByKey x l).Perm (x :: l) := by
  induction l with
  | nil => exact List.Perm.refl _
  | cons y l ih =>
    rw [insertByKey]
    split
    · exact List.Perm.refl _
    · exact (ih.cons y).trans (List.Perm.swap x y l)

/-- Insertion keeps the order of the keys. -/
theorem insertByKey_sorted {x : Nat × Pedestal} {l : List (Nat × Pedestal)} (h : l.Pairwise fun a b => a.1 ≤ b.1) :
    (insertByKey x l).Pairwise fun a b => a.1 ≤ b.1 := by
  induction l with
  | nil => simp [insertByKey]
  | cons y l ih =>
    obtain ⟨hy, hl⟩ := List.pairwise_cons.1 h
    rw [insertByKey]
    split
    next hxy =>
      refine List.pairwise_cons.2 ⟨fun z hz => ?_, h⟩
      rcases List.mem_cons.1 hz with rfl | hz
      · exact hxy
      · exact Nat.le_trans hxy (hy z hz)
    next hxy =>
      refine List.pairwise_cons.2 ⟨fun z hz => ?_, ih hl⟩
      rcases List.mem_cons.1 ((insertByKey_perm x l).mem_iff.1 hz) with rfl | hz
      · omega
      · exact hy z hz

/-- Insertion one by one sorts: the elements stay, in the order of their keys. -/
theorem foldr_insertByKey (l : List (Nat × Pedestal)) :
    (l.foldr insertByKey []).Perm l ∧ (l.foldr insertByKey []).Pairwise fun a b => a.1 ≤ b.1 := by
  induction l with
  | nil => exact ⟨List.Perm.refl _, List.Pairwise.nil⟩
  | cons x l ih => exact ⟨(insertByKey_perm x _).trans (ih.1.cons x), insertByKey_sorted ih.2⟩

section
variable (s : State)

/-- The open sessions' numbers, with the pedestals that hold them. -/
def State.keyed : List (Nat × Pedestal) :=
  allPedestals.filterMap fun p => (s.slot p).session.map fun e => (e.number, p)

/-- The pedestals of the keyed list are those with an open session. -/
theorem map_snd_keyed : s.keyed.map Prod.snd = allPedestals.filter fun p => (s.slot p).session.isSome := by
  unfold State.keyed
  induction allPedestals with
  | nil => rfl
  | cons p l ih => cases h : (s.slot p).session <;> simp [h, ih]

/-- The sessions in ascending number are the pedestals with an open session, in another order. -/
theorem openBySession_perm : s.openBySession.Perm (allPedestals.filter fun p => (s.slot p).session.isSome) := by
  rw [← map_snd_keyed]
  exact (foldr_insertByKey s.keyed).1.map Prod.snd

/-- The sessions in ascending number are the open ones. -/
theorem mem_openBySession {p : Pedestal} : p ∈ s.openBySession ↔ (s.slot p).session.isSome = true := by
  rw [(openBySession_perm s).mem_iff]
  simp

/-- No session is listed twice. -/
theorem openBySession_nodup : s.openBySession.Nodup :=
  (openBySession_perm s).nodup_iff.2 (allPedestals_nodup.filter _)

/-- A pedestal's session number, 0 without a session. -/
def State.numberAt (p : Pedestal) : Nat := ((s.slot p).session.map Session.number).getD 0

/-- The sessions are listed by their number. -/
theorem openBySession_sorted : s.openBySession.Pairwise fun p q => s.numberAt p ≤ s.numberAt q := by
  obtain ⟨hperm, hsorted⟩ := foldr_insertByKey s.keyed
  have hkey : ∀ x ∈ s.keyed.foldr insertByKey [], x.1 = s.numberAt x.2 := by
    intro x hx
    obtain ⟨p, -, hp⟩ := List.mem_filterMap.1 (hperm.mem_iff.1 hx)
    cases h : (s.slot p).session with
    | none => simp [h] at hp
    | some e =>
      simp only [h, Option.map_some, Option.some.injEq] at hp
      subst hp
      simp [State.numberAt, h]
  refine List.pairwise_map.2 (hsorted.imp_of_mem fun {a b} ha hb hab => ?_)
  rw [← hkey a ha, ← hkey b hb]
  exact hab

end

/-! ### The obligations -/

/-- Settles O22: the releases and the assignments of a pedestal are one change of the pool each, whose orders are of different places; the
sessions are those of the sorted list. -/
theorem modulesAreReleasedAndAssignedInOrder : Obligations.ModulesAreReleasedAndAssignedInOrder := by
  refine ⟨fun s p keep => ?releases, fun s p => ?assigns, fun s => ?sessions⟩
  case releases =>
    intro t kw order
    have ht : t = (s.setAllot p { s.allot p with setpoint := kw }).reworked (s.releasedModule p keep)
        (order ++ s.releasedOrders p keep) := releaseBeyond_eq s p keep
    have hmodule (m : ModuleNo) : t.module m = s.releasedModule p keep m := by rw [ht, module_reworked]
    have hunsent (m : ModuleNo) := unsentAt_module_releaseBeyond s p keep m
    have hother {pl : Place} (hpl : ∀ m, pl ≠ .module m) (hset : kw ≠ (s.allot p).setpoint → pl ≠ .setpoint p) :
        t.unsentAt pl = s.unsentAt pl := by
      refine unsentAt_releaseBeyond_of_not_mem s p keep fun o ho hplace => ?_
      rcases List.mem_append.1 ho with ho | ho
      · obtain ⟨hne, rfl⟩ := (mem_setpointOrders s p).1 ho
        exact hset hne hplace.symm
      · obtain ⟨m, -, ⟨-, rfl⟩ | ⟨-, rfl⟩⟩ := (mem_releasedOrders s p keep).1 ho <;> exact hpl m hplace.symm
    refine ⟨fun m hm => ⟨?_, ?_⟩, fun m hm => ⟨?_, ?_⟩, heldCount_releaseBeyond s p keep, fun hne => ?changed, fun heq => ?same,
      fun q hq => ?others, fun q => ?sessionOrders, fun hnone hempty => ?queue, ?frame⟩
    · rw [hmodule, State.releasedModule, if_pos hm]
    · exact (hunsent m).trans (if_pos hm)
    · rw [hmodule, State.releasedModule, if_neg (by simp [hm])]
    · exact (hunsent m).trans (if_neg (by simp [hm]))
    case changed =>
      exact unsentAt_releaseBeyond_of_mem s p keep (o := .setpoint p kw)
        (List.mem_append_left _ ((mem_setpointOrders s p).2 ⟨hne, rfl⟩))
    case same => exact hother (by simp) fun hne => absurd heq hne
    case others => exact hother (by simp) fun _ => by simpa using hq
    case sessionOrders => exact hother (by simp) (by simp)
    case queue =>
      rw [ht, queue_reworked, List.append_assoc, List.append_assoc]
      refine foldl_placed_of_empty (releasedOrders_places s p keep) fun o ho => ?_
      rcases List.mem_append.1 ho with ho | ho
      · obtain ⟨-, rfl⟩ := (mem_setpointOrders s p).1 ho
        exact hnone
      · obtain ⟨m, hm, ⟨-, rfl⟩ | ⟨-, rfl⟩⟩ := (mem_releasedOrders s p keep).1 ho <;> exact hempty m hm
    case frame => rw [ht]; rfl
  case assigns =>
    intro t
    subst t
    have ht := assignFor_eq s p
    have hunsent (m : ModuleNo) := unsentAt_module_assignFor s p m
    refine ⟨fun m hm => ⟨?_, ?_⟩, fun m hm => ⟨?_, ?_⟩, fun q => ⟨?_, ?_⟩, fun hempty => ?queue, ?frame⟩
    · exact (congrArg (State.module · m) ht).trans (by simp [hm, State.assignedRecord])
    · exact (hunsent m).trans (if_pos hm)
    · exact (congrArg (State.module · m) ht).trans (by simp [hm])
    · exact (hunsent m).trans (if_neg (by simp [hm]))
    · exact unsentAt_assignFor s p (by simp)
    · exact unsentAt_assignFor s p (by simp)
    case queue =>
      exact queue_assignFor_of_empty s p hempty
    case frame => exact eq_of_reworked ht
  case sessions =>
    refine ⟨rfl, fun p => ?members, (openBySession_nodup s).filter _, ?sorted⟩
    case members =>
      rw [State.runningBySession, List.mem_filter, mem_openBySession, isRunning_iff, Option.isSome_iff_ne_none]
      exact and_comm
    case sorted => exact List.pairwise_map.2 ((openBySession_sorted s).filter _)

end Sys2Proof.Machine
end

section
/-! # A session that leaves RUNNING (R100), is suspended and returns (R25, R26, R36, R37), finishes (R15), or closes (R17)

Each operation is first brought to the few writes it makes: the slot, the SESSION status, the order of the end, and the withdrawal of
power. What it leaves then follows field by field from the frames of those writes. -/

namespace Sys2Proof.Machine

/-! ### Leaving RUNNING (R100) -/

section
variable (s : State) (p : Pedestal)

/-- The PD-SETPOINT 0 of a session that leaves RUNNING: where a setpoint above 0 was held or is unsent (R100). -/
def State.zeroOrders : List Order :=
  if 0 < (s.allot p).setpoint ∨ s.unsentPower p = true then [.setpoint p 0] else []

/-- A pedestal's allotment without power (R100). -/
def Allotment.withdrawn (x : Allotment) : Allotment := { x with setpoint := 0, grant := 0, demand := 0 }

/-- The part once a pedestal's allotment has been withdrawn, before its modules are released. -/
def State.withdrawn : State :=
  (s.setAllot p (s.allot p).withdrawn).reworked s.module (s.zeroOrders p)

/-- A session that leaves RUNNING has its allotment withdrawn, and then every held module released. -/
theorem leaveRunning_eq_releaseBeyond : s.leaveRunning p = (s.withdrawn p).releaseBeyond p 0 := by
  unfold State.leaveRunning
  by_cases h : 0 < (s.allot p).setpoint ∨ s.unsentPower p = true
  · have horder : (decide (0 < (s.allot p).setpoint) || s.unsentPower p) = true := by simpa using h
    simp only [horder, if_true, State.placeOrder, replaceOrEnqueue_eq_reworked, setAllot_reworked, setAllot_setAllot]
    rw [State.withdrawn, State.zeroOrders, if_pos h]
    simp only [reworked_frame, allot_setAllot]
    rfl
  · have horder : (decide (0 < (s.allot p).setpoint) || s.unsentPower p) = false := by simpa using h
    have hself := reworked_self (s.setAllot p (s.allot p).withdrawn)
    simp only [horder, Bool.false_eq_true, if_false, setAllot_setAllot, allot_setAllot]
    rw [State.withdrawn, State.zeroOrders, if_neg h]
    exact congrArg (State.releaseBeyond · p 0) hself.symm

/-- No setpoint remains to be lowered. -/
theorem releasedSetpoint_withdrawn : (s.withdrawn p).releasedSetpoint p 0 = 0 := by
  simp [State.releasedSetpoint, State.withdrawn, Allotment.withdrawn]

/-- The withdrawn allotment. -/
theorem allot_withdrawn : (s.withdrawn p).allot p = (s.allot p).withdrawn := by
  simp [State.withdrawn]

/-- The pool is not changed by the withdrawal itself. -/
theorem module_withdrawn (m : ModuleNo) : (s.withdrawn p).module m = s.module m := by
  simp [State.withdrawn]

/-- The modules released are those held. -/
theorem releasedModule_withdrawn : (s.withdrawn p).releasedModule p 0 = s.releasedModule p 0 := by
  funext m
  simp only [State.releasedModule, releases_zero, State.releasedRecord, module_withdrawn]
  rfl

/-- The orders of the released modules do not depend on the allotment. -/
theorem releasedOrders_withdrawn : (s.withdrawn p).releasedOrders p 0 = s.releasedOrders p 0 := by
  simp only [State.releasedOrders, State.releasedFrom, releases_zero, module_withdrawn]

/-- A session that leaves RUNNING: the allotment, the held modules' records, and the orders of both. -/
theorem leaveRunning_eq :
    s.leaveRunning p = (s.setAllot p (s.allot p).withdrawn).reworked (s.releasedModule p 0)
      (s.zeroOrders p ++ s.releasedOrders p 0) := by
  have hallot : ({ (s.allot p).withdrawn with setpoint := 0 } : Allotment) = (s.allot p).withdrawn := rfl
  have horders : (s.withdrawn p).setpointOrders p 0 = [] := by
    simp [State.setpointOrders, allot_withdrawn, Allotment.withdrawn]
  rw [leaveRunning_eq_releaseBeyond, releaseBeyond_eq, releasedSetpoint_withdrawn, releasedModule_withdrawn,
    releasedOrders_withdrawn, horders, allot_withdrawn, hallot, List.nil_append, State.withdrawn, setAllot_reworked, setAllot_setAllot,
    reworked_reworked]

/-- A held module's record once its session has left RUNNING. -/
theorem module_leaveRunning (m : ModuleNo) :
    (s.leaveRunning p).module m = if (s.module m).heldFor p = true then s.releasedRecord m else s.module m := by
  rw [leaveRunning_eq, module_reworked, State.releasedModule, releases_zero]

/-- The Apportioner once a session has left RUNNING. -/
theorem alloc_leaveRunning :
    (s.leaveRunning p).alloc = { s.alloc with entries := s.alloc.entries.set p.val (s.allot p).withdrawn } := by
  rw [leaveRunning_eq]
  rfl

/-- The pedestal's allotment once its session has left RUNNING. -/
@[simp] theorem allot_leaveRunning : (s.leaveRunning p).allot p = (s.allot p).withdrawn := by
  simp [leaveRunning_eq]

/-- The other pedestals keep their allotments. -/
@[simp] theorem allot_leaveRunning_ne {q : Pedestal} (h : q ≠ p) : (s.leaveRunning p).allot q = s.allot q := by
  simp [leaveRunning_eq, h]

/-- What a place holds once a session has left RUNNING, where no module of the pedestal has it. -/
theorem unsentAt_leaveRunning {pl : Place} (h : ∀ m, pl ≠ .module m) :
    (s.leaveRunning p).unsentAt pl =
      ((s.zeroOrders p).foldl placed s.field.queue).find? fun x => x.place == pl := by
  rw [leaveRunning_eq, unsentAt_reworked, List.foldl_append]
  refine find_foldl_placed_of_not_mem (fun o ho hplace => ?_) _
  obtain ⟨m, -, ⟨-, rfl⟩ | ⟨-, rfl⟩⟩ := (mem_releasedOrders s p 0).1 ho <;> exact h m hplace.symm

/-- A module's place holds the order that its release places, or what it held. -/
theorem unsentAt_module_leaveRunning (m : ModuleNo) :
    (s.leaveRunning p).unsentAt (.module m) =
      if (s.module m).heldFor p = true then s.releasedOrder m else s.unsentAt (.module m) := by
  have hunsent : (s.withdrawn p).unsentAt (.module m) = s.unsentAt (.module m) := by
    rw [State.withdrawn, unsentAt_reworked]
    refine find_foldl_placed_of_not_mem (fun o ho hplace => ?_) _
    unfold State.zeroOrders at ho
    split at ho
    · rw [List.mem_singleton.1 ho] at hplace
      cases hplace
    · cases ho
  rw [leaveRunning_eq_releaseBeyond, unsentAt_module_releaseBeyond, releases_zero, State.releasedOrder, module_withdrawn, hunsent]
  rfl

end

/-- Settles O23: by the one change that a session leaving RUNNING makes. -/
theorem leavingRunningWithdrawsPower : Obligations.LeavingRunningWithdrawsPower := by
  intro s p t
  subst t
  have hunsent (m : ModuleNo) := unsentAt_module_leaveRunning s p m
  have hpower (h : 0 < (s.allot p).setpoint ∨ s.unsentPower p = true) :
      (s.leaveRunning p).unsentAt (.setpoint p) = some (.setpoint p 0) := by
    rw [unsentAt_leaveRunning s p (by simp), State.zeroOrders, if_pos h, List.foldl_cons, List.foldl_nil, find_placed]
    exact if_pos rfl
  have hother {pl : Place} (hmodule : ∀ m, pl ≠ .module m)
      (hset : pl = .setpoint p → ¬ (0 < (s.allot p).setpoint ∨ s.unsentPower p = true)) :
      (s.leaveRunning p).unsentAt pl = s.unsentAt pl := by
    rw [unsentAt_leaveRunning s p hmodule, State.zeroOrders]
    split
    next h =>
      rw [List.foldl_cons, List.foldl_nil, find_placed, if_neg fun e => hset e.symm h]
      rfl
    next => rfl
  refine ⟨alloc_leaveRunning s p, fun m hm => ⟨?_, ?_⟩, fun m hm => ⟨fun hst => ⟨?_, ?_⟩, fun hst => ⟨?_, ?_⟩, fun hst => ⟨?_, ?_⟩⟩,
    fun q => hother (by simp) (by simp), fun q hq => hother (by simp) (by simp [hq]), fun h => hpower (Or.inl h),
    fun hset hunsentPower => hother (by simp) (by simp [hset, hunsentPower]), fun h => hpower (Or.inr h), ?_⟩
  · rw [module_leaveRunning, if_neg (by simp [hm])]
  · rw [hunsent, if_neg (by simp [hm])]
  · rw [module_leaveRunning, if_pos hm]; simp [State.releasedRecord, hst]
  · rw [hunsent, if_pos hm]; simp [State.releasedOrder, hst]
  · rw [module_leaveRunning, if_pos hm]; simp [State.releasedRecord, hst]
  · rw [hunsent, if_pos hm]; simp [State.releasedOrder, hst]
  · rw [module_leaveRunning, if_pos hm]; simp [State.releasedRecord, hst]
  · rw [hunsent, if_pos hm]; simp [State.releasedOrder, hst]
  · rw [leaveRunning_eq]; rfl

/-! ### The withdrawal does not look at the slots -/

section
variable {s t : State} (p : Pedestal)

/-- The Apportioner that the withdrawal leaves is read off the Apportioner. -/
theorem alloc_leaveRunning_congr (halloc : t.alloc = s.alloc) : (t.leaveRunning p).alloc = (s.leaveRunning p).alloc := by
  simp [alloc_leaveRunning, State.allot, halloc]

/-- The released records are read off the pool, the running time and the parameters. -/
theorem releasedModule_congr (hmodules : t.modules = s.modules) (hnow : t.now = s.now) (hcontrol : t.control = s.control) :
    t.releasedModule p 0 = s.releasedModule p 0 := by
  funext m
  simp [State.releasedModule, releases_zero, State.releasedRecord, State.module, State.params, hmodules, hnow, hcontrol]

/-- The pool that the withdrawal leaves is read off the pool, the running time and the parameters. -/
theorem modules_leaveRunning_congr (hmodules : t.modules = s.modules) (hnow : t.now = s.now) (hcontrol : t.control = s.control) :
    (t.leaveRunning p).modules = (s.leaveRunning p).modules := by
  rw [leaveRunning_eq, leaveRunning_eq]
  simp only [State.reworked]
  rw [releasedModule_congr p hmodules hnow hcontrol]

/-- The field link that the withdrawal leaves is read off the field link, the Apportioner and the pool. -/
theorem field_leaveRunning_congr (hfield : t.field = s.field) (halloc : t.alloc = s.alloc) (hmodules : t.modules = s.modules) :
    (t.leaveRunning p).field = (s.leaveRunning p).field := by
  have hzero : t.zeroOrders p = s.zeroOrders p := by
    simp [State.zeroOrders, State.unsentPower, State.allot, hfield, halloc]
  have horders : t.releasedOrders p 0 = s.releasedOrders p 0 := by
    simp [State.releasedOrders, State.releasedFrom, releases_zero, State.module, hmodules]
  have hlinks : (t.setAllot p (t.allot p).withdrawn).field = (s.setAllot p (s.allot p).withdrawn).field := by simp [hfield]
  rw [leaveRunning_eq, leaveRunning_eq]
  simp only [State.reworked, hlinks, hzero, horders]

end

/-- A table of slots with one written, by what each slot reads. -/
theorem slots_eq_set {s t : State} {p : Pedestal} {x : Slot} (hp : t.slot p = x) (hne : ∀ q, q ≠ p → t.slot q = s.slot q) :
    t.slots = s.slots.set p.val x := by
  have hq (q : Pedestal) : t.slots[q.val] = (s.slots.set p.val x)[q.val] := by
    by_cases h : q = p
    · subst h; simpa [State.slot] using hp
    · have hval : p.val ≠ q.val := fun e => h (Fin.ext e.symm)
      simpa [State.slot, hval] using hne q h
  exact Vector.ext fun i hi => hq ⟨i, hi⟩

/-! ### A slot written and reported (R3) -/

section
variable (s : State) (p : Pedestal) (x : Slot)

/-- A slot written with the SESSION status set: what the output and the notice unit become. -/
theorem signals_setSlot_raise :
    ((s.setSlot p x).raise .session).host = s.emits (s.noticed .session) ∧
      ((s.setSlot p x).raise .session).notices = (s.raise .session).notices := by
  refine ⟨?_, notices_raise_congr .session (by simp)⟩
  rw [host_raise]
  rfl

/-- A slot written as it goes to another state. -/
theorem setSlot_goTo (st : SlotState) :
    (s.setSlot p x).goTo p st = (s.setSlot p { x with state := st, changed := true }).raise .session := by
  simp [goTo_eq]

end

/-! ### Suspension and return (R25, R26, R36, R37) -/

section
variable {s : State} {p : Pedestal} {e : Session}

/-- A session that is suspended: the reason is added and its interruption entry opened (R25, R36). -/
def Session.suspended (r : Reason) (day minute : Nat) (e : Session) : Session :=
  Session.openEntry r day minute { e with reasons := e.reasons.add r }

/-- A reason added in RUNNING writes the slot, sets the SESSION status and withdraws the power. -/
theorem addReason_of_running (r : Reason) (he : s.Holds p e) (hstate : (s.slot p).state = .running) :
    s.addReason p r =
      ((s.setSlot p
        { s.slot p with
          state := .suspended, changed := true
          session := some (e.suspended r s.clock.day s.clock.minute) }).raise .session).leaveRunning p := by
  have he' : (s.slot p).session = some e := he
  simp [State.addReason, hstate, State.modifySession, he', goTo_eq, setSlot_raise, Session.suspended]

/-- A reason added in SUSPENDED joins the set (R25). -/
theorem addReason_of_suspended (r : Reason) (he : s.Holds p e) (hstate : (s.slot p).state = .suspended) :
    s.addReason p r = s.setSlot p { s.slot p with session := some { e with reasons := e.reasons.add r } } := by
  simp [State.addReason, hstate, modifySession_of_some he]

/-- In any other state a reason is not added. -/
theorem addReason_of_other (r : Reason) (hrunning : (s.slot p).state ≠ .running) (hsuspended : (s.slot p).state ≠ .suspended) :
    s.addReason p r = s := by
  unfold State.addReason
  split <;> simp_all

/-- The entry that a suspension opens, field by field (R36). -/
theorem Session.suspended_eq (r : Reason) (day minute : Nat) (e : Session) :
    e.suspended r day minute =
      { e with
        reasons := e.reasons.add r
        interruptions :=
          if e.interruptions.length < 4 then
            e.interruptions ++ [{ reason := r, startDay := day, startMinute := minute, duration := none }]
          else e.interruptions
        overflow := if e.interruptions.length < 4 then e.overflow else min 255 (e.overflow + 1) } := by
  by_cases h : e.interruptions.length < 4 <;> simp [Session.suspended, Session.openEntry, Config.interruptionPlaces, h]

end

/-- Settles O24: the slot, the SESSION status and the withdrawal of power give the suspension; the return and the entries are equations of the
model. -/
theorem reasonsDecideBetweenRunningAndSuspended : Obligations.ReasonsDecideBetweenRunningAndSuspended := by
  refine ⟨fun s p r e he => ⟨fun hstate => ?suspends, addReason_of_suspended r he, addReason_of_other r,
    fun hstate hempty => judge_of_empty_eq he hstate hempty, fun h => ?stays⟩,
    fun i day minute => ⟨fun d hd => ?closed, fun hopen => ?opened⟩⟩
  case suspends =>
    intro t
    subst t
    rw [addReason_of_running r he hstate]
    obtain ⟨hhost, hnotices⟩ := signals_setSlot_raise s p
      { s.slot p with state := .suspended, changed := true, session := some (e.suspended r s.clock.day s.clock.minute) }
    refine ⟨slots_eq_set ?_ fun q hq => ?_, alloc_leaveRunning_congr p (by simp),
      modules_leaveRunning_congr p (by simp) (by simp) (by simp), field_leaveRunning_congr p (by simp) (by simp) (by simp), ?_, ?_,
      ⟨by simp, by simp, by simp, by simp⟩, ⟨by simp, by simp⟩, by simp, by simp, by simp⟩
    · simp [Session.suspended_eq]
    · simp [hq]
    · exact Eq.trans (by simp) hnotices
    · exact Eq.trans (by simp) hhost
  case stays =>
    refine judge_of_stays he fun ⟨hstate, hempty⟩ => ?_
    rcases h with h | h
    · exact h hstate
    · simp [hempty] at h
  case closed => simp [Interruption.closeAt, hd]
  case opened => simp [Interruption.closeAt, hopen, spanMinutes, Config.minutesPerDay]

/-! ### The order of the end (R15, R17, R150) -/

section
variable {s t : State} {p : Pedestal}

/-- Which record a session order places in the output is read off the field link alone. -/
theorem cancelled_congr (h : t.field = s.field) : t.cancelled p = s.cancelled p := by
  simp [State.cancelled, State.unsentAt, State.link, h]

/-- The field link that a session order leaves is read off the field link alone. -/
theorem field_placeSessionOrder_congr (o : Order) (h : t.field = s.field) :
    (t.placeSessionOrder p o).field = (s.placeSessionOrder p o).field := by
  have hunsent : t.unsentAt (.other p) = s.unsentAt (.other p) := by simp [State.unsentAt, h]
  have hlink : t.link p = s.link p := by simp [State.link, h]
  unfold State.placeSessionOrder
  rw [hunsent]
  cases s.unsentAt (.other p) with
  | none => simp [State.enqueue, State.setQueue, h]
  | some x =>
    cases x with
    | query q ep c =>
      cases hq : (s.link p).query with
      | none =>
        rw [endQuery_of_none (by simpa [hlink] using hq), endQuery_of_none (by simpa using hq)]
        simp [State.replaceOrder, State.setQueue, h]
      | some y =>
        rw [endQuery_of_some (q := y) (by simpa [hlink] using hq), endQuery_of_some (q := y) (by simpa using hq)]
        simp [State.setLink, State.pushOutput, State.replaceOrder, State.setQueue, h, State.link]
    | _ => simp [State.replaceOrder, State.setQueue, h]

/-- A session order places, at most, the delayed reply of the query whose order it replaces. -/
theorem host_placeSessionOrder (o : Order) : (s.placeSessionOrder p o).host = s.emits (s.cancelled p) := by
  unfold State.placeSessionOrder State.cancelled State.emits
  cases s.unsentAt (.other p) with
  | none => simp
  | some x =>
    cases x with
    | query q ep c =>
      cases hq : (s.link p).query with
      | none => simp [endQuery_of_none, hq]
      | some y =>
        rw [endQuery_of_some (q := y) (by simpa using hq)]
        simp [State.pushOutput, State.setLink, State.replaceOrder, State.setQueue]
    | _ => simp

/-- A session order leaves the notice unit alone. -/
theorem notices_placeSessionOrder (o : Order) : (s.placeSessionOrder p o).notices = s.notices := by simp

/-- Writing a slot and placing a session order may be taken in either order. -/
theorem setSlot_placeSessionOrder (q : Pedestal) (x : Slot) (o : Order) :
    (s.setSlot q x).placeSessionOrder p o = (s.placeSessionOrder p o).setSlot q x := by
  have hunsent : (s.setSlot q x).unsentAt (.other p) = s.unsentAt (.other p) := rfl
  unfold State.placeSessionOrder
  rw [hunsent]
  cases s.unsentAt (.other p) with
  | none => rfl
  | some y =>
    cases y with
    | query n ep c =>
      cases hq : (s.link p).query with
      | none => rw [endQuery_of_none (by simpa using hq), endQuery_of_none (by simpa using hq)]; rfl
      | some z => rw [endQuery_of_some (q := z) (by simpa using hq), endQuery_of_some (q := z) (by simpa using hq)]; rfl
    | _ => rfl

/-- The end of a session is ordered once: the mark is set where it was clear (R15, R17). -/
theorem orderEnd_setSlot {x : Slot} {e : Session} (hx : x.session = some e) :
    (s.setSlot p x).orderEnd p =
      if e.endOrdered = true then s.setSlot p x
      else (s.placeOrder (.endSession p)).setSlot p { x with session := some { e with endOrdered := true } } := by
  have hholds : ((s.setSlot p x).slot p).session = some e := by simpa using hx
  have hplaced : (s.setSlot p x).placeOrder (.endSession p) = (s.placeOrder (.endSession p)).setSlot p x :=
    setSlot_placeSessionOrder p x _
  unfold State.orderEnd
  rw [hholds]
  simp only [hplaced]
  split
  · rfl
  · simp [State.modifySession, hx]

end

/-! ### Entry to FINISHED (R15) -/

section
variable {s : State} {p : Pedestal} {e : Session}

/-- A session that finishes, before its end is ordered (R15 steps 1 to 4). -/
def Session.finished (cause : FinishCause) (day minute : Nat) (e : Session) : Session :=
  { e.closeEntries day minute with finishCause := some cause, reasons := .none, extensionWindow := none, startWait := none }

/-- The state in which a session's end has been ordered, where its mark is clear (R15, R17). -/
def State.endOrdered (s : State) (p : Pedestal) (e : Session) : State :=
  if e.endOrdered = true then s else s.placeOrder (.endSession p)

/-- The session with its end ordered, and its grace loaded from the tariff (R15). -/
def Session.ended (grace : Nat) (e : Session) : Session :=
  { e with endOrdered := true, accrual := { e.accrual with grace := grace } }

/-- Entry to FINISHED from STARTING, RUNNING or SUSPENDED: the SESSION status, the order of the end, the withdrawal of power, and the
slot. -/
theorem finish_of_open (cause : FinishCause) (he : s.Holds p e)
    (hstate : (s.slot p).state = .starting ∨ (s.slot p).state = .running ∨ (s.slot p).state = .suspended) :
    s.finish p cause =
      (((((s.raise .session).endOrdered p e).setSlot p
        { s.slot p with
          state := .finished, changed := true
          session := some { e.finished cause s.clock.day s.clock.minute with endOrdered := true } }).leaveRunning p).modifyAccrual p
        fun a => { a with grace := (s.tariff e.tariff).contents.grace }) := by
  have he' : (s.slot p).session = some e := he
  have hpipeline : s.finish p cause =
      (((((s.goTo p .finished).modifySession p (Session.finished cause s.clock.day s.clock.minute)).orderEnd p).leaveRunning p).loadGrace
        p) := by
    rcases hstate with hstate | hstate | hstate <;> simp [State.finish, hstate] <;> rfl
  have hwritten : (s.goTo p .finished).modifySession p (Session.finished cause s.clock.day s.clock.minute) =
      (s.raise .session).setSlot p
        { s.slot p with
          state := .finished, changed := true, session := some (e.finished cause s.clock.day s.clock.minute) } := by
    simp [goTo_eq, State.modifySession, he', setSlot_raise]
  have hordered : ((s.raise .session).setSlot p
        { s.slot p with
          state := .finished, changed := true, session := some (e.finished cause s.clock.day s.clock.minute) }).orderEnd p =
      ((s.raise .session).endOrdered p e).setSlot p
        { s.slot p with
          state := .finished, changed := true
          session := some { e.finished cause s.clock.day s.clock.minute with endOrdered := true } } := by
    have hmark : (e.finished cause s.clock.day s.clock.minute).endOrdered = e.endOrdered := rfl
    rw [orderEnd_setSlot (e := e.finished cause s.clock.day s.clock.minute) rfl, State.endOrdered, hmark]
    by_cases h : e.endOrdered = true
    · have hsame : ({ e.finished cause s.clock.day s.clock.minute with endOrdered := true } : Session) =
          e.finished cause s.clock.day s.clock.minute := by rw [← h]; rfl
      rw [if_pos h, if_pos h, hsame]
    · rw [if_neg h, if_neg h]
  rw [hpipeline, hwritten, hordered, State.loadGrace]
  simp only [leaveRunning_frame, slot_setSlot, setSlot_frame]
  congr 2
  funext a
  unfold State.endOrdered
  split <;> simp [Session.finished, Session.closeEntries]

/-- From any other state nothing finishes. -/
theorem finish_of_other (cause : FinishCause)
    (h : (s.slot p).state = .vacant ∨ (s.slot p).state = .plugged ∨ (s.slot p).state = .finished ∨ (s.slot p).state = .waitUnplug) :
    s.finish p cause = s := by
  rcases h with h | h | h | h <;> simp [State.finish, h]

/-- What the order of the end leaves alone. -/
theorem endOrdered_frame (s : State) (p : Pedestal) (e : Session) :
    (s.endOrdered p e).pending = s.pending ∧ (s.endOrdered p e).now = s.now ∧ (s.endOrdered p e).slots = s.slots ∧
    (s.endOrdered p e).nextSession = s.nextSession ∧ (s.endOrdered p e).exhausted = s.exhausted ∧
    (s.endOrdered p e).tariffs = s.tariffs ∧ (s.endOrdered p e).settlements = s.settlements ∧
    (s.endOrdered p e).alloc = s.alloc ∧ (s.endOrdered p e).modules = s.modules ∧ (s.endOrdered p e).prot = s.prot ∧
    (s.endOrdered p e).notices = s.notices ∧ (s.endOrdered p e).clock = s.clock ∧ (s.endOrdered p e).control = s.control ∧
    (∀ q, (s.endOrdered p e).slot q = s.slot q) := by
  unfold State.endOrdered
  split <;> simp

/-- What the order of the end places in the output. -/
theorem host_endOrdered (s : State) (p : Pedestal) (e : Session) :
    (s.endOrdered p e).host = s.emits (if e.endOrdered = true then [] else s.cancelled p) := by
  unfold State.endOrdered
  split
  · simp [State.emits]
  · exact host_placeSessionOrder _

/-- The field link that the order of the end leaves is read off the field link. -/
theorem field_endOrdered_congr {s t : State} (p : Pedestal) (e : Session) (h : t.field = s.field) :
    (t.endOrdered p e).field = (s.endOrdered p e).field := by
  unfold State.endOrdered
  split
  · exact h
  · exact field_placeSessionOrder_congr _ h

end

/-- Records placed in turn stand one behind the other. -/
theorem emits_of_emits {s t : State} {a b : List HostRecord} (h : t.host = s.emits a) : t.emits b = s.emits (a ++ b) := by
  simp [State.emits, h]

/-- Settles O25: by the few writes of an entry to FINISHED. -/
theorem entryToFinishedDoesWhatR15Lists : Obligations.EntryToFinishedDoesWhatR15Lists := by
  refine ⟨fun s p cause e he hstate => ?entry, fun s p cause h => finish_of_other cause h⟩
  case entry =>
    intro t ordered
    have hordered : ordered = s.endOrdered p e := rfl
    have ht : t = _ := finish_of_open cause he hstate
    obtain ⟨hpending, hnow, hslots, hnext, hexhausted, htariffs, hsettlements, halloc, hmodules, hprot, hnotices, hclock, hcontrol,
      hslot⟩ := endOrdered_frame (s.raise .session) p e
    obtain ⟨-, -, -, -, -, -, -, halloc', hmodules', -, -, -, -, -⟩ := endOrdered_frame s p e
    clear_value t
    subst ht
    refine ⟨slots_eq_set ?_ fun q hq => ?_, ?_, ?_, ?_, ?_, ?_, ⟨?_, ?_, ?_, ?_⟩, ⟨?_, ?_⟩, ?_, ?_, ?_⟩
    · simp [Session.finished, Session.closeEntries, ReasonSet.none]
    · simp [hq, hslot]
    · simp only [modifyAccrual_frame]
      exact alloc_leaveRunning_congr p (by simp [halloc])
    · simp only [modifyAccrual_frame]
      exact modules_leaveRunning_congr p (by simp [hmodules]) (by simp [hnow]) (by simp [hcontrol])
    · simp only [modifyAccrual_frame]
      have hfield : ((s.raise .session).endOrdered p e).field = ordered.field := field_endOrdered_congr p e (by simp)
      exact field_leaveRunning_congr p (by simp [hfield]) (by simp [halloc, hordered, halloc']) (by simp [hmodules, hordered, hmodules'])
    · simp [hnotices]
    · have hhost := host_endOrdered (s.raise .session) p e
      rw [cancelled_congr (s := s) (by simp), emits_of_emits (host_raise s .session)] at hhost
      simp only [modifyAccrual_frame, leaveRunning_frame, setSlot_frame]
      exact hhost
    · simp [htariffs]
    · simp [hsettlements]
    · simp [hnext]
    · simp [hexhausted]
    · simp [hcontrol]
    · simp [hclock]
    · simp [hprot]
    · simp [hnow]
    · simp [hpending]

end Sys2Proof.Machine
end

section
namespace Sys2Proof.Machine

/-! ### The close of a session (R17, R22, R73, R74, R76, R79) -/

/-- Setting a status leaves the flags of the other classes alone. -/
theorem flags_raise_ne (s : State) {c d : NoticeClass} (h : d ≠ c) : (s.raise c).notices.flags d = s.notices.flags d := by
  unfold State.raise
  simp only []
  split
  · rfl
  · split
    · rw [flags_setFlags_ne s _ h]
    · rw [pushOutput_frame _ _ |>.2.2.2.2.2.2.2.2.2.2.2.2.2.2.2.1, flags_setFlags_ne s _ h]

/-- Which notice an event places is read off the flags of its class. -/
theorem noticed_congr {s t : State} {c : NoticeClass} (h : t.notices.flags c = s.notices.flags c) : t.noticed c = s.noticed c := by
  simp [State.noticed, h]

section
variable (s : State) (r : Settlement)

/-- The record joins the queue at the tail (R79). -/
theorem settlements_appendSettlement : (s.appendSettlement r).settlements = s.settlements ++ [r] := by
  simp [State.appendSettlement]

/-- The SETTLE status is set (R79). -/
theorem signals_appendSettlement :
    (s.appendSettlement r).host = s.emits (s.noticed .settle) ∧ (s.appendSettlement r).notices = (s.raise .settle).notices :=
  ⟨host_raise _ _, notices_raise_congr .settle rfl⟩

/-- A tariff slot's reference count is changed alone (R44). -/
theorem tariffs_setReferences (n : TariffNo) (f : Nat → Nat) :
    (s.setReferences n f).tariffs = s.tariffs.set n.val { s.tariff n with references := f (s.tariff n).references } := rfl

end

/-- A mode of CLOSING_DOWN becomes OUT_OF_SERVICE. -/
theorem PedestalMode.closed_eq (x : PedestalMode) : x.closed = if x = .closingDown then .outOfService else x := by
  cases x <;> rfl

/-- A session as its close records it: entries closed and timers stopped (R17 steps 1 and 2). -/
def Session.closed (day minute : Nat) (e : Session) : Session :=
  { e.closeEntries day minute with startWait := none, resumeWindow := none, extensionWindow := none }

/-- The waived amount is what the components exceed the hold by (R74). -/
theorem Accrual.waived_eq (a : Accrual) :
    a.waived = if a.componentSum ≤ a.hold then none else some (a.componentSum - a.hold) := by
  have hexcess : a.componentSum - a.settledTotal = a.componentSum - a.hold := by
    simp only [Accrual.settledTotal]; omega
  rw [Accrual.waived, hexcess]
  by_cases h : a.componentSum ≤ a.hold
  · rw [if_pos h, if_pos (by omega)]
  · rw [if_neg h, if_neg (by omega)]

/-- The record of a close, field by field (R73, R74, R76). -/
theorem closingRecord_closed (p : Pedestal) (token : Option Token) (e : Session) (cause : CloseCause) (day minute : Nat) :
    closingRecord p token (e.closed day minute) cause day minute =
      { number := e.number, pedestal := p, tariff := e.tariff, version := e.version, token := token
        startDay := e.startDay, startMinute := e.startMinute, endDay := day, endMinute := minute
        finishCause := e.finishCause, closeCause := cause
        energy := e.accrual.energy, buckets := e.accrual.buckets, chargingMinutes := e.accrual.chargingMinutes
        idleMinutes := e.accrual.idleMinutes, fee := e.accrual.fee
        energyAmount := (e.accrual.energyAmount + 500) / 1000
        timeAmount := (e.accrual.timeAmount + 500) / 1000
        idleAmount := (e.accrual.idleAmount + 500) / 1000
        total := min e.accrual.componentSum e.accrual.hold
        waived :=
          if e.accrual.componentSum ≤ e.accrual.hold then none else some (e.accrual.componentSum - e.accrual.hold)
        hold := e.accrual.hold, topUps := e.accrual.topUps
        interruptions := e.interruptions.map (Interruption.closeAt day minute)
        overflow := e.overflow } := by
  simp only [closingRecord, Session.closed, Session.closeEntries, Accrual.waived_eq]
  rfl

/-- The end of a session is ordered by its close, but by the close of a restart (R17 step 3, R22). -/
def State.closeOrdered (s : State) (p : Pedestal) (cause : CloseCause) (e : Session) : State :=
  if cause ≠ .restart ∧ e.endOrdered = false then s.placeOrder (.endSession p) else s

/-- The close stamps the current minute, but the close of a restart (R17 step 2, R22). -/
def State.closeStamped (s : State) (cause : CloseCause) : State := if cause = .restart then s else s.stamp

/-- The slot that a close leaves (R17). -/
def Slot.closed (cause : CloseCause) (x : Slot) : Slot :=
  { x with
    state := if cause = .linkLost then .waitUnplug else .vacant
    mode := x.mode.closed
    token := if cause = .linkLost then x.token else none
    changed := true
    session := none }

/-- What a close does once the session's end has been ordered: the record joins the queue, the tariff is let go, power is withdrawn, and the slot
is freed (R17 steps 4 to 8). -/
def State.closeSettled (s : State) (p : Pedestal) (cause : CloseCause) (n : TariffNo) (r : Settlement) : State :=
  ((((((s.appendSettlement r).setReferences n fun k => k - 1).leaveRunning p).setAllot p .cold).setSlot p
    ((s.slot p).closed cause)).raise .session)

section
variable {s : State} {p : Pedestal} {e : Session}

/-- What the order of the end leaves alone. -/
theorem closeOrdered_frame (s : State) (p : Pedestal) (cause : CloseCause) (e : Session) :
    (s.closeOrdered p cause e).pending = s.pending ∧ (s.closeOrdered p cause e).now = s.now ∧
    (s.closeOrdered p cause e).slots = s.slots ∧ (s.closeOrdered p cause e).nextSession = s.nextSession ∧
    (s.closeOrdered p cause e).exhausted = s.exhausted ∧ (s.closeOrdered p cause e).tariffs = s.tariffs ∧
    (s.closeOrdered p cause e).settlements = s.settlements ∧ (s.closeOrdered p cause e).alloc = s.alloc ∧
    (s.closeOrdered p cause e).modules = s.modules ∧ (s.closeOrdered p cause e).prot = s.prot ∧
    (s.closeOrdered p cause e).notices = s.notices ∧ (s.closeOrdered p cause e).clock = s.clock ∧
    (s.closeOrdered p cause e).control = s.control ∧ (∀ q, (s.closeOrdered p cause e).slot q = s.slot q) ∧
    (∀ n, (s.closeOrdered p cause e).tariff n = s.tariff n) := by
  unfold State.closeOrdered
  split <;> simp

/-- What the stamp of a close leaves alone. -/
theorem closeStamped_frame (s : State) (cause : CloseCause) :
    (s.closeStamped cause).pending = s.pending ∧ (s.closeStamped cause).now = s.now ∧ (s.closeStamped cause).slots = s.slots ∧
    (s.closeStamped cause).nextSession = s.nextSession ∧ (s.closeStamped cause).exhausted = s.exhausted ∧
    (s.closeStamped cause).tariffs = s.tariffs ∧ (s.closeStamped cause).settlements = s.settlements ∧
    (s.closeStamped cause).alloc = s.alloc ∧ (s.closeStamped cause).modules = s.modules ∧
    (s.closeStamped cause).prot = s.prot ∧ (s.closeStamped cause).field = s.field ∧ (s.closeStamped cause).host = s.host ∧
    (s.closeStamped cause).notices = s.notices ∧ (s.closeStamped cause).control = s.control ∧
    (∀ q, (s.closeStamped cause).slot q = s.slot q) ∧ (∀ n, (s.closeStamped cause).tariff n = s.tariff n) := by
  unfold State.closeStamped
  split <;> simp

/-- What the order of the end places in the output. -/
theorem host_closeOrdered (s : State) (p : Pedestal) (cause : CloseCause) (e : Session) :
    (s.closeOrdered p cause e).host = s.emits (if cause ≠ .restart ∧ e.endOrdered = false then s.cancelled p else []) := by
  unfold State.closeOrdered
  split
  · exact host_placeSessionOrder _
  · simp [State.emits]

/-- The field link that the order of the end leaves is read off the field link. -/
theorem field_closeOrdered_congr {s t : State} (p : Pedestal) (cause : CloseCause) (e : Session) (h : t.field = s.field) :
    (t.closeOrdered p cause e).field = (s.closeOrdered p cause e).field := by
  unfold State.closeOrdered
  split
  · exact field_placeSessionOrder_congr _ h
  · exact h

/-- A slot that is settled under two pieces of a session is settled alike: the close looks at the record alone. -/
theorem closeTail_eq (u : State) (cause : CloseCause) (n : TariffNo) (r : Settlement) :
    (let s := u.appendSettlement r
    let s := s.setReferences n fun k => k - 1
    let s := s.leaveRunning p
    let s := s.setAllot p { s.allot p with cap := none, stagedCap := none }
    let x := s.slot p
    let s := s.setSlot p
      { x with session := none, mode := x.mode.closed, token := if cause = .linkLost then x.token else none }
    s.goTo p (if cause = .linkLost then .waitUnplug else .vacant)) = u.closeSettled p cause n r := by
  simp only [setSlot_goTo, State.closeSettled]
  simp [Allotment.withdrawn, Allotment.cold, Slot.closed]

/-- A close stamps the minute, orders the end, and settles the session. -/
theorem closeSession_of_holds (cause : CloseCause) (he : s.Holds p e) :
    ∃ e', s.closeSession p cause =
      ((((s.closeStamped cause).closeOrdered p cause e).setSlot p { s.slot p with session := some e' }).closeSettled p cause e.tariff
        (closingRecord p (s.slot p).token
          (e.closed (s.closeStamped cause).clock.stampedDay (s.closeStamped cause).clock.stampedMinute) cause
          (s.closeStamped cause).clock.stampedDay (s.closeStamped cause).clock.stampedMinute)) := by
  have he' : (s.slot p).session = some e := he
  obtain ⟨-, -, -, -, -, -, -, -, -, -, -, -, -, -, hslot, -⟩ := closeStamped_frame s cause
  generalize hday : (s.closeStamped cause).clock.stampedDay = day
  generalize hminute : (s.closeStamped cause).clock.stampedMinute = minute
  have hclosed : (s.closeStamped cause).modifySession p (Session.closed day minute) =
      (s.closeStamped cause).setSlot p { s.slot p with session := some (e.closed day minute) } := by
    rw [modifySession_of_some (e := e) (by simpa [State.Holds, hslot] using he'), hslot]
  have hordered : ∃ e', (if cause = .restart then (s.closeStamped cause).modifySession p (Session.closed day minute)
        else ((s.closeStamped cause).modifySession p (Session.closed day minute)).orderEnd p) =
      (((s.closeStamped cause).closeOrdered p cause e).setSlot p { s.slot p with session := some e' }) ∧
      e'.tariff = e.tariff ∧ ∀ tok, closingRecord p tok e' cause day minute = closingRecord p tok (e.closed day minute) cause day minute := by
    rw [hclosed, orderEnd_setSlot rfl, State.closeOrdered]
    by_cases hc : cause = .restart
    · exact ⟨e.closed day minute, by simp [hc], rfl, fun _ => rfl⟩
    · cases hm : e.endOrdered with
      | true => exact ⟨e.closed day minute, by simp [hc, Session.closed, Session.closeEntries, hm], rfl, fun _ => rfl⟩
      | false =>
        exact ⟨{ e.closed day minute with endOrdered := true },
          by simp [hc, Session.closed, Session.closeEntries, hm], rfl, fun _ => rfl⟩
  obtain ⟨e', hordered, htariff, hrecord⟩ := hordered
  refine ⟨e', ?_⟩
  rw [← hrecord, ← htariff, ← closeTail_eq, ← hordered]
  have hslot' : ((if cause = .restart then (s.closeStamped cause).modifySession p (Session.closed day minute)
        else ((s.closeStamped cause).modifySession p (Session.closed day minute)).orderEnd p).slot p) =
      { s.slot p with session := some e' } := by
    rw [hordered]; simp
  have hunfold : s.closeSession p cause =
      (let u := if cause = .restart then (s.closeStamped cause).modifySession p (Session.closed day minute)
        else ((s.closeStamped cause).modifySession p (Session.closed day minute)).orderEnd p
      match (u.slot p).session with
      | none => u
      | some e => 
        let s := u.appendSettlement (closingRecord p (u.slot p).token e cause day minute)
        let s := s.setReferences e.tariff fun n => n - 1
        let s := s.leaveRunning p
        let s := s.setAllot p { s.allot p with cap := none, stagedCap := none }
        let x := s.slot p
        let s := s.setSlot p
          { x with session := none, mode := x.mode.closed, token := if cause = .linkLost then x.token else none }
        s.goTo p (if cause = .linkLost then .waitUnplug else .vacant)) := by
    rw [State.closeSession, he']
    subst hday hminute
    rfl
  rw [hunfold]
  simp only [hslot']

/-- A slot without a session has none to close. -/
theorem closeSession_of_none (cause : CloseCause) (h : (s.slot p).session = none) : s.closeSession p cause = s := by
  simp [State.closeSession, h]

end

/-- Settles O26: the close is a stamp, the order of the end, and the settling, whose writes are read off field by field. -/
theorem closeSettlesTheSession : Obligations.CloseSettlesTheSession := by
  intro s p cause e he
  obtain ⟨e', ht⟩ := closeSession_of_holds cause he
  obtain ⟨spending, snow, sslots, snext, sexhausted, stariffs, ssettlements, salloc, smodules, sprot, sfield, shost, snotices, scontrol,
    sslot, starif⟩ := closeStamped_frame s cause
  obtain ⟨opending, onow, oslots, onext, oexhausted, otariffs, osettlements, oalloc, omodules, oprot, onotices, oclock, ocontrol,
    oslot, otarif⟩ := closeOrdered_frame (s.closeStamped cause) p cause e
  obtain ⟨-, -, -, -, -, -, -, oalloc', omodules', -, -, -, -, -, -⟩ := closeOrdered_frame s p cause e
  have hfield : ((s.closeStamped cause).closeOrdered p cause e).field = (s.closeOrdered p cause e).field :=
    field_closeOrdered_congr p cause e sfield
  have hhost : ((s.closeStamped cause).closeOrdered p cause e).host =
      s.emits (if cause ≠ .restart ∧ e.endOrdered = false then s.cancelled p else []) := by
    rw [host_closeOrdered, cancelled_congr sfield]
    simp [State.emits, shost]
  have hday : (s.closeStamped cause).clock.stampedDay = if cause = .restart then s.clock.stampedDay else s.clock.day := by
    unfold State.closeStamped; split <;> rfl
  have hminute : (s.closeStamped cause).clock.stampedMinute = if cause = .restart then s.clock.stampedMinute else s.clock.minute := by
    unfold State.closeStamped; split <;> rfl
  have hclock : (s.closeStamped cause).clock =
      { s.clock with
        stampedDay := if cause = .restart then s.clock.stampedDay else s.clock.day
        stampedMinute := if cause = .restart then s.clock.stampedMinute else s.clock.minute } := by
    unfold State.closeStamped; split <;> rfl
  intro t day minute orders ordered a components
  rw [hday, hminute] at ht
  have ht' : t = _ := ht
  have hordered : ordered = s.closeOrdered p cause e := rfl
  clear_value t
  subst ht'
  generalize hu : ((s.closeStamped cause).closeOrdered p cause e) = u at *
  generalize hr : closingRecord p (s.slot p).token _ cause _ _ = r
  have hslotp : (u.setSlot p { s.slot p with session := some e' }).slot p = { s.slot p with session := some e' } := by simp
  refine ⟨slots_eq_set ?_ fun q hq => ?_, ?_, ?_, ?_, ?_, ?_, ?_, ?_, ?_, ?_, ?_, ?_, ?_, ?_, ?_⟩ <;>
    rw [State.closeSettled, hslotp]
  · simp [Slot.closed, PedestalMode.closed_eq]
  · simp [hq, oslot, sslot]
  · simp only [raise_frame, setSlot_frame, setAllot_frame, leaveRunning_frame, setReferences_frame, settlements_appendSettlement,
      osettlements, ssettlements]
    subst hr
    exact congrArg (fun x => s.settlements ++ [x]) (closingRecord_closed p _ e cause day minute)
  · simp only [raise_frame, setSlot_frame, setAllot_frame, leaveRunning_frame, tariffs_setReferences, appendSettlement_frame, otariffs,
      stariffs, otarif, starif]
  · simp only [raise_frame, setSlot_frame, setAllot_frame, leaveRunning_frame, setReferences_frame, appendSettlement_frame, oclock]
    exact hclock
  · simp [State.setAllot, alloc_leaveRunning, oalloc, salloc, Allotment.cold]
  · simp only [raise_frame, setSlot_frame, setAllot_frame]
    exact modules_leaveRunning_congr p (by simp [omodules, smodules]) (by simp [onow, snow]) (by simp [ocontrol, scontrol])
  · simp only [raise_frame, setSlot_frame, setAllot_frame]
    exact field_leaveRunning_congr p (by simp [hfield, hordered]) (by simp [oalloc, salloc, hordered, oalloc'])
      (by simp [omodules, smodules, hordered, omodules'])
  · refine notices_raise_congr .session ?_
    simp only [setSlot_frame, setAllot_frame, leaveRunning_frame, setReferences_frame, signals_appendSettlement]
    exact notices_raise_congr .settle (by simp [onotices, snotices])
  · have hsettle : (u.setSlot p { s.slot p with session := some e' }).noticed .settle = s.noticed .settle :=
      noticed_congr (by simp [onotices, snotices])
    have hsession (x : State) (hx : x.notices = ((u.setSlot p { s.slot p with session := some e' }).appendSettlement r).notices) :
        x.noticed .session = s.noticed .session := by
      refine noticed_congr ?_
      rw [hx, signals_appendSettlement _ r |>.2, flags_raise_ne _ (by decide)]
      simp [onotices, snotices]
    rw [host_raise, hsession _ (by simp), List.append_assoc]
    simp only [State.emits, setSlot_frame, setAllot_frame, leaveRunning_frame, setReferences_frame, signals_appendSettlement, hsettle,
      hhost]
    simp [orders]
  · simp [onext, snext]
  · simp [oexhausted, sexhausted]
  · simp [oprot, sprot]
  · simp [ocontrol, scontrol]
  · simp [onow, snow]
  · simp [opending, spending]

end Sys2Proof.Machine
end

section
/-! # The two passes of a share (R93)

Pass 1 visits the sessions in order, and each takes one module while modules are left. Pass 2 visits the pedestals round after round. The
visit of round `j` in position `k` of the cycle finds as many modules given as there are further modules in front of it: those of earlier
rounds, and those of round `j` in earlier positions. That number, `furtherBefore`, decides alone whether the visit is still served. -/

namespace Sys2Proof.Machine

/-! ### Sums over the pedestals -/

/-- A sum grows with its terms. -/
theorem sumOver_mono {f g : Pedestal → Nat} (h : ∀ p, f p ≤ g p) : sumOver f ≤ sumOver g :=
  sum_map_le fun p _ => h p

/-- A term is at most the sum. -/
theorem le_sumOver (f : Pedestal → Nat) (p : Pedestal) : f p ≤ sumOver f :=
  le_sum_map f (mem_allPedestals p)

/-- The sum of sums. -/
theorem sumOver_add (f g : Pedestal → Nat) : sumOver (fun p => f p + g p) = sumOver f + sumOver g :=
  sum_map_add allPedestals f g

/-- A sum of one term. -/
theorem sumOver_single (p : Pedestal) (n : Nat) : sumOver (fun q => if q = p then n else 0) = n :=
  sum_map_single allPedestals_nodup (mem_allPedestals p) n

/-- The entries of a table sum to the sum over the pedestals. -/
theorem sum_toList (v : Vector Nat 16) : v.toList.sum = sumOver fun p => v[p.val] := by
  have hall : List.finRange 16 = allPedestals := by decide
  rw [toList_eq_map, hall]
  rfl

/-- Lists without repetitions that have the same elements are of the same length. -/
theorem length_eq_of_mem_iff {α : Type} {l l' : List α} (hl : l.Nodup) (hl' : l'.Nodup) (h : ∀ x, x ∈ l ↔ x ∈ l') :
    l.length = l'.length :=
  ((List.perm_ext_iff_of_nodup hl hl').2 h).length_eq

/-! ### Pass 1 -/

section
variable (demand : Pedestal → Nat)

/-- How many sessions with a demand come before a pedestal's. -/
def earlierSessions (sessions : List Pedestal) (p : Pedestal) : Nat :=
  ((sessions.takeWhile fun q => q != p).filter fun q => decide (1 ≤ demand q)).length

/-- Pass 1 serves a pedestal: it has a session and a demand, and fewer sessions with a demand than modules come before it. -/
def servedFirst (sessions : List Pedestal) (budget : Nat) (p : Pedestal) : Bool :=
  sessions.contains p && decide (1 ≤ demand p) && decide (earlierSessions demand sessions p < budget)

/-- A visit of pass 1 takes one from the modules left for a pedestal with a demand. -/
theorem left_firstVisit (sh : Share) (q : Pedestal) :
    (firstVisit demand sh q).left = sh.left - if 1 ≤ demand q then 1 else 0 := by
  unfold firstVisit
  split
  next hcond => rw [if_pos hcond.2]
  next hcond => split <;> omega

/-- Pass 1 gives one module to each pedestal it serves, and takes one from the modules left for each session with a demand. -/
theorem firstPass_eq (sessions : List Pedestal) (hnodup : sessions.Nodup) (sh : Share) :
    let t := sessions.foldl (firstVisit demand) sh
    (∀ p : Pedestal, t.grants[p.val] = if servedFirst demand sessions sh.left p then 1 else sh.grants[p.val]) ∧
      t.left = sh.left - (sessions.filter fun q => decide (1 ≤ demand q)).length ∧ t.last = sh.last := by
  induction sessions generalizing sh with
  | nil => simp [servedFirst]
  | cons q l ih =>
    obtain ⟨hq, hl⟩ := List.nodup_cons.1 hnodup
    obtain ⟨hgrants, hleft, hlast⟩ := ih hl (firstVisit demand sh q)
    have hearlier (p : Pedestal) (hp : p ≠ q) : earlierSessions demand (q :: l) p =
        earlierSessions demand l p + if 1 ≤ demand q then 1 else 0 := by
      by_cases hd : 1 ≤ demand q <;> simp [earlierSessions, Ne.symm hp, hd]
    have hself : earlierSessions demand (q :: l) q = 0 := by simp [earlierSessions]
    have hcontains : l.contains q = false := by simpa using hq
    intro t
    refine ⟨fun p => (hgrants p).trans ?grants, hleft.trans ?left, hlast.trans ?last⟩
    case grants =>
      by_cases hp : p = q
      · subst hp
        have hserved : servedFirst demand l (firstVisit demand sh p).left p = false := by
          rw [servedFirst, hcontains]
          rfl
        rw [hserved]
        by_cases hcond : 0 < sh.left ∧ 1 ≤ demand p
        · simp [firstVisit, hcond, servedFirst, hself]
        · have hnot : servedFirst demand (p :: l) sh.left p = false := by
            simp only [servedFirst, hself, Bool.and_eq_false_iff, decide_eq_false_iff_not]
            omega
          simp [firstVisit, hcond, hnot]
      · have hne : q.val ≠ p.val := fun e => hp (Fin.ext e.symm)
        have hold : (firstVisit demand sh q).grants[p.val] = sh.grants[p.val] := by
          unfold firstVisit
          split <;> simp [hne]
        have hserved : servedFirst demand l (firstVisit demand sh q).left p = servedFirst demand (q :: l) sh.left p := by
          rw [Bool.eq_iff_iff]
          simp only [servedFirst, hearlier p hp, Bool.and_eq_true, decide_eq_true_eq, List.contains_iff_mem, List.mem_cons, hp,
            false_or, left_firstVisit]
          have hroom (n k i : Nat) : n < k - i ↔ n + i < k := by omega
          rw [hroom]
        rw [hold, hserved]
    case left =>
      rw [left_firstVisit]
      by_cases hd : 1 ≤ demand q
      · rw [List.filter_cons_of_pos (by simpa using hd), if_pos hd, List.length_cons]
        omega
      · rw [List.filter_cons_of_neg (by simpa using hd), if_neg hd]
        omega
    case last => unfold firstVisit; split <;> rfl

end

/-! ### Pass 2 -/

/-- The position of a pedestal in the cycle from the one after the pointer. -/
def cyclePlace (pointer p : Pedestal) : Nat := (p.val + 15 - pointer.val) % 16

/-- Every position of the cycle is one of sixteen. -/
theorem cyclePlace_lt (pointer p : Pedestal) : cyclePlace pointer p < 16 := Nat.mod_lt _ (by decide)

/-- No two pedestals have the same position. -/
theorem cyclePlace_inj {pointer p q : Pedestal} (h : cyclePlace pointer p = cyclePlace pointer q) : p = q := by
  have := p.isLt
  have := q.isLt
  have := pointer.isLt
  unfold cyclePlace at h
  apply Fin.ext
  omega

/-- The cycle lists the pedestals by their position. -/
theorem cyclePlace_cycleFrom (pointer : Pedestal) (k : Nat) (h : k < (cycleFrom pointer).length) :
    cyclePlace pointer (cycleFrom pointer)[k] = k := by
  have hk : k < 16 := by simpa [cycleFrom, allPedestals] using h
  have hall : ∀ i : Fin 16, allPedestals[i.val]'(by simp [allPedestals]) = i := by decide
  have hgetk : allPedestals[k]'(by simp [allPedestals]; omega) = (⟨k, hk⟩ : Pedestal) := hall ⟨k, hk⟩
  have hget : (cycleFrom pointer)[k] = pointer + 1 + (⟨k, hk⟩ : Pedestal) := by
    simp only [cycleFrom, List.getElem_map, hgetk]
  have := pointer.isLt
  have hone : (1 : Pedestal).val = 1 := rfl
  refine (congrArg (cyclePlace pointer) hget).trans ?_
  simp only [cyclePlace, Fin.val_add, hone]
  omega

section
variable (pointer : Pedestal) (further : Pedestal → Nat)

/-- How many further modules stand in front of round `j`, position `k`. -/
def furtherBefore (j k : Nat) : Nat :=
  sumOver fun q => min (further q) j + (decide (cyclePlace pointer q < k) && decide (j < further q)).toNat

/-- Behind a pedestal that still asks in a round there is one more. -/
theorem furtherBefore_succ (j : Nat) (p : Pedestal) :
    furtherBefore pointer further j (cyclePlace pointer p + 1) =
      furtherBefore pointer further j (cyclePlace pointer p) + if j < further p then 1 else 0 := by
  rw [← sumOver_single p (if j < further p then 1 else 0), furtherBefore, furtherBefore, ← sumOver_add]
  congr 1
  funext q
  by_cases hq : q = p
  · subst hq
    by_cases hj : j < further q <;> simp [hj]
  · have hne : cyclePlace pointer q ≠ cyclePlace pointer p := fun h => hq (cyclePlace_inj h)
    have hlt : (cyclePlace pointer q < cyclePlace pointer p + 1) = (cyclePlace pointer q < cyclePlace pointer p) := by
      apply propext; omega
    simp [hq, hlt]

/-- Behind the last position of a round the next begins. -/
theorem furtherBefore_round (j : Nat) : furtherBefore pointer further j 16 = furtherBefore pointer further (j + 1) 0 := by
  unfold furtherBefore
  congr 1
  funext q
  have := cyclePlace_lt pointer q
  by_cases hj : j < further q <;> simp [this, hj] <;> omega

/-- Later positions and rounds have more in front of them. -/
theorem furtherBefore_mono {i j k l : Nat} (h : i < j ∨ (i = j ∧ k ≤ l)) :
    furtherBefore pointer further i k ≤ furtherBefore pointer further j l := by
  refine sumOver_mono fun q => ?_
  rcases h with h | ⟨rfl, h⟩
  · have hb : ∀ b : Bool, b.toNat ≤ 1 := Bool.toNat_le
    by_cases hi : i < further q
    · have := hb (decide (cyclePlace pointer q < k) && decide (i < further q))
      omega
    · simp [hi]; omega
  · refine Nat.add_le_add_left ?_ _
    by_cases hq : cyclePlace pointer q < k
    · simp [hq, show cyclePlace pointer q < l by omega]
    · simp [hq]

/-- A visit that still asks has fewer in front of it than one behind it. -/
theorem furtherBefore_lt {i j k : Nat} {p : Pedestal} (hask : i < further p)
    (h : i < j ∨ (i = j ∧ cyclePlace pointer p < k)) :
    furtherBefore pointer further i (cyclePlace pointer p) < furtherBefore pointer further j k := by
  have hsucc := furtherBefore_succ pointer further i p
  rw [if_pos hask] at hsucc
  have hmono := furtherBefore_mono pointer further (i := i) (j := j) (k := cyclePlace pointer p + 1) (l := k) (by omega)
  omega

/-- Different visits that still ask have different numbers in front of them. -/
theorem furtherBefore_inj {i j : Nat} {p q : Pedestal} (hp : i < further p) (hq : j < further q)
    (h : furtherBefore pointer further i (cyclePlace pointer p) = furtherBefore pointer further j (cyclePlace pointer q)) :
    p = q := by
  refine Classical.byContradiction fun hne => ?_
  have hplace : cyclePlace pointer p ≠ cyclePlace pointer q := fun e => hne (cyclePlace_inj e)
  rcases Nat.lt_trichotomy i j with hij | hij | hij
  · exact absurd h (Nat.ne_of_lt (furtherBefore_lt pointer further hp (Or.inl hij)))
  · rcases Nat.lt_or_gt_of_ne hplace with hlt | hgt
    · exact absurd h (Nat.ne_of_lt (furtherBefore_lt pointer further hp (Or.inr ⟨hij, hlt⟩)))
    · exact absurd h (Nat.ne_of_gt (furtherBefore_lt pointer further hq (Or.inr ⟨hij.symm, hgt⟩)))
  · exact absurd h (Nat.ne_of_gt (furtherBefore_lt pointer further hq (Or.inl hij)))

/-- A visit that still asks has at least its round in front of it, and fewer than all. -/
theorem furtherBefore_bounds {j : Nat} {p : Pedestal} (h : j < further p) :
    j ≤ furtherBefore pointer further j (cyclePlace pointer p) ∧
      furtherBefore pointer further j (cyclePlace pointer p) < sumOver further := by
  constructor
  · have hle : min (further p) j + _ ≤ furtherBefore pointer further j (cyclePlace pointer p) := le_sumOver (fun q => min (further q) j +
      (decide (cyclePlace pointer q < cyclePlace pointer p) && decide (j < further q)).toNat) p
    omega
  · refine Nat.lt_of_lt_of_le (furtherBefore_lt pointer further h (Or.inl (Nat.lt_succ_self j)) (k := 0)) (sumOver_mono fun q => ?_)
    simp [Nat.min_le_left]

/-- What pass 2 has done when it comes to round `j`, position `k`, with `first` given in pass 1 and `left` modules left by it. -/
structure Served (first : Pedestal → Bool) (left j k : Nat) (sh : Share) : Prop where
  left_eq : sh.left = left - furtherBefore pointer further j k
  grants_eq : ∀ p : Pedestal, sh.grants[p.val] = (first p).toNat +
    ((List.range (if cyclePlace pointer p < k then j + 1 else j)).filter fun i =>
      decide (i < further p) && decide (furtherBefore pointer further i (cyclePlace pointer p) < left)).length
  last_eq : ∀ p i, i < further p →
    furtherBefore pointer further i (cyclePlace pointer p) + 1 = min left (furtherBefore pointer further j k) → sh.last = some p
  last_none : min left (furtherBefore pointer further j k) = 0 → sh.last = none

section
variable {pointer further} {demand : Pedestal → Nat} {first : Pedestal → Bool} {left : Nat}

/-- A pedestal of pass 2 has a demand beyond its first module only where pass 1 served it. -/
abbrev FurtherOf (demand : Pedestal → Nat) (first : Pedestal → Bool) (further : Pedestal → Nat) : Prop :=
  ∀ p, (first p = true → demand p = further p + 1) ∧ (first p = false → further p = 0)

/-- While modules are left, a pedestal has been served in every round in which it asked. -/
theorem Served.grants_of_left {j : Nat} {p : Pedestal} {sh : Share}
    (h : Served pointer further first left j (cyclePlace pointer p) sh) (hleft : 0 < sh.left) :
    sh.grants[p.val] = (first p).toNat + min (further p) j := by
  have hbound : furtherBefore pointer further j (cyclePlace pointer p) < left := by
    have := h.left_eq
    omega
  have hserved : ((List.range j).filter fun i =>
      decide (i < further p) && decide (furtherBefore pointer further i (cyclePlace pointer p) < left)) =
      (List.range j).filter fun i => decide (i < further p) := by
    apply List.filter_congr
    intro i hi
    by_cases hask : i < further p
    · have := furtherBefore_lt pointer further hask (j := j) (k := cyclePlace pointer p) (Or.inl (List.mem_range.1 hi))
      simp [hask, Nat.lt_trans this hbound]
    · simp [hask]
  have hcount : ((List.range j).filter fun i => decide (i < further p)).length = min (further p) j := by
    have hperm : ((List.range j).filter fun i => decide (i < further p)).Perm (List.range (min (further p) j)) :=
      (List.perm_ext_iff_of_nodup (List.nodup_range.filter _) List.nodup_range).2 fun i => by simp; omega
    rw [hperm.length_eq, List.length_range]
  rw [h.grants_eq p, if_neg (Nat.lt_irrefl _), hserved, hcount]

/-- A visit of pass 2. -/
theorem Served.visit (hfurther : FurtherOf demand first further) {j : Nat} {p : Pedestal} {sh : Share}
    (h : Served pointer further first left j (cyclePlace pointer p) sh) :
    Served pointer further first left j (cyclePlace pointer p + 1) (secondVisit demand sh p) := by
  have hsucc := furtherBefore_succ pointer further j p
  have hcond : (0 < sh.left ∧ 1 ≤ sh.grants[p.val] ∧ sh.grants[p.val] < demand p) ↔
      (j < further p ∧ furtherBefore pointer further j (cyclePlace pointer p) < left) := by
    have hleft := h.left_eq
    obtain ⟨hserved, hunserved⟩ := hfurther p
    constructor
    · rintro ⟨hpos, hone, hless⟩
      rw [h.grants_of_left hpos] at hone hless
      cases hf : first p with
      | true => rw [hserved hf, hf] at hless; simp at hless; omega
      | false => rw [hf, hunserved hf] at hone; simp at hone
    · rintro ⟨hask, hbound⟩
      have hpos : 0 < sh.left := by omega
      rw [h.grants_of_left hpos]
      cases hf : first p with
      | true => rw [hserved hf]; simp; omega
      | false => rw [hunserved hf] at hask; omega
  have hother (q : Pedestal) (hq : q ≠ p) :
      (if cyclePlace pointer q < cyclePlace pointer p + 1 then j + 1 else j) =
        if cyclePlace pointer q < cyclePlace pointer p then j + 1 else j := by
    have hne : cyclePlace pointer q ≠ cyclePlace pointer p := fun e => hq (cyclePlace_inj e)
    by_cases hlt : cyclePlace pointer q < cyclePlace pointer p
    · rw [if_pos hlt, if_pos (by omega)]
    · rw [if_neg hlt, if_neg (by omega)]
  have hself := h.grants_eq p
  rw [if_neg (Nat.lt_irrefl _)] at hself
  unfold secondVisit
  by_cases hgrant : j < further p ∧ furtherBefore pointer further j (cyclePlace pointer p) < left
  · obtain ⟨hask, hbound⟩ := hgrant
    rw [if_pos (hcond.2 ⟨hask, hbound⟩)]
    rw [if_pos hask] at hsucc
    refine ⟨?left, fun q => ?grants, fun q i hi hlast => ?last, fun hzero => ?none⟩
    case left => have := h.left_eq; simp only; omega
    case grants =>
      by_cases hq : q = p
      · subst hq
        rw [if_pos (Nat.lt_succ_self _), List.range_succ, List.filter_append]
        simp [hask, hbound, hself, Nat.add_assoc]
      · have hne : p.val ≠ q.val := fun e => hq (Fin.ext e.symm)
        rw [hother q hq]
        simpa [hne] using h.grants_eq q
    case last =>
      refine congrArg some (furtherBefore_inj pointer further hask hi ?_)
      omega
    case none => omega
  · rw [if_neg (fun hc => hgrant (hcond.1 hc))]
    have hmin : min left (furtherBefore pointer further j (cyclePlace pointer p + 1)) =
        min left (furtherBefore pointer further j (cyclePlace pointer p)) := by
      by_cases hask : j < further p
      · rw [if_pos hask] at hsucc; omega
      · rw [if_neg hask] at hsucc; omega
    refine ⟨?left, fun q => ?grants, fun q i hi hlast => h.last_eq q i hi (hlast.trans hmin), fun hzero => h.last_none (hmin ▸ hzero)⟩
    case left => have := h.left_eq; omega
    case grants =>
      by_cases hq : q = p
      · subst hq
        have hnot : (decide (j < further q) && decide (furtherBefore pointer further j (cyclePlace pointer q) < left)) = false := by
          rw [Bool.and_eq_false_iff, decide_eq_false_iff_not, decide_eq_false_iff_not]
          exact Classical.not_and_iff_not_or_not.1 hgrant
        rw [if_pos (Nat.lt_succ_self _), List.range_succ, List.filter_append, hself]
        simp [hnot]
      · rw [hother q hq]
        exact h.grants_eq q

/-- A run of visits, position after position. -/
theorem Served.visits (hfurther : FurtherOf demand first further) {j : Nat} (l : List Pedestal) {k : Nat} {sh : Share}
    (hplaces : ∀ i (hi : i < l.length), cyclePlace pointer l[i] = k + i) (h : Served pointer further first left j k sh) :
    Served pointer further first left j (k + l.length) (l.foldl (secondVisit demand) sh) := by
  induction l generalizing k sh with
  | nil => exact h
  | cons p l ih =>
    have hp : cyclePlace pointer p = k := hplaces 0 (by simp)
    subst hp
    have hnext : ∀ i (hi : i < l.length), cyclePlace pointer l[i] = cyclePlace pointer p + 1 + i := fun i hi => by
      have := hplaces (i + 1) (by simpa using hi)
      rw [List.getElem_cons_succ] at this
      omega
    have := ih hnext (h.visit hfurther)
    rw [List.foldl_cons, List.length_cons]
    rwa [Nat.add_assoc, Nat.add_comm 1] at this

/-- A round of pass 2. -/
theorem Served.round (hfurther : FurtherOf demand first further) {j : Nat} {sh : Share}
    (h : Served pointer further first left j 0 sh) :
    Served pointer further first left (j + 1) 0 ((cycleFrom pointer).foldl (secondVisit demand) sh) := by
  have hround := h.visits hfurther (cycleFrom pointer) fun i hi => by rw [cyclePlace_cycleFrom]; omega
  rw [show 0 + (cycleFrom pointer).length = 16 from by simp [cycleFrom, allPedestals]] at hround
  obtain ⟨hleft, hgrants, hlast, hnone⟩ := hround
  rw [furtherBefore_round] at hleft hlast hnone
  refine ⟨hleft, fun p => ?_, hlast, hnone⟩
  have := hgrants p
  rwa [if_pos (cyclePlace_lt pointer p)] at this

/-- The rounds of pass 2. -/
theorem Served.rounds (hfurther : FurtherOf demand first further) (n : Nat) {j : Nat} {sh : Share}
    (h : Served pointer further first left j 0 sh) :
    Served pointer further first left (j + n) 0 (secondPass demand (cycleFrom pointer) n sh) := by
  induction n generalizing j sh with
  | zero => exact h
  | succ n ih =>
    have := ih (h.round hfurther)
    rwa [Nat.add_assoc, Nat.add_comm 1] at this

end

end

/-! ### The share -/

section
variable (sessions : List Pedestal) (demand : Pedestal → Nat) (pointer : Pedestal) (budget : Nat)

/-- The modules that a pedestal asks for in pass 2. -/
def furtherDemand (p : Pedestal) : Nat := if servedFirst demand sessions budget p then demand p - 1 else 0

/-- The modules that pass 1 leaves. -/
def leftForSecond : Nat := budget - sumOver fun p => (servedFirst demand sessions budget p).toNat

/-- A pedestal served in pass 1 has a demand. -/
theorem furtherOf_furtherDemand :
    FurtherOf demand (servedFirst demand sessions budget) (furtherDemand sessions demand budget) := by
  intro p
  unfold furtherDemand
  refine ⟨fun h => ?_, fun h => by rw [h]; rfl⟩
  have hpos : 1 ≤ demand p := by
    simp only [servedFirst, Bool.and_eq_true, decide_eq_true_eq] at h
    exact h.1.2
  rw [if_pos h]
  omega

/-- Pass 1 keeps the sum of what is granted and what is left. -/
theorem firstPass_total (hnodup : sessions.Nodup) :
    let t := sessions.foldl (firstVisit demand) { grants := Vector.replicate 16 0, left := budget, last := none }
    t.total + t.left = budget := by
  suffices h : ∀ (l : List Pedestal) (sh : Share), l.Nodup → (∀ p ∈ l, sh.grants[p.val] = 0) →
      (l.foldl (firstVisit demand) sh).total + (l.foldl (firstVisit demand) sh).left = sh.total + sh.left by
    have hzero : (Share.mk (Vector.replicate 16 0) budget none).total = 0 := by
      simp [Share.total]
    exact (h sessions _ hnodup fun p _ => by simp).trans (by rw [hzero, Nat.zero_add])
  intro l
  induction l with
  | nil => intro sh _ _; rfl
  | cons p l ih =>
    intro sh hl hgrants
    obtain ⟨hp, hl⟩ := List.nodup_cons.1 hl
    rw [List.foldl_cons, ih _ hl]
    · have hsum := sum_set_succ sh.grants p 1
      rw [hgrants p (by simp)] at hsum
      unfold firstVisit Share.total
      split
      · simp only; omega
      · rfl
    · intro q hq
      have hne : p.val ≠ q.val := fun e => hp (Fin.ext e ▸ hq)
      have hzero := hgrants q (by simp [hq])
      unfold firstVisit
      split
      · simp [hne, hzero]
      · exact hzero

/-- Where pass 2 stands when it begins. -/
theorem firstPass_served (hnodup : sessions.Nodup) :
    let t := sessions.foldl (firstVisit demand) { grants := Vector.replicate 16 0, left := budget, last := none }
    t.left = leftForSecond sessions demand budget ∧
      Served pointer (furtherDemand sessions demand budget) (servedFirst demand sessions budget)
        (leftForSecond sessions demand budget) 0 0 t := by
  obtain ⟨hgrants, -, hlast⟩ := firstPass_eq demand sessions hnodup { grants := Vector.replicate 16 0, left := budget, last := none }
  have htotal := firstPass_total sessions demand budget hnodup
  intro t
  replace hlast : t.last = none := hlast
  replace hgrants : ∀ p : Pedestal, t.grants[p.val] = if servedFirst demand sessions budget p then 1 else _ := hgrants
  replace htotal : t.total + t.left = budget := htotal
  clear_value t
  have hfirst (p : Pedestal) : t.grants[p.val] = (servedFirst demand sessions budget p).toNat := by
    rw [hgrants p]
    cases servedFirst demand sessions budget p <;> simp
  have hzero : furtherBefore pointer (furtherDemand sessions demand budget) 0 0 = 0 := by
    exact sum_map_zero fun q _ => by simp
  have hleft : t.left = leftForSecond sessions demand budget := by
    have hsum : t.total = sumOver fun p => (servedFirst demand sessions budget p).toNat := by
      rw [Share.total, sum_toList]
      exact congrArg sumOver (funext hfirst)
    unfold leftForSecond
    rw [← hsum]
    exact Nat.eq_sub_of_add_eq' htotal
  refine ⟨hleft, Served.mk (by rw [hzero, Nat.sub_zero]; exact hleft) (fun p => ?_) (fun p i _ h => ?_) fun _ => hlast⟩
  · simpa using hfirst p
  · rw [hzero] at h; omega

/-- Where pass 2 stands when it ends. -/
theorem shareBudget_served (hnodup : sessions.Nodup) :
    Served pointer (furtherDemand sessions demand budget) (servedFirst demand sessions budget)
      (leftForSecond sessions demand budget) (leftForSecond sessions demand budget) 0
      (shareBudget sessions demand pointer budget) := by
  obtain ⟨hleft, hserved⟩ := firstPass_served sessions demand pointer budget hnodup
  have := hserved.rounds (furtherOf_furtherDemand sessions demand budget) (leftForSecond sessions demand budget)
  rw [Nat.zero_add] at this
  unfold shareBudget
  simp only
  rw [hleft]
  exact this

/-- Where modules are left by pass 1, it has served every session with a demand. -/
theorem servedFirst_of_left (hnodup : sessions.Nodup) (hleft : 0 < leftForSecond sessions demand budget) (p : Pedestal) :
    servedFirst demand sessions budget p = (sessions.contains p && decide (1 ≤ demand p)) := by
  have hcount : (sessions.filter fun q => decide (1 ≤ demand q)).length < budget := by
    obtain ⟨-, hfold, -⟩ :=
      firstPass_eq demand sessions hnodup { grants := Vector.replicate 16 0, left := budget, last := none }
    obtain ⟨heq, -⟩ := firstPass_served sessions demand 0 budget hnodup
    rw [heq] at hfold
    simp only at hfold
    omega
  have hearlier : earlierSessions demand sessions p < budget :=
    Nat.lt_of_le_of_lt ((List.takeWhile_sublist _).filter _).length_le hcount
  rw [servedFirst, decide_eq_true hearlier, Bool.and_true]

/-- Each pedestal has its first module where pass 1 served it, and each further one with few enough in front of it. -/
theorem grants_shareBudget_eq (hnodup : sessions.Nodup) (p : Pedestal) :
    (shareBudget sessions demand pointer budget).grants[p.val] =
      (servedFirst demand sessions budget p).toNat +
        ((List.range (furtherDemand sessions demand budget p)).filter fun j =>
          decide (furtherBefore pointer (furtherDemand sessions demand budget) j (cyclePlace pointer p) <
            min (leftForSecond sessions demand budget) (sumOver (furtherDemand sessions demand budget)))).length := by
  rw [(shareBudget_served sessions demand pointer budget hnodup).grants_eq p, if_neg (Nat.not_lt_zero _)]
  refine congrArg _ (length_eq_of_mem_iff (List.nodup_range.filter _) (List.nodup_range.filter _) fun i => ?_)
  simp only [List.mem_filter, List.mem_range, Bool.and_eq_true, decide_eq_true_eq, Nat.lt_min]
  constructor
  · rintro ⟨-, hask, hbound⟩
    exact ⟨hask, hbound, (furtherBefore_bounds pointer _ hask).2⟩
  · rintro ⟨hask, hbound, -⟩
    exact ⟨Nat.lt_of_le_of_lt (furtherBefore_bounds pointer _ hask).1 hbound, hask, hbound⟩

/-- As many rounds as modules left serve everyone, or leave none. -/
theorem min_left_furtherBefore :
    min (leftForSecond sessions demand budget)
        (furtherBefore pointer (furtherDemand sessions demand budget) (leftForSecond sessions demand budget) 0) =
      min (leftForSecond sessions demand budget) (sumOver (furtherDemand sessions demand budget)) := by
  have hle : furtherBefore pointer (furtherDemand sessions demand budget) (leftForSecond sessions demand budget) 0 ≤
      sumOver (furtherDemand sessions demand budget) := sumOver_mono fun q => by simp [Nat.min_le_left]
  by_cases hfull : ∀ q, furtherDemand sessions demand budget q ≤ leftForSecond sessions demand budget
  · have heq : furtherBefore pointer (furtherDemand sessions demand budget) (leftForSecond sessions demand budget) 0 =
        sumOver (furtherDemand sessions demand budget) := congrArg sumOver (funext fun q => by simp [hfull q])
    rw [heq]
  · obtain ⟨q, hq⟩ := Classical.not_forall.1 hfull
    have hbound := (furtherBefore_bounds pointer _ (Nat.lt_of_not_le hq)).1
    have hmono := furtherBefore_lt pointer _ (k := cyclePlace pointer q) (p := q) (i := 0) (j := leftForSecond sessions demand budget)
      (Nat.zero_lt_of_lt (Nat.lt_of_not_le hq))
    have hterm : min (furtherDemand sessions demand budget q) (leftForSecond sessions demand budget) + _ ≤
        furtherBefore pointer (furtherDemand sessions demand budget) (leftForSecond sessions demand budget) 0 :=
      le_sumOver (fun p => min (furtherDemand sessions demand budget p) (leftForSecond sessions demand budget) +
        (decide (cyclePlace pointer p < 0) &&
          decide (leftForSecond sessions demand budget < furtherDemand sessions demand budget p)).toNat) q
    omega

/-- Where pass 1 leaves more modules than are asked for in pass 2, every session has its demand. -/
theorem grants_of_plenty (hnodup : sessions.Nodup)
    (h : sumOver (furtherDemand sessions demand budget) < leftForSecond sessions demand budget) (p : Pedestal) :
    (shareBudget sessions demand pointer budget).grants[p.val] = if p ∈ sessions then demand p else 0 := by
  have heach : ((List.range (furtherDemand sessions demand budget p)).filter fun j =>
      decide (furtherBefore pointer (furtherDemand sessions demand budget) j (cyclePlace pointer p) <
        min (leftForSecond sessions demand budget) (sumOver (furtherDemand sessions demand budget)))) =
      List.range (furtherDemand sessions demand budget p) := by
    refine List.filter_eq_self.2 fun j hj => ?_
    have hbound := (furtherBefore_bounds pointer _ (List.mem_range.1 hj)).2
    exact decide_eq_true (Nat.lt_min.2 ⟨Nat.lt_trans hbound h, hbound⟩)
  rw [grants_shareBudget_eq sessions demand pointer budget hnodup p, heach, List.length_range, furtherDemand,
    servedFirst_of_left sessions demand budget hnodup (Nat.zero_lt_of_lt h) p]
  by_cases hp : p ∈ sessions
  · by_cases hd : 1 ≤ demand p <;> simp [hp, hd] <;> omega
  · simp [hp]

/-- A share grants the whole budget, or every session its demand (R93). -/
theorem sum_shareBudget (hnodup : sessions.Nodup) :
    (sumOver fun p => (shareBudget sessions demand pointer budget).grants[p.val]) =
      min budget (sumOver fun p => if p ∈ sessions then demand p else 0) := by
  have hserved := shareBudget_served sessions demand pointer budget hnodup
  have htotal : (sumOver fun p => (shareBudget sessions demand pointer budget).grants[p.val]) +
      (shareBudget sessions demand pointer budget).left = budget := by
    rw [← sum_toList]
    refine (total_secondPass demand (cycleFrom pointer) _ _).trans ?_
    exact firstPass_total sessions demand budget hnodup
  have hwithin (p : Pedestal) : (shareBudget sessions demand pointer budget).grants[p.val] ≤
      if p ∈ sessions then demand p else 0 := by
    by_cases hp : p ∈ sessions
    · rw [if_pos hp]; exact grants_shareBudget sessions demand pointer budget p
    · have hcontains : sessions.contains p = false := by simpa using hp
      have hnone : servedFirst demand sessions budget p = false := by rw [servedFirst, hcontains]; rfl
      rw [grants_shareBudget_eq sessions demand pointer budget hnodup p, furtherDemand, hnone]
      simp
  have hle := sumOver_mono hwithin
  by_cases hleft : (shareBudget sessions demand pointer budget).left = 0
  · omega
  · have hmin := min_left_furtherBefore sessions demand pointer budget
    have hrest := hserved.left_eq
    have hall : sumOver (furtherDemand sessions demand budget) < leftForSecond sessions demand budget := by omega
    have heq := congrArg sumOver (funext (grants_of_plenty sessions demand pointer budget hnodup hall))
    omega

end

/-- Settles O21: pass 1 by induction over the sessions, pass 2 by what each visit finds in front of it. -/
theorem budgetIsSharedInTwoPasses : Obligations.BudgetIsSharedInTwoPasses := by
  intro sessions demand pointer budget hnodup
  have hserved := shareBudget_served sessions demand pointer budget hnodup
  have hmin := min_left_furtherBefore sessions demand pointer budget
  refine ⟨grants_shareBudget_eq sessions demand pointer budget hnodup, fun p j hj hlast => ?_, fun hzero => ?_,
    grants_shareBudget sessions demand pointer budget, sum_shareBudget sessions demand pointer budget hnodup⟩
  · exact hserved.last_eq p j hj (hlast.trans hmin.symm)
  · exact hserved.last_none (hmin.trans hzero)

end Sys2Proof.Machine
end

section
/-! # The passes of the Apportioner (R91 to R99)

A pass writes allotments, module records and orders, and nothing else; so each of its runs over the pedestals is one change of the
Allotment Table and of the pool with the orders placed in turn (`State.repowered`). No module is held for two pedestals, so the releases
of one pedestal leave those of the next as they were. -/

namespace Sys2Proof.Machine

/-! ### Changes of the allotments and of the pool -/

/-- The state with every allotment and every module's record replaced and orders placed in turn. -/
def State.repowered (s : State) (a : Pedestal → Allotment) (g : ModuleNo → ModuleRecord) (os : List Order) : State :=
  { s with
    alloc := { s.alloc with entries := Vector.ofFn a }
    modules := Vector.ofFn g
    field := { s.field with queue := os.foldl placed s.field.queue } }

section
variable (s : State) (a : Pedestal → Allotment) (g : ModuleNo → ModuleRecord) (os : List Order)

/-- The allotments are those given. -/
@[simp] theorem allot_repowered (p : Pedestal) : (s.repowered a g os).allot p = a p := by simp [State.allot, State.repowered]

/-- The records are those given. -/
@[simp] theorem module_repowered (m : ModuleNo) : (s.repowered a g os).module m = g m := by simp [State.module, State.repowered]

/-- The orders have been placed. -/
theorem queue_repowered : (s.repowered a g os).field.queue = os.foldl placed s.field.queue := rfl

/-- A place is read off the queue. -/
theorem unsentAt_repowered (pl : Place) :
    (s.repowered a g os).unsentAt pl = (os.foldl placed s.field.queue).find? fun x => x.place == pl := rfl

/-- The allotments, the pool and the queue alone change. -/
@[simp] theorem repowered_frame :
    (s.repowered a g os).now = s.now ∧ (s.repowered a g os).slots = s.slots ∧ (s.repowered a g os).prot = s.prot ∧
    (s.repowered a g os).control = s.control ∧ (s.repowered a g os).alloc.pAv = s.alloc.pAv ∧
    (s.repowered a g os).alloc.budget = s.alloc.budget ∧ (s.repowered a g os).alloc.pointer = s.alloc.pointer ∧
    (∀ q, (s.repowered a g os).slot q = s.slot q) ∧ (s.repowered a g os).params = s.params ∧
    (∀ q, (s.repowered a g os).rating q = s.rating q) := by
  simp [State.repowered, State.slot, State.params, State.rating]

/-- Of two changes the later stands, and the orders follow one another. -/
theorem repowered_repowered (a' : Pedestal → Allotment) (g' : ModuleNo → ModuleRecord) (os' : List Order) :
    (s.repowered a g os).repowered a' g' os' = s.repowered a' g' (os ++ os') := by
  simp [State.repowered]

/-- The Allotment Table is the table of its entries. -/
theorem ofFn_allot : Vector.ofFn s.allot = s.alloc.entries := by
  ext i hi : 1
  simp [State.allot]

/-- The tables as they stand, and no order, is no change. -/
theorem repowered_self : s.repowered s.allot s.module [] = s := by
  simp [State.repowered, ofFn_allot, ofFn_module]

/-- A change of the pool keeps the allotments. -/
theorem reworked_eq_repowered : s.reworked g os = s.repowered s.allot g os := by
  simp [State.reworked, State.repowered, ofFn_allot]

/-- One allotment written. -/
theorem setAllot_eq_repowered (p : Pedestal) (x : Allotment) :
    s.setAllot p x = s.repowered (fun q => if q = p then x else s.allot q) s.module [] := by
  have hentries : s.alloc.entries.set p.val x = Vector.ofFn fun q => if q = p then x else s.allot q := by
    ext i hi : 1
    by_cases h : p.val = i
    · subst h; simp
    · have hne : (⟨i, hi⟩ : Pedestal) ≠ p := fun e => h (by rw [← e])
      simp [h, hne, State.allot]
  simp [State.repowered, State.setAllot, ofFn_module, hentries]

/-- Every allotment written. -/
theorem mapAllot_eq_repowered (f : Pedestal → Allotment → Allotment) :
    s.mapAllot f = s.repowered (fun p => f p (s.allot p)) s.module [] := by
  simp [State.mapAllot, State.repowered, ofFn_module]

/-- A setpoint that is set is written and, where it changes, ordered. -/
theorem orderSetpoint_eq_repowered (p : Pedestal) (kw : Nat) :
    s.orderSetpoint p kw =
      s.repowered (fun q => if q = p then { s.allot p with setpoint := kw } else s.allot q) s.module (s.setpointOrders p kw) := by
  rw [orderSetpoint_eq, reworked_eq_repowered, setAllot_eq_repowered, repowered_repowered]
  simp only [List.nil_append]
  exact congrArg (fun a => s.repowered a s.module _) (funext fun q => allot_repowered s _ _ [] q)

/-- The releases of a pedestal write its setpoint, the released modules' records and the orders of both. -/
theorem releaseBeyond_eq_repowered (p : Pedestal) (keep : Nat) :
    s.releaseBeyond p keep =
      s.repowered (fun q => if q = p then { s.allot p with setpoint := s.releasedSetpoint p keep } else s.allot q)
        (s.releasedModule p keep) (s.setpointOrders p (s.releasedSetpoint p keep) ++ s.releasedOrders p keep) := by
  rw [releaseBeyond_eq, reworked_eq_repowered, setAllot_eq_repowered, repowered_repowered]
  simp only [List.nil_append]
  exact congrArg (fun a => s.repowered a _ _) (funext fun q => allot_repowered s _ _ [] q)

end

/-! ### Setpoints of several pedestals -/

/-- Setpoints set one after another, each to a value that the others do not change. -/
theorem foldl_orderSetpoint (s : State) (v : State → Pedestal → Nat) (kw : Pedestal → Nat) {l : List Pedestal} (hnodup : l.Nodup)
    (hv : ∀ a os, ∀ p ∈ l, a p = s.allot p → v (s.repowered a s.module os) p = kw p) :
    l.foldl (fun t p => t.orderSetpoint p (v t p)) s =
      s.repowered (fun p => if p ∈ l then { s.allot p with setpoint := kw p } else s.allot p) s.module
        (l.flatMap fun p => s.setpointOrders p (kw p)) := by
  suffices h : ∀ (pre : List Order) (a : Pedestal → Allotment), (∀ p ∈ l, a p = s.allot p) →
      l.foldl (fun t p => t.orderSetpoint p (v t p)) (s.repowered a s.module pre) =
        s.repowered (fun p => if p ∈ l then { s.allot p with setpoint := kw p } else a p) s.module
          (pre ++ l.flatMap fun p => s.setpointOrders p (kw p)) by
    have := h [] s.allot fun _ _ => rfl
    rwa [repowered_self] at this
  induction l with
  | nil => intro pre a _; simp
  | cons p l ih =>
    intro pre a ha
    obtain ⟨hp, hl⟩ := List.nodup_cons.1 hnodup
    have hself := ha p (by simp)
    have horders : (s.repowered a s.module pre).setpointOrders p (kw p) = s.setpointOrders p (kw p) := by
      simp [State.setpointOrders, hself]
    have hpool : (s.repowered a s.module pre).module = s.module := funext (module_repowered s a s.module pre)
    rw [List.foldl_cons, hv a pre p (by simp) hself, orderSetpoint_eq_repowered, horders, hpool, repowered_repowered,
      ih hl (fun a os q hq => hv a os q (by simp [hq]))]
    · rw [List.flatMap_cons, List.append_assoc]
      congr 1
      funext q
      by_cases hq : q = p
      · subst hq; simp [hp, hself]
      · simp [hq]
    · intro q hq
      have hne : q ≠ p := fun e => hp (e ▸ hq)
      simp [hne, ha q (by simp [hq])]

/-! ### The releases of several pedestals (R94) -/

section
variable {s t : State} {p : Pedestal}

/-- The releases of a pedestal are read off the modules that it holds. -/
theorem releases_congr (hheld : ∀ n, (t.module n).heldFor p = (s.module n).heldFor p)
    (hsame : ∀ n, (s.module n).heldFor p = true → t.module n = s.module n) (keep : Nat) (m : ModuleNo) :
    t.releases p keep m = s.releases p keep m := by
  have hcount : t.heldCount p = s.heldCount p := by simp only [State.heldCount, hheld]
  unfold State.releases
  rw [hheld m, hcount]
  cases hm : (s.module m).heldFor p with
  | false => rfl
  | true =>
    have hahead : t.releasedAhead p m = s.releasedAhead p m := by
      unfold State.releasedAhead
      congr 1
      apply List.filter_congr
      intro n _
      rw [hheld n, hsame m hm]
      cases hn : (s.module n).heldFor p with
      | false => rfl
      | true => rw [hsame n hn]
    rw [hahead]

/-- The modules released from a state are read off the modules that the pedestal holds. -/
theorem releasedFrom_congr (hheld : ∀ n, (t.module n).heldFor p = (s.module n).heldFor p)
    (hsame : ∀ n, (s.module n).heldFor p = true → t.module n = s.module n) (keep : Nat) (st : ModuleState) :
    t.releasedFrom p keep st = s.releasedFrom p keep st := by
  unfold State.releasedFrom
  apply List.filter_congr
  intro m _
  rw [releases_congr hheld hsame]
  cases hr : s.releases p keep m with
  | false => rfl
  | true =>
    have hm : (s.module m).heldFor p = true := by
      simp only [State.releases, Bool.and_eq_true] at hr
      exact hr.1
    rw [hsame m hm]

/-- The orders of the releases are read off the modules that the pedestal holds. -/
theorem releasedOrders_congr (hheld : ∀ n, (t.module n).heldFor p = (s.module n).heldFor p)
    (hsame : ∀ n, (s.module n).heldFor p = true → t.module n = s.module n) (keep : Nat) :
    t.releasedOrders p keep = s.releasedOrders p keep := by
  simp only [State.releasedOrders, releasedFrom_congr hheld hsame]

/-- A released module is one that the pedestal holds. -/
theorem held_of_releases {keep : Nat} {m : ModuleNo} (h : s.releases p keep m = true) : (s.module m).heldFor p = true := by
  simp only [State.releases, Bool.and_eq_true] at h
  exact h.1

/-- A held module names its pedestal. -/
theorem assigned_of_held {r : ModuleRecord} (h : r.heldFor p = true) : r.assigned = some p :=
  ((ModuleRecord.heldFor_iff p r).1 h).1

/-- A release keeps the pedestal that the module names. -/
theorem assigned_releasedRecord (s : State) (m : ModuleNo) : (s.releasedRecord m).assigned = (s.module m).assigned := by
  unfold State.releasedRecord
  split <;> rfl

end

section
variable (s : State)

/-- A module's record once several pedestals' modules beyond their counts have been released, from a record for the modules that are not. -/
def State.excessModule (keep : Pedestal → Nat) (l : List Pedestal) (g : ModuleNo → ModuleRecord) (m : ModuleNo) : ModuleRecord :=
  if ∃ p ∈ l, s.releases p (keep p) m = true then s.releasedRecord m else g m

/-- The modules that a pedestal may keep in a pass. -/
def State.granted (p : Pedestal) : Nat := (s.allot p).grant

/-- The allotments once several pedestals' excess over their grants has been released. -/
def State.excessAllot (l : List Pedestal) (a : Pedestal → Allotment) (p : Pedestal) : Allotment :=
  if p ∈ l then { s.allot p with setpoint := s.releasedSetpoint p (s.allot p).grant } else a p

/-- The orders of a pedestal's excess over its grant. -/
def State.excessOrders (p : Pedestal) : List Order :=
  s.setpointOrders p (s.releasedSetpoint p (s.allot p).grant) ++ s.releasedOrders p (s.allot p).grant

/-- A pedestal's excess is released as the state before the others' releases says. -/
theorem releaseBeyond_repowered (p : Pedestal) (a : Pedestal → Allotment) (g : ModuleNo → ModuleRecord) (pre : List Order)
    (ha : a p = s.allot p) (hassigned : ∀ m, (g m).assigned = (s.module m).assigned)
    (hsame : ∀ m, (s.module m).assigned = some p → g m = s.module m) :
    (s.repowered a g pre).releaseBeyond p ((s.repowered a g pre).allot p).grant =
      s.repowered (s.excessAllot [p] a) (s.excessModule s.granted [p] g) (pre ++ s.excessOrders p) := by
  have hheld (n : ModuleNo) : ((s.repowered a g pre).module n).heldFor p = (s.module n).heldFor p := by
    rw [module_repowered]
    by_cases hn : (s.module n).assigned = some p
    · rw [hsame n hn]
    · rw [Bool.eq_false_iff.2 fun h => hn (assigned_of_held h),
        Bool.eq_false_iff.2 fun h => hn ((hassigned n).symm.trans (assigned_of_held h))]
  have hkept (n : ModuleNo) (hn : (s.module n).heldFor p = true) : (s.repowered a g pre).module n = s.module n := by
    rw [module_repowered, hsame n (assigned_of_held hn)]
  have hreleased : (s.repowered a g pre).releasedModule p (s.allot p).grant = s.excessModule s.granted [p] g := by
    funext m
    rw [State.releasedModule, releases_congr hheld hkept, module_repowered, State.excessModule]
    by_cases hr : s.releases p (s.allot p).grant m = true
    · rw [if_pos hr, if_pos ⟨p, by simp, hr⟩, State.releasedRecord, State.releasedRecord, hkept m (held_of_releases hr)]
      rfl
    · rw [if_neg hr, if_neg (by simpa [State.granted] using hr)]
  have hsetpoint : (s.repowered a g pre).releasedSetpoint p (s.allot p).grant = s.releasedSetpoint p (s.allot p).grant := by
    simp only [State.releasedSetpoint, releasedFrom_congr hheld hkept, allot_repowered, ha, repowered_frame]
  have horders : (s.repowered a g pre).setpointOrders p (s.releasedSetpoint p (s.allot p).grant) =
      s.setpointOrders p (s.releasedSetpoint p (s.allot p).grant) := by
    simp only [State.setpointOrders, allot_repowered, ha]
  have hallot : (fun q => if q = p then
        ({ (s.repowered a g pre).allot p with setpoint := s.releasedSetpoint p (s.allot p).grant } : Allotment)
      else (s.repowered a g pre).allot q) = s.excessAllot [p] a := by
    funext q
    by_cases hq : q = p
    · subst hq; simp [State.excessAllot, ha]
    · simp [State.excessAllot, hq]
  rw [allot_repowered, ha, releaseBeyond_eq_repowered, hreleased, hsetpoint, hallot, horders, releasedOrders_congr hheld hkept,
    repowered_repowered]
  rfl

/-- Releases run through one list behind another. -/
theorem excessModule_excessModule (p : Pedestal) (l : List Pedestal) (g : ModuleNo → ModuleRecord) :
    s.excessModule s.granted l (s.excessModule s.granted [p] g) = s.excessModule s.granted (p :: l) g := by
  funext m
  by_cases hl : ∃ q ∈ l, s.releases q (s.granted q) m = true
  · simp [State.excessModule, hl]
  · by_cases hp : s.releases p (s.granted p) m = true <;> simp [State.excessModule, hl, hp]

/-- Allotments written through one list behind another. -/
theorem excessAllot_excessAllot (p : Pedestal) (l : List Pedestal) (a : Pedestal → Allotment) :
    s.excessAllot l (s.excessAllot [p] a) = s.excessAllot (p :: l) a := by
  funext q
  by_cases hq : q = p
  · subst hq; simp [State.excessAllot]
  · simp [State.excessAllot, hq]

/-- The releases of several pedestals' excess, one after another. -/
theorem foldl_releaseBeyond {l : List Pedestal} (hnodup : l.Nodup) (pre : List Order) (a : Pedestal → Allotment)
    (g : ModuleNo → ModuleRecord) (ha : ∀ p ∈ l, a p = s.allot p) (hassigned : ∀ m, (g m).assigned = (s.module m).assigned)
    (hsame : ∀ m, ∀ p ∈ l, (s.module m).assigned = some p → g m = s.module m) :
    l.foldl (fun t p => t.releaseBeyond p (t.allot p).grant) (s.repowered a g pre) =
      s.repowered (s.excessAllot l a) (s.excessModule s.granted l g) (pre ++ l.flatMap s.excessOrders) := by
  induction l generalizing pre a g with
  | nil =>
    have hallot : s.excessAllot [] a = a := by funext p; simp [State.excessAllot]
    have hpool : s.excessModule s.granted [] g = g := by funext m; simp [State.excessModule]
    rw [List.foldl_nil, hallot, hpool, List.flatMap_nil, List.append_nil]
  | cons p l ih =>
    obtain ⟨hp, hl⟩ := List.nodup_cons.1 hnodup
    rw [List.foldl_cons, releaseBeyond_repowered s p a g pre (ha p (by simp)) hassigned fun m hm => hsame m p (by simp) hm, ih hl,
      excessAllot_excessAllot, excessModule_excessModule, List.flatMap_cons, List.append_assoc]
    · intro q hq
      have hne : q ≠ p := fun e => hp (e ▸ hq)
      simp [State.excessAllot, hne, ha q (by simp [hq])]
    · intro m
      unfold State.excessModule
      split
      · exact assigned_releasedRecord s m
      · exact hassigned m
    · intro m q hq hm
      have hr : ¬ ∃ r ∈ [p], s.releases r (s.granted r) m = true := by
        rintro ⟨r, hr, hrel⟩
        rw [List.mem_singleton.1 hr] at hrel
        rw [assigned_of_held (held_of_releases hrel)] at hm
        exact hp (Option.some.inj hm ▸ hq)
      rw [State.excessModule, if_neg hr]
      exact hsame m q (by simp [hq]) hm

/-- The releases of every pedestal's excess. -/
theorem releaseExcess_eq :
    s.releaseExcess =
      s.repowered (s.excessAllot allPedestals s.allot) (s.excessModule s.granted allPedestals s.module) (allPedestals.flatMap s.excessOrders) := by
  have h := foldl_releaseBeyond s allPedestals_nodup [] s.allot s.module (fun _ _ => rfl) (fun _ => rfl) fun _ _ _ _ => rfl
  rw [repowered_self] at h
  exact h

/-- A module that a pedestal holds, once the excess has been released. -/
theorem excessModule_of_held (keep : Pedestal → Nat) {p : Pedestal} {m : ModuleNo} (h : (s.module m).heldFor p = true) :
    s.excessModule keep allPedestals s.module m = s.releasedModule p (keep p) m := by
  have hiff : (∃ q ∈ allPedestals, s.releases q (keep q) m = true) ↔ s.releases p (keep p) m = true := by
    refine ⟨fun ⟨q, _, hq⟩ => ?_, fun hp => ⟨p, mem_allPedestals p, hp⟩⟩
    have hqp : q = p := Option.some.inj ((assigned_of_held (held_of_releases hq)).symm.trans (assigned_of_held h))
    rwa [hqp] at hq
  rw [State.excessModule, State.releasedModule]
  simp only [hiff]

/-- A module that no pedestal holds is not released. -/
theorem excessModule_of_not_held (keep : Pedestal → Nat) {m : ModuleNo} (h : ∀ p, (s.module m).heldFor p = false) :
    s.excessModule keep allPedestals s.module m = s.module m := by
  rw [State.excessModule, if_neg]
  rintro ⟨p, -, hp⟩
  exact absurd (held_of_releases hp) (by simp [h p])

/-- Which modules are released does not depend on the allotments. -/
theorem excessModule_repowered (keep : Pedestal → Nat) (a : Pedestal → Allotment) (os : List Order) (l : List Pedestal)
    (g : ModuleNo → ModuleRecord) :
    (s.repowered a s.module os).excessModule keep l g = s.excessModule keep l g := by
  have hheld (p : Pedestal) (n : ModuleNo) : ((s.repowered a s.module os).module n).heldFor p = (s.module n).heldFor p := by
    rw [module_repowered]
  funext m
  simp only [State.excessModule, fun p => releases_congr (hheld p) fun n _ => module_repowered s a s.module os n,
    State.releasedRecord, module_repowered]
  rfl

/-- Which orders the releases place does not depend on the allotments. -/
theorem releasedOrders_repowered (a : Pedestal → Allotment) (os : List Order) (p : Pedestal) (keep : Nat) :
    (s.repowered a s.module os).releasedOrders p keep = s.releasedOrders p keep :=
  releasedOrders_congr (fun n => by rw [module_repowered]) (fun n _ => module_repowered s a s.module os n) keep

/-- The orders of several pedestals' releases are of different places, and none is a setpoint. -/
theorem flatMap_releasedOrders_nodup (keep : Pedestal → Nat) :
    ((allPedestals.flatMap fun p => s.releasedOrders p (keep p)).map Order.place).Nodup := by
  have heach (p : Pedestal) : ((s.releasedOrders p (keep p)).map Order.place).Nodup := by
    have h := releasedOrders_places s p (keep p)
    rw [List.map_append] at h
    exact (List.nodup_append.1 h).2.1
  rw [List.map_flatMap]
  refine nodup_flatMap_of_apart (fun p _ => heach p) (allPedestals_nodup.imp fun {p q} hne pl hp hq => ?_)
  obtain ⟨o, ho, rfl⟩ := List.mem_map.1 hp
  obtain ⟨o', ho', hplace⟩ := List.mem_map.1 hq
  obtain ⟨m, hm, ho⟩ := (mem_releasedOrders s p (keep p)).1 ho
  obtain ⟨n, hn, ho'⟩ := (mem_releasedOrders s q (keep q)).1 ho'
  have hmn : n = m := by
    rcases ho with ⟨-, rfl⟩ | ⟨-, rfl⟩ <;> rcases ho' with ⟨-, rfl⟩ | ⟨-, rfl⟩ <;> exact Place.module.inj hplace
  subst hmn
  exact hne (Option.some.inj ((assigned_of_held (held_of_releases hm)).symm.trans (assigned_of_held (held_of_releases hn))))

/-- What a place holds once the releases of all pedestals have been ordered. -/
theorem find_releases (keep : Pedestal → Nat) (q : List Order) (m : ModuleNo) :
    ((∃ p, s.releases p (keep p) m = true ∧ (s.module m).state ≠ .contactClose) →
      ((allPedestals.flatMap fun p => s.releasedOrders p (keep p)).foldl placed q).find? (fun x => x.place == .module m) =
        s.releasedOrder m) ∧
    ((∀ p, s.releases p (keep p) m = false) ∨ (s.module m).state = .contactClose →
      ((allPedestals.flatMap fun p => s.releasedOrders p (keep p)).foldl placed q).find? (fun x => x.place == .module m) =
        q.find? fun x => x.place == .module m) := by
  refine ⟨fun ⟨p, hrel, hstate⟩ => ?_, fun h => ?_⟩
  · have hfound {o : Order} (ho : o ∈ s.releasedOrders p (keep p)) :=
      find_foldl_placed_of_mem (flatMap_releasedOrders_nodup s keep) (List.mem_flatMap.2 ⟨p, mem_allPedestals p, ho⟩) q
    rcases ((ModuleRecord.heldFor_iff p (s.module m)).1 (held_of_releases hrel)).2 with hst | ⟨hst, -⟩ | hst
    · have h := hfound ((mem_releasedOrders s p (keep p)).2 ⟨m, hrel, Or.inl ⟨hst, rfl⟩⟩)
      rw [State.releasedOrder, hst]
      exact h
    · exact absurd hst hstate
    · have h := hfound ((mem_releasedOrders s p (keep p)).2 ⟨m, hrel, Or.inr ⟨hst, rfl⟩⟩)
      rw [State.releasedOrder, hst]
      exact h
  · refine find_foldl_placed_of_not_mem (fun o ho hplace => ?_) q
    obtain ⟨p, -, ho⟩ := List.mem_flatMap.1 ho
    obtain ⟨n, hrel, ho⟩ := (mem_releasedOrders s p (keep p)).1 ho
    have hn : n = m := by
      rcases ho with ⟨-, rfl⟩ | ⟨-, rfl⟩ <;> exact Place.module.inj hplace
    subst hn
    rcases h with h | h
    · rw [h p] at hrel; cases hrel
    · rcases ho with ⟨hst, -⟩ | ⟨hst, -⟩ <;> rw [h] at hst <;> cases hst

/-- A place that is no module's keeps what it holds while releases are ordered. -/
theorem find_releases_other (keep : Pedestal → Nat) (q : List Order) {pl : Place} (h : ∀ m, pl ≠ .module m) :
    ((allPedestals.flatMap fun p => s.releasedOrders p (keep p)).foldl placed q).find? (fun x => x.place == pl) =
      q.find? fun x => x.place == pl := by
  refine find_foldl_placed_of_not_mem (fun o ho hplace => ?_) q
  obtain ⟨p, -, ho⟩ := List.mem_flatMap.1 ho
  obtain ⟨n, -, ⟨-, rfl⟩ | ⟨-, rfl⟩⟩ := (mem_releasedOrders s p (keep p)).1 ho <;> exact h n hplace.symm

end

end Sys2Proof.Machine
end

section
/-! # The reduction pass, and the caps (R98, R99, R105, R106)

The reduction pass recomputes the grants from the recorded demands, lowers the setpoints to them, and then releases the excess: by then no
setpoint is above its grant's power, so the releases lower none. -/

namespace Sys2Proof.Machine

/-! ### The reduction pass (R99) -/

section
variable (s : State)

/-- A pedestal's grant behind a reduction pass. -/
def State.reducedGrant (p : Pedestal) : Nat :=
  min (s.allot p).grant
    (shareBudget s.runningBySession (fun p => (s.allot p).demand) s.alloc.pointer s.alloc.budget).grants[p.val]

/-- The power of a pedestal's grant behind a reduction pass. -/
def State.reducedLimit (p : Pedestal) : Nat := s.reducedGrant p * s.control.record.rating

/-- A pedestal's allotment behind a reduction pass. -/
def State.reducedAllot (p : Pedestal) : Allotment :=
  { s.allot p with grant := s.reducedGrant p, setpoint := min (s.allot p).setpoint (s.reducedLimit p) }

/-- The setpoint orders of a reduction pass. -/
def State.reducedSetpoints : List Order :=
  allPedestals.flatMap fun p => s.setpointOrders p (min (s.allot p).setpoint (s.reducedLimit p))

/-- The release orders of a reduction pass. -/
def State.reducedReleases : List Order := allPedestals.flatMap fun p => s.releasedOrders p (s.reducedGrant p)

/-- The grants fall, and no setpoint or module changes with them. -/
theorem reduceGrants_eq :
    s.reduceGrants = s.repowered (fun p => { s.allot p with grant := s.reducedGrant p }) s.module [] := by
  simp only [State.reduceGrants, mapAllot_eq_repowered, State.reducedGrant]

/-- The setpoints fall to the power of the grants. -/
theorem reduceSetpoints_reduceGrants :
    s.reduceGrants.reduceSetpoints = s.repowered s.reducedAllot s.module s.reducedSetpoints := by
  have hfold := foldl_orderSetpoint s.reduceGrants
    (fun t p => min (t.allot p).setpoint (t.modulePower (t.allot p).grant))
    (fun p => min (s.allot p).setpoint (s.reducedLimit p)) allPedestals_nodup fun a os p _ ha => by
      simp [ha, State.modulePower, reduceGrants_eq, State.reducedLimit]
  have hreduce : s.reduceGrants.reduceSetpoints =
      allPedestals.foldl (fun t p => t.orderSetpoint p (min (t.allot p).setpoint (t.modulePower (t.allot p).grant)))
        s.reduceGrants := rfl
  have hallot : (fun p => if p ∈ allPedestals then
      ({ s.reduceGrants.allot p with setpoint := min (s.allot p).setpoint (s.reducedLimit p) } : Allotment)
      else s.reduceGrants.allot p) = s.reducedAllot := by
    funext p
    simp [reduceGrants_eq, State.reducedAllot]
  have hpool : s.reduceGrants.module = s.module := by
    funext m
    simp [reduceGrants_eq]
  have horders (p : Pedestal) (kw : Nat) : s.reduceGrants.setpointOrders p kw = s.setpointOrders p kw := by
    simp [State.setpointOrders, reduceGrants_eq]
  rw [hreduce, hfold, hallot, hpool]
  simp only [horders]
  rw [reduceGrants_eq, repowered_repowered]
  rfl

/-- A reduction pass is one change of the allotments and of the pool. -/
theorem reductionPass_eq :
    s.reductionPass =
      s.repowered s.reducedAllot (s.excessModule s.reducedGrant allPedestals s.module) (s.reducedSetpoints ++ s.reducedReleases) := by
  have hpool : (s.repowered s.reducedAllot s.module s.reducedSetpoints).module = s.module :=
    funext (module_repowered s s.reducedAllot s.module s.reducedSetpoints)
  have hgranted : (s.repowered s.reducedAllot s.module s.reducedSetpoints).granted = s.reducedGrant := by
    funext p
    simp [State.granted, State.reducedAllot]
  have hlow (p : Pedestal) : (s.repowered s.reducedAllot s.module s.reducedSetpoints).releasedSetpoint p (s.reducedGrant p) =
      (s.reducedAllot p).setpoint := by
    simp [State.releasedSetpoint, State.reducedAllot, State.reducedLimit]
  have hallot : (s.repowered s.reducedAllot s.module s.reducedSetpoints).excessAllot allPedestals
      (s.repowered s.reducedAllot s.module s.reducedSetpoints).allot = s.reducedAllot := by
    funext p
    rw [State.excessAllot, if_pos (mem_allPedestals p), allot_repowered]
    exact congrArg (fun kw => ({ s.reducedAllot p with setpoint := kw } : Allotment)) (hlow p)
  have horders (p : Pedestal) : (s.repowered s.reducedAllot s.module s.reducedSetpoints).excessOrders p =
      s.releasedOrders p (s.reducedGrant p) := by
    have hgrant : ((s.repowered s.reducedAllot s.module s.reducedSetpoints).allot p).grant = s.reducedGrant p := by
      simp [State.reducedAllot]
    rw [State.excessOrders, hgrant, hlow p, releasedOrders_repowered, State.setpointOrders, allot_repowered, if_pos rfl,
      List.nil_append]
  rw [State.reductionPass, reduceSetpoints_reduceGrants, releaseExcess_eq, hallot, hpool, hgranted, excessModule_repowered,
    flatMap_congr_of_mem fun p _ => horders p, repowered_repowered]
  rfl

/-- The allotments behind a reduction pass. -/
theorem allot_reductionPass (p : Pedestal) : s.reductionPass.allot p = s.reducedAllot p := by
  rw [reductionPass_eq, allot_repowered]

/-- The modules' records behind a reduction pass. -/
theorem module_reductionPass (m : ModuleNo) :
    s.reductionPass.module m = s.excessModule s.reducedGrant allPedestals s.module m := by
  rw [reductionPass_eq, module_repowered]

/-- A reduction pass does not look at the host port. -/
theorem reductionPass_withHost (h : HostPort) :
    ({ s with host := h } : State).reductionPass = { s.reductionPass with host := h } := by
  rw [reductionPass_eq, reductionPass_eq]
  rfl

/-! ### Setpoint orders of all pedestals -/

section
variable (kw : Pedestal → Nat)

/-- The setpoint orders of all pedestals are of different places. -/
theorem setpointOrders_nodup : ((allPedestals.flatMap fun p => s.setpointOrders p (kw p)).map Order.place).Nodup := by
  rw [List.map_flatMap]
  refine nodup_flatMap_of_apart (fun p _ => ?_) (allPedestals_nodup.imp fun {p q} hne pl hp hq => ?_)
  · unfold State.setpointOrders
    split <;> simp
  · obtain ⟨o, ho, rfl⟩ := List.mem_map.1 hp
    obtain ⟨o', ho', hplace⟩ := List.mem_map.1 hq
    obtain ⟨-, rfl⟩ := (mem_setpointOrders s p).1 ho
    obtain ⟨-, rfl⟩ := (mem_setpointOrders s q).1 ho'
    exact hne (Place.setpoint.inj hplace).symm

/-- What a setpoint's place holds once the setpoint orders of all pedestals have been placed. -/
theorem find_setpointOrders (q : List Order) (p : Pedestal) :
    ((allPedestals.flatMap fun p => s.setpointOrders p (kw p)).foldl placed q).find? (fun x => x.place == .setpoint p) =
      if kw p = (s.allot p).setpoint then q.find? (fun x => x.place == .setpoint p) else some (.setpoint p (kw p)) := by
  split
  next hsame =>
    refine find_foldl_placed_of_not_mem (fun o ho hplace => ?_) q
    obtain ⟨r, -, ho⟩ := List.mem_flatMap.1 ho
    obtain ⟨hne, rfl⟩ := (mem_setpointOrders s r).1 ho
    rw [Place.setpoint.inj hplace] at hne
    exact hne hsame
  next hne =>
    have hmem : Order.setpoint p (kw p) ∈ allPedestals.flatMap fun p => s.setpointOrders p (kw p) :=
      List.mem_flatMap.2 ⟨p, mem_allPedestals p, (mem_setpointOrders s p).2 ⟨hne, rfl⟩⟩
    exact find_foldl_placed_of_mem (setpointOrders_nodup s kw) hmem q

/-- Every other place keeps what it holds. -/
theorem find_setpointOrders_other (q : List Order) {pl : Place} (h : ∀ p, pl ≠ .setpoint p) :
    ((allPedestals.flatMap fun p => s.setpointOrders p (kw p)).foldl placed q).find? (fun x => x.place == pl) =
      q.find? fun x => x.place == pl := by
  refine find_foldl_placed_of_not_mem (fun o ho hplace => ?_) q
  obtain ⟨r, -, ho⟩ := List.mem_flatMap.1 ho
  obtain ⟨-, rfl⟩ := (mem_setpointOrders s r).1 ho
  exact h r hplace.symm

end

/-- What a setpoint's place holds behind a reduction pass. -/
theorem unsentAt_setpoint_reductionPass (p : Pedestal) :
    s.reductionPass.unsentAt (.setpoint p) =
      if min (s.allot p).setpoint (s.reducedLimit p) = (s.allot p).setpoint then s.unsentAt (.setpoint p)
      else some (.setpoint p (min (s.allot p).setpoint (s.reducedLimit p))) := by
  rw [reductionPass_eq, unsentAt_repowered, List.foldl_append, State.reducedReleases, find_releases_other s _ _ (by simp),
    State.reducedSetpoints, find_setpointOrders]
  rfl

/-- A reduction pass leaves the other-order places. -/
theorem unsentAt_other_reductionPass (p : Pedestal) : s.reductionPass.unsentAt (.other p) = s.unsentAt (.other p) := by
  rw [reductionPass_eq, unsentAt_repowered, List.foldl_append, State.reducedReleases, find_releases_other s _ _ (by simp),
    State.reducedSetpoints, find_setpointOrders_other s _ _ (by simp)]
  rfl

/-- What a module's place holds behind a reduction pass. -/
theorem unsentAt_module_reductionPass (m : ModuleNo) :
    ((∃ p, s.releases p (s.reducedGrant p) m = true) → s.reductionPass.unsentAt (.module m) = s.releasedOrder m) ∧
    ((∀ p, s.releases p (s.reducedGrant p) m = false) → s.reductionPass.unsentAt (.module m) = s.unsentAt (.module m)) := by
  obtain ⟨hreleased, hkept⟩ := find_releases s s.reducedGrant (s.reducedSetpoints.foldl placed s.field.queue) m
  have hbefore : (s.reducedSetpoints.foldl placed s.field.queue).find? (fun x => x.place == .module m) = s.unsentAt (.module m) :=
    find_setpointOrders_other s _ _ (by simp)
  rw [reductionPass_eq, unsentAt_repowered, List.foldl_append]
  refine ⟨fun ⟨p, hp⟩ => ?_, fun h => (hkept (Or.inl h)).trans hbefore⟩
  by_cases hstate : (s.module m).state = .contactClose
  · have horder : s.releasedOrder m = s.unsentAt (.module m) := by rw [State.releasedOrder, hstate]
    exact (hkept (Or.inr hstate)).trans (hbefore.trans horder.symm)
  · exact hreleased ⟨p, hp, hstate⟩

/-- Elements that give one order each where a condition holds, and none elsewhere. -/
theorem flatMap_ite {l : List Pedestal} (c : Pedestal → Bool) (g : Pedestal → Order) :
    (l.flatMap fun p => if c p = true then [g p] else []) = (l.filter c).map g := by
  induction l with
  | nil => rfl
  | cons p l ih => by_cases hc : c p = true <;> simp [hc, ih]

/-- From an empty queue a reduction pass leaves the orders of the lowered setpoints and then those of the releases. -/
theorem queue_reductionPass_of_empty (hempty : s.field.queue = []) :
    s.reductionPass.field.queue =
      ((allPedestals.filter fun p => decide (s.reducedLimit p < (s.allot p).setpoint)).map
        fun p => .setpoint p (s.reducedLimit p)) ++
        allPedestals.flatMap fun p =>
          (s.releasedFrom p (s.reducedGrant p) .precharge).map .openContact ++
            (s.releasedFrom p (s.reducedGrant p) .assigned).map .ramp := by
  have hreleases : s.reducedReleases = allPedestals.flatMap fun p =>
      (s.releasedFrom p (s.reducedGrant p) .precharge).map .openContact ++
        (s.releasedFrom p (s.reducedGrant p) .assigned).map .ramp := by
    simp only [State.reducedReleases, State.releasedOrders]
  have hsetpoints : s.reducedSetpoints =
      (allPedestals.filter fun p => decide (s.reducedLimit p < (s.allot p).setpoint)).map
        fun p => .setpoint p (s.reducedLimit p) := by
    rw [← flatMap_ite]
    refine flatMap_congr_of_mem fun p _ => ?_
    by_cases h : s.reducedLimit p < (s.allot p).setpoint
    · rw [if_pos (decide_eq_true h), State.setpointOrders, Nat.min_eq_right (Nat.le_of_lt h), if_neg (Nat.ne_of_lt h)]
    · rw [if_neg (by simpa using h), State.setpointOrders, Nat.min_eq_left (Nat.le_of_not_lt h), if_pos rfl]
  have hnodup : ((s.reducedSetpoints ++ s.reducedReleases).map Order.place).Nodup := by
    rw [List.map_append]
    refine nodup_append_of_apart (setpointOrders_nodup s _) (flatMap_releasedOrders_nodup s s.reducedGrant) fun pl hset hrel => ?_
    obtain ⟨o, ho, rfl⟩ := List.mem_map.1 hset
    obtain ⟨o', ho', hplace⟩ := List.mem_map.1 hrel
    obtain ⟨p, -, ho⟩ := List.mem_flatMap.1 ho
    obtain ⟨q, -, ho'⟩ := List.mem_flatMap.1 ho'
    obtain ⟨-, rfl⟩ := (mem_setpointOrders s p).1 ho
    obtain ⟨m, -, ⟨-, rfl⟩ | ⟨-, rfl⟩⟩ := (mem_releasedOrders s q (s.reducedGrant q)).1 ho' <;> cases hplace
  rw [reductionPass_eq, queue_repowered, hempty, foldl_placed_of_empty hnodup (by simp), List.nil_append, hsetpoints, hreleases]

end

/-! ### What a pass leaves alone -/

/-- A state that differs from another in the allotments, the pool and the queue. -/
theorem eq_of_repowered {s t : State} {a : Pedestal → Allotment} {g : ModuleNo → ModuleRecord} {os : List Order}
    (h : t = s.repowered a g os) :
    t = { s with
      alloc := { s.alloc with entries := t.alloc.entries }, modules := t.modules
      field := { s.field with queue := t.field.queue } } := by
  subst h
  rfl

/-! ### The caps (R105, R106) -/

section
variable {s : State} {r : HostRecord}

/-- The cap that a request field carries (R186). -/
theorem capOfCode_eq (n : Nat) :
    (500 < n → n ≠ 0xFFFF → capOfCode n = none) ∧
      (n ≤ 500 ∨ n = 0xFFFF → capOfCode n = some (if n = 0xFFFF then none else some n)) := by
  unfold capOfCode Config.powerLimit
  constructor
  · intro hlt hne
    rw [if_neg hne, if_neg (by omega)]
  · intro h
    by_cases hnone : n = 0xFFFF
    · rw [if_pos hnone, if_pos hnone]
    · rw [if_neg hnone, if_neg hnone, if_pos (h.resolve_right hnone)]

/-- A SESSION-CAP for a session that is open, with a cap out of range. -/
theorem sessionCap_of_range {p : Pedestal} {body : List Byte} (hfound : s.findSession (fieldAt body 0 4) = some p)
    (hcap : capOfCode (fieldAt body 4 2) = none) : s.sessionCap body = refuse .range s := by
  simp only [State.sessionCap, hfound, hcap]

/-- A SESSION-CAP that is taken stages the cap. -/
theorem sessionCap_of_found {p : Pedestal} {body : List Byte} {cap : Cap} (hfound : s.findSession (fieldAt body 0 4) = some p)
    (hcap : capOfCode (fieldAt body 4 2) = some cap) :
    s.sessionCap body = accept [] (s.setAllot p { s.allot p with stagedCap := some cap }) := by
  simp only [State.sessionCap, hfound, hcap]

/-- Whether a reduction pass runs, and what it does, does not depend on the host port. -/
theorem considerReduction_withHost (s : State) (h : HostPort) :
    ({ s with host := h } : State).considerReduction = { s.considerReduction with host := h } := by
  have hunfold : ({ s with host := h } : State).considerReduction =
      if s.computedPower < s.alloc.pAv then ({ s.setPower s.computedPower with host := h } : State).reductionPass
      else { s with host := h } := rfl
  rw [hunfold, State.considerReduction]
  split
  · exact reductionPass_withHost (s.setPower s.computedPower) h
  · rfl

/-- A reduction that is considered changes the Apportioner, the pool and the queue alone. -/
theorem considerReduction_keeps (s : State) :
    s.considerReduction =
      { s with
        alloc := s.considerReduction.alloc, modules := s.considerReduction.modules, field := s.considerReduction.field } := by
  by_cases hlt : s.computedPower < s.alloc.pAv
  · rw [considerReduction_of_lt hlt, reductionPass_eq]
    rfl
  · rw [considerReduction_of_le (Nat.le_of_not_lt hlt)]

/-- A CURTAIL, written with the host port apart. -/
theorem curtailTo_withHost (s : State) (h : HostPort) (cap : Nat) :
    ({ s with host := h } : State).curtailTo cap = { s.curtailTo cap with host := h } := by
  unfold State.curtailTo
  by_cases hcap : cap ≤ s.alloc.gridCap
  · rw [if_pos hcap, if_pos hcap]
    exact considerReduction_withHost { s with alloc := { s.alloc with gridCap := cap, stagedGridCap := none } } h
  · rw [if_neg hcap, if_neg hcap]

/-- The head of the queue moves into the buffer, or nothing does. -/
theorem startTransmit_cases (s : State) :
    (∃ o rest, s.field.can = .onBus ∧ s.field.buffer = none ∧ s.field.queue = o :: rest) ∨
      (s.field.can = .busOff ∨ s.field.buffer ≠ none ∨ s.field.queue = []) := by
  cases hcan : s.field.can with
  | busOff => exact Or.inr (Or.inl rfl)
  | onBus =>
    cases hbuffer : s.field.buffer with
    | some o => exact Or.inr (Or.inr (Or.inl (by simp)))
    | none =>
      cases hqueue : s.field.queue with
      | nil => exact Or.inr (Or.inr (Or.inr rfl))
      | cons o rest => exact Or.inl ⟨o, rest, rfl, rfl, rfl⟩

/-- The transmission is read off the field link alone. -/
theorem startTransmit_congr {s t : State} (hfield : t.field = s.field) :
    t.startTransmit = { t with field := s.startTransmit.field } := by
  rcases startTransmit_cases s with ⟨o, rest, hcan, hbuffer, hqueue⟩ | hblocked
  · rw [startTransmit_of_head hcan hbuffer hqueue, startTransmit_of_head (hfield ▸ hcan) (hfield ▸ hbuffer) (hfield ▸ hqueue), hfield]
  · rw [startTransmit_of_blocked hblocked, startTransmit_of_blocked (hfield ▸ hblocked), ← hfield]

end

/-- A transmission changes the field link alone. -/
theorem startTransmit_keeps (s : State) : s.startTransmit = { s with field := s.startTransmit.field } :=
  startTransmit_congr rfl

/-- A CURTAIL changes the Apportioner, the pool and the field link alone. -/
theorem curtailTo_keeps (s : State) (cap : Nat) :
    s.curtailTo cap =
      { s with alloc := (s.curtailTo cap).alloc, modules := (s.curtailTo cap).modules, field := (s.curtailTo cap).field } := by
  unfold State.curtailTo
  split
  · exact considerReduction_keeps { s with alloc := { s.alloc with gridCap := cap, stagedGridCap := none } }
  · rfl

/-- A CURTAIL before commissioning is refused. -/
theorem curtail_of_cold {s : State} {body : List Byte} (hcold : s.control.commissioned = false) :
    s.curtail body = refuse .notCommissioned s := by
  rw [State.curtail, if_pos hcold]

/-- A CURTAIL above the ceiling is refused. -/
theorem curtail_of_above {s : State} {body : List Byte} (hcomm : s.control.commissioned = true)
    (hlt : s.control.record.ceiling < fieldAt body 0 2) : s.curtail body = refuse .range s := by
  rw [State.curtail, if_neg (by simp [hcomm]), if_pos hlt]

/-- A CURTAIL that is taken. -/
theorem curtail_of_taken {s : State} {body : List Byte} (hcomm : s.control.commissioned = true)
    (hle : fieldAt body 0 2 ≤ s.control.record.ceiling) :
    s.dropHead.curtail body = accept [] (({ s with host := s.dropHead.host } : State).curtailTo (fieldAt body 0 2)).startTransmit := by
  have hrange : ¬ s.dropHead.control.record.ceiling < fieldAt body 0 2 := Nat.not_lt.2 hle
  rw [State.curtail, if_neg (by simp [hcomm]), if_neg hrange]
  rfl

/-- Settles O40: the owners' equations for the two requests, and the one change that a reduction pass is. -/
theorem capsAreStagedOrCutAtOnce : Obligations.CapsAreStagedOrCutAtOnce := by
  refine ⟨⟨fun s r h => ?sessionCap, fun s r h => ?curtail⟩, fun s => ?pass⟩
  case sessionCap =>
    refine ⟨fun hnone => ?unknown, fun p e he hn hu => ?known⟩
    case unknown =>
      refine takeRequest_of_refuse (owner := fun r s => s.sessionCap r.body) (code := .unknownSession) h (by decide) ?_
      have hfound : s.dropHead.findSession (fieldAt r.body 0 4) = none := findSession_eq_none.2 hnone
      show s.dropHead.sessionCap r.body = _
      unfold State.sessionCap
      rw [hfound]
    case known =>
      have hfound : s.dropHead.findSession (fieldAt r.body 0 4) = some p := by
        rw [← hn]
        exact findSession_of_unique (s := s.dropHead) he fun q f hq hf => hu q f hq (hf.trans hn)
      obtain ⟨hout, hin⟩ := capOfCode_eq (fieldAt r.body 4 2)
      refine ⟨fun hlt hne => ?range, fun hok => ?taken⟩
      case range =>
        exact takeRequest_of_refuse (owner := fun r s => s.sessionCap r.body) (code := .range) h (by decide) (sessionCap_of_range hfound (hout hlt hne))
      case taken =>
        exact takeRequest_of_accept_changed (owner := fun r s => s.sessionCap r.body) h (sessionCap_of_found hfound (hin hok))
  case curtail =>
    refine ⟨fun hcold => ?cold, fun hcomm => ⟨fun hlt => ?range, fun hle hup => ?staged, fun hle hdown => ?cut⟩⟩
    case cold =>
      exact takeRequest_of_refuse (owner := fun r s => s.curtail r.body) (code := .notCommissioned) h (by decide)
        (curtail_of_cold (s := s.dropHead) hcold)
    case range =>
      exact takeRequest_of_refuse (owner := fun r s => s.curtail r.body) (code := .range) h (by decide)
        (curtail_of_above (s := s.dropHead) hcomm hlt)
    case staged =>
      have hcurtail : s.curtailTo (fieldAt r.body 0 2) =
          { s with alloc := { s.alloc with stagedGridCap := some (fieldAt r.body 0 2) } } := by
        rw [State.curtailTo, if_neg (Nat.not_le.2 hup)]
      refine (takeRequest_of_accept_changed (owner := fun r s => s.curtail r.body) h (curtail_of_taken hcomm hle)).trans (congrArg _ ?_)
      have hgone := startTransmit_congr (s := s) (t := { s with
        alloc := { s.alloc with stagedGridCap := some (fieldAt r.body 0 2) }, host := s.dropHead.host }) rfl
      rw [curtailTo_withHost s s.dropHead.host, hcurtail]
      exact congrArg (fun t : State => t.pushOutput (replyTo r .ok [])) hgone
    case cut =>
      intro v f
      have hf : f = (s.curtailTo (fieldAt r.body 0 2)).startTransmit := by
        rw [State.curtailTo, if_pos hdown]
        rfl
      refine (takeRequest_of_accept_changed (owner := fun r s => s.curtail r.body) h (curtail_of_taken hcomm hle)).trans (congrArg _ ?_)
      have hgone : ({ s.curtailTo (fieldAt r.body 0 2) with host := s.dropHead.host } : State).startTransmit =
          { s with alloc := f.alloc, modules := f.modules, field := f.field, host := s.dropHead.host } := by
        rw [startTransmit_congr (s := s.curtailTo (fieldAt r.body 0 2)) (t := { s.curtailTo (fieldAt r.body 0 2) with
          host := s.dropHead.host }) rfl, hf]
        simp only [startTransmit_frame]
        exact congrArg (fun t : State => { t with
          field := (s.curtailTo (fieldAt r.body 0 2)).startTransmit.field, host := s.dropHead.host }) (curtailTo_keeps s _)
      rw [curtailTo_withHost s s.dropHead.host, hgone]
      rfl
  case pass =>
    intro t shared grant limit
    have hallot (p : Pedestal) : t.allot p = s.reducedAllot p := allot_reductionPass s p
    have hmodule (m : ModuleNo) : t.module m = s.excessModule s.reducedGrant allPedestals s.module m := module_reductionPass s m
    refine ⟨hallot, ?sum, fun p => ⟨fun hlt => ?lowered, fun hle => ?kept, unsentAt_other_reductionPass s p⟩, fun p m hheld => ?held,
      fun m hfree => ?free, fun hempty => ?queue, eq_of_repowered (reductionPass_eq s)⟩
    case queue =>
      have hqueue := queue_reductionPass_of_empty s hempty
      simp only [State.reducedLimit, State.reducedGrant] at hqueue
      simp only [t, limit, grant, shared]
      exact hqueue
    case sum =>
      have hle := total_shareBudget s.runningBySession (fun p => (s.allot p).demand) s.alloc.pointer s.alloc.budget
      rw [Share.total, sum_toList] at hle
      refine Nat.le_trans (sumOver_mono fun p => ?_) hle
      rw [hallot p]
      exact Nat.min_le_right _ _
    case lowered =>
      have hmin : min (s.allot p).setpoint (s.reducedLimit p) = limit p := Nat.min_eq_right (Nat.le_of_lt hlt)
      refine (unsentAt_setpoint_reductionPass s p).trans ?_
      rw [hmin, if_neg (Nat.ne_of_lt hlt)]
    case kept =>
      refine (unsentAt_setpoint_reductionPass s p).trans ?_
      exact if_pos (Nat.min_eq_left hle)
    case held =>
      have hpool : t.module m = s.releasedModule p (grant p) m := (hmodule m).trans (excessModule_of_held s _ hheld)
      obtain ⟨hreleased, hkept⟩ := unsentAt_module_reductionPass s m
      refine ⟨fun hrel => ⟨hpool.trans (if_pos hrel), hreleased ⟨p, hrel⟩⟩, fun hrel => ⟨hpool.trans (if_neg (by simp [hrel])),
        hkept fun q => ?_⟩⟩
      cases hq : s.releases q (s.reducedGrant q) m with
      | false => rfl
      | true =>
        have hqp : q = p := Option.some.inj ((assigned_of_held (held_of_releases hq)).symm.trans (assigned_of_held hheld))
        rw [hqp] at hq
        exact hrel.symm.trans hq |>.symm ▸ rfl
    case free =>
      refine ⟨(hmodule m).trans (excessModule_of_not_held s _ hfree), (unsentAt_module_reductionPass s m).2 fun q => ?_⟩
      rw [State.releases, hfree q]
      rfl

end Sys2Proof.Machine
end

section
/-! # The regular pass (R90 to R96)

The pass is taken in its order: the grants are set in the Allotment Table, the excess over them is released, FREE modules are assigned to
the RUNNING sessions in turn, and every setpoint takes its step 8 value. What a later step finds is what the earlier ones left; no released
module is FREE, so no step undoes another's. -/

namespace Sys2Proof.Machine

/-! ### Steps 1 to 5: the grants (R91 to R93) -/

section
variable (s : State)

/-- The share of a regular pass. -/
def State.passShare : Share :=
  shareBudget s.runningBySession s.passStaging.demandOf s.alloc.pointer (s.passStaging.computedPower / s.control.record.rating)

/-- A pedestal's grant in a regular pass. -/
def State.passGrant (p : Pedestal) : Nat := s.passShare.grants[p.val]

/-- A pedestal's allotment behind steps 1 to 5. -/
def State.sharedAllot (p : Pedestal) : Allotment :=
  { s.allot p with
    cap := (s.allot p).stagedCap.getD (s.allot p).cap, stagedCap := none
    demand := s.passStaging.demandOf p, grant := s.passGrant p }

/-- The Apportioner behind steps 1 to 5. -/
def State.sharedAlloc : Apportioner :=
  { pAv := s.passStaging.computedPower, budget := s.passStaging.computedPower / s.control.record.rating
    gridCap := s.alloc.stagedGridCap.getD s.alloc.gridCap, stagedGridCap := none
    pointer := s.passShare.last.getD s.alloc.pointer, periodTimer := s.alloc.periodTimer, entries := Vector.ofFn s.sharedAllot }

/-- The part behind steps 1 to 5. -/
def State.shared : State := { s with alloc := s.sharedAlloc }

/-- Staged caps come into force. -/
theorem allot_passStaging (p : Pedestal) :
    s.passStaging.allot p = { s.allot p with cap := (s.allot p).stagedCap.getD (s.allot p).cap, stagedCap := none } := by
  simp [State.passStaging, State.mapAllot, State.allot]

/-- Steps 1 to 5 write the Apportioner alone. -/
theorem passGrants_eq : s.passStaging.passBudget.passDemand.passGrants = s.shared := by
  have hdemand (p : Pedestal) :
      (s.passStaging.passBudget.passDemand.allot p) = { s.passStaging.allot p with demand := s.passStaging.demandOf p } := by
    simp only [State.passDemand, mapAllot_eq_repowered, allot_repowered]
    rfl
  unfold State.passGrants
  simp only [hdemand, State.mapAllot, allot_passStaging]
  rfl

/-- The allotments behind steps 1 to 5. -/
@[simp] theorem allot_shared (p : Pedestal) : s.shared.allot p = s.sharedAllot p := by
  simp [State.shared, State.sharedAlloc, State.allot]

end

/-! ### Step 6: the releases (R94) -/

section
variable (s : State)

/-- The orders of the releases of all pedestals are of different places. -/
theorem excessOrders_nodup : ((allPedestals.flatMap s.excessOrders).map Order.place).Nodup := by
  rw [List.map_flatMap]
  refine nodup_flatMap_of_apart (fun p _ => releasedOrders_places s p _) (allPedestals_nodup.imp fun {p q} hne pl hp hq => ?_)
  obtain ⟨o, ho, rfl⟩ := List.mem_map.1 hp
  obtain ⟨o', ho', hplace⟩ := List.mem_map.1 hq
  rcases List.mem_append.1 ho with ho | ho <;> rcases List.mem_append.1 ho' with ho' | ho'
  · obtain ⟨-, rfl⟩ := (mem_setpointOrders s p).1 ho
    obtain ⟨-, rfl⟩ := (mem_setpointOrders s q).1 ho'
    exact hne (Place.setpoint.inj hplace).symm
  · obtain ⟨-, rfl⟩ := (mem_setpointOrders s p).1 ho
    obtain ⟨m, -, ⟨-, rfl⟩ | ⟨-, rfl⟩⟩ := (mem_releasedOrders s q _).1 ho' <;> cases hplace
  · obtain ⟨-, rfl⟩ := (mem_setpointOrders s q).1 ho'
    obtain ⟨m, -, ⟨-, rfl⟩ | ⟨-, rfl⟩⟩ := (mem_releasedOrders s p _).1 ho <;> cases hplace
  · obtain ⟨m, hm, ho⟩ := (mem_releasedOrders s p _).1 ho
    obtain ⟨n, hn, ho'⟩ := (mem_releasedOrders s q _).1 ho'
    have hmn : n = m := by
      rcases ho with ⟨-, rfl⟩ | ⟨-, rfl⟩ <;> rcases ho' with ⟨-, rfl⟩ | ⟨-, rfl⟩ <;> exact Place.module.inj hplace
    subst hmn
    exact hne (Option.some.inj ((assigned_of_held (held_of_releases hm)).symm.trans (assigned_of_held (held_of_releases hn))))

/-- The allotments behind the releases. -/
theorem allot_releaseExcess (p : Pedestal) :
    s.releaseExcess.allot p = { s.allot p with setpoint := s.releasedSetpoint p (s.allot p).grant } := by
  rw [releaseExcess_eq, allot_repowered, State.excessAllot, if_pos (mem_allPedestals p)]

/-- The modules' records behind the releases. -/
theorem module_releaseExcess (m : ModuleNo) :
    s.releaseExcess.module m = s.excessModule s.granted allPedestals s.module m := by
  rw [releaseExcess_eq, module_repowered]

/-- An order that the releases place is found in its place. -/
theorem unsentAt_releaseExcess_of_mem {p : Pedestal} {o : Order} (ho : o ∈ s.excessOrders p) :
    s.releaseExcess.unsentAt o.place = some o := by
  rw [releaseExcess_eq, unsentAt_repowered]
  exact find_foldl_placed_of_mem (excessOrders_nodup s) (List.mem_flatMap.2 ⟨p, mem_allPedestals p, ho⟩) _

/-- A place of no such order is left alone. -/
theorem unsentAt_releaseExcess_of_not_mem {pl : Place} (h : ∀ p, ∀ o ∈ s.excessOrders p, o.place ≠ pl) :
    s.releaseExcess.unsentAt pl = s.unsentAt pl := by
  rw [releaseExcess_eq, unsentAt_repowered]
  refine find_foldl_placed_of_not_mem (fun o ho => ?_) _
  obtain ⟨p, -, ho⟩ := List.mem_flatMap.1 ho
  exact h p o ho

/-- What a setpoint's place holds behind the releases. -/
theorem unsentAt_setpoint_releaseExcess (p : Pedestal) :
    s.releaseExcess.unsentAt (.setpoint p) =
      if s.releasedSetpoint p (s.allot p).grant = (s.allot p).setpoint then s.unsentAt (.setpoint p)
      else some (.setpoint p (s.releasedSetpoint p (s.allot p).grant)) := by
  split
  next hsame =>
    refine unsentAt_releaseExcess_of_not_mem s fun q o ho hplace => ?_
    rcases List.mem_append.1 ho with ho | ho
    · obtain ⟨hne, rfl⟩ := (mem_setpointOrders s q).1 ho
      rw [Place.setpoint.inj hplace] at hne
      exact hne hsame
    · obtain ⟨m, -, ⟨-, rfl⟩ | ⟨-, rfl⟩⟩ := (mem_releasedOrders s q _).1 ho <;> cases hplace
  next hne =>
    have hfound := unsentAt_releaseExcess_of_mem s (p := p) (o := .setpoint p (s.releasedSetpoint p (s.allot p).grant))
      (List.mem_append_left _ ((mem_setpointOrders s p).2 ⟨hne, rfl⟩))
    exact hfound

/-- The releases leave the other-order places. -/
theorem unsentAt_other_releaseExcess (p : Pedestal) : s.releaseExcess.unsentAt (.other p) = s.unsentAt (.other p) := by
  refine unsentAt_releaseExcess_of_not_mem s fun q o ho hplace => ?_
  rcases List.mem_append.1 ho with ho | ho
  · obtain ⟨-, rfl⟩ := (mem_setpointOrders s q).1 ho
    cases hplace
  · obtain ⟨m, -, ⟨-, rfl⟩ | ⟨-, rfl⟩⟩ := (mem_releasedOrders s q _).1 ho <;> cases hplace

/-- What a module's place holds behind the releases. -/
theorem unsentAt_module_releaseExcess (m : ModuleNo) :
    ((∃ p, s.releases p (s.allot p).grant m = true) → s.releaseExcess.unsentAt (.module m) = s.releasedOrder m) ∧
    ((∀ p, s.releases p (s.allot p).grant m = false) → s.releaseExcess.unsentAt (.module m) = s.unsentAt (.module m)) := by
  have hof {p : Pedestal} {o : Order} (ho : o ∈ s.excessOrders p) (hplace : o.place = .module m) :
      s.releases p (s.allot p).grant m = true ∧ (s.module m).state ≠ .contactClose := by
    rcases List.mem_append.1 ho with ho | ho
    · obtain ⟨-, rfl⟩ := (mem_setpointOrders s p).1 ho
      cases hplace
    · obtain ⟨n, hn, ⟨hst, rfl⟩ | ⟨hst, rfl⟩⟩ := (mem_releasedOrders s p _).1 ho <;> cases hplace <;> exact ⟨hn, by simp [hst]⟩
  refine ⟨fun ⟨p, hrel⟩ => ?_, fun h => unsentAt_releaseExcess_of_not_mem s fun p o ho hplace => ?_⟩
  · have hfound {o : Order} (ho : o ∈ s.releasedOrders p (s.allot p).grant) :=
      unsentAt_releaseExcess_of_mem s (p := p) (List.mem_append_right _ ho)
    rw [State.releasedOrder]
    rcases ((ModuleRecord.heldFor_iff p (s.module m)).1 (held_of_releases hrel)).2 with hst | ⟨hst, -⟩ | hst
    · have h := hfound ((mem_releasedOrders s p _).2 ⟨m, hrel, Or.inl ⟨hst, rfl⟩⟩)
      rw [hst]
      exact h
    · rw [hst]
      exact unsentAt_releaseExcess_of_not_mem s fun q o ho hplace => (hof ho hplace).2 hst
    · have h := hfound ((mem_releasedOrders s p _).2 ⟨m, hrel, Or.inr ⟨hst, rfl⟩⟩)
      rw [hst]
      exact h
  · have hrel := (hof ho hplace).1
    rw [h p] at hrel
    cases hrel

/-- A released module is not FREE. -/
theorem releasedRecord_not_free {p : Pedestal} {m : ModuleNo} (h : (s.module m).heldFor p = true) :
    (s.releasedRecord m).state ≠ .free := by
  have hstate := ((ModuleRecord.heldFor_iff p (s.module m)).1 h).2
  unfold State.releasedRecord
  rcases hstate with hstate | ⟨hstate, -⟩ | hstate <;> rw [hstate] <;> simp [hstate]

/-- The held counts behind the releases are within the grants. -/
theorem heldCount_releaseExcess (p : Pedestal) : s.releaseExcess.heldCount p ≤ (s.allot p).grant := by
  have hcount : s.releaseExcess.heldCount p = (s.releaseBeyond p (s.allot p).grant).heldCount p := by
    rw [State.heldCount, State.heldCount]
    refine congrArg List.length (List.filter_congr fun m _ => ?_)
    rw [module_releaseExcess, releaseBeyond_eq, module_reworked]
    by_cases hm : (s.module m).heldFor p = true
    · rw [excessModule_of_held s s.granted hm]
      rfl
    · have hr : ¬ s.releases p (s.allot p).grant m = true := fun hr => hm (held_of_releases hr)
      rw [State.releasedModule, if_neg hr, State.excessModule]
      split
      next hq =>
        obtain ⟨q, -, hq⟩ := hq
        have hpq : q ≠ p := fun e => hm (by rw [← e]; exact held_of_releases hq)
        have hassigned := (assigned_releasedRecord s m).trans (assigned_of_held (held_of_releases hq))
        rw [Bool.eq_false_iff.2 hm, Bool.eq_false_iff]
        exact fun h => hpq (Option.some.inj (hassigned.symm.trans (assigned_of_held h)))
      next => rfl
  rw [hcount, heldCount_releaseBeyond]
  exact Nat.min_le_left _ _

end

/-! ### Step 7: the assignments (R95) -/

section
variable (s : State) (p : Pedestal)

/-- An assigned module is one that offers itself. -/
theorem offers_of_assigns {m : ModuleNo} (h : s.assigns p m = true) : s.offers p m = true := by
  simp only [State.assigns, Bool.and_eq_true] at h
  exact h.1

/-- A module's record once a pedestal's modules have been assigned. -/
theorem module_assignFor (m : ModuleNo) :
    (s.assignFor p).module m = if s.assigns p m = true then s.assignedRecord p m else s.module m := by
  rw [assignFor_eq, module_reworked]

/-- The assignments add to the pedestal's own held count. -/
theorem heldCount_assignFor : (s.assignFor p).heldCount p = s.heldCount p + (s.assignedInOrder p).length := by
  rw [State.heldCount, State.heldCount, ← List.length_append]
  refine length_eq_of_mem_iff (allModules_nodup.filter _)
    (nodup_append_of_apart (allModules_nodup.filter _) (assignedInOrder_nodup s p) fun m hm ha => ?_) fun m => ?_
  · have hoffers := offers_of_assigns s p ((assigns_iff s p m).2 ha)
    simp [not_held_of_offers s p hoffers p] at hm
  · rw [List.mem_append, ← assigns_iff, List.mem_filter, List.mem_filter, module_assignFor]
    by_cases ha : s.assigns p m = true
    · simp [ha, State.assignedRecord, ModuleRecord.heldFor]
    · simp [ha]

/-- The assignments of a pedestal leave the held counts of the others. -/
theorem heldCount_assignFor_ne {q : Pedestal} (h : q ≠ p) : (s.assignFor p).heldCount q = s.heldCount q := by
  rw [State.heldCount, State.heldCount]
  refine congrArg List.length (List.filter_congr fun m _ => ?_)
  rw [module_assignFor]
  by_cases ha : s.assigns p m = true
  · rw [if_pos ha, not_held_of_offers s p (offers_of_assigns s p ha) q, Bool.eq_false_iff]
    exact fun hheld => h (Option.some.inj (assigned_of_held hheld)).symm
  · rw [if_neg ha]

/-- Where a pedestal still lacks modules, every one that offered itself has been assigned. -/
theorem assigns_of_lacking (hlack : (s.assignFor p).heldCount p < (s.allot p).grant) {m : ModuleNo} (h : s.offers p m = true) :
    s.assigns p m = true := by
  have hcount := heldCount_assignFor s p
  have hwhole : s.assignedInOrder p = allModules.filter (s.offers p) := by
    have hlength : (s.assignedInOrder p).length < (s.allot p).grant - s.heldCount p := by omega
    rw [State.assignedInOrder, List.length_take] at hlength
    exact List.take_of_length_le (by omega)
  rw [assigns_iff, hwhole, List.mem_filter]
  exact ⟨mem_allModules m, h⟩

end

/-- What the assignments of several pedestals, one after another, have done. -/
structure Assigned (s t : State) (l : List Pedestal) : Prop where
  alloc : t.alloc = s.alloc
  kept : ∀ m, (s.module m).state ≠ .free → t.module m = s.module m ∧ t.unsentAt (.module m) = s.unsentAt (.module m)
  free : ∀ m, (s.module m).state = .free →
    (t.module m = s.module m ∧ t.unsentAt (.module m) = s.unsentAt (.module m)) ∨
      ∃ p ∈ l, s.offers p m = true ∧ t.module m = s.assignedRecord p m ∧ t.unsentAt (.module m) = some (.precharge m p)
  others : ∀ pl, (∀ m, pl ≠ .module m) → t.unsentAt pl = s.unsentAt pl
  held : ∀ p, t.heldCount p ≤ max (s.heldCount p) (s.allot p).grant
  full : ∀ p ∈ l, t.heldCount p < (s.allot p).grant → ∀ m, t.offers p m = false

/-- A module that does not offer itself does not after another pedestal's assignments. -/
theorem offers_assignFor {t : State} {q r : Pedestal} {m : ModuleNo} (h : t.offers q m = false) : (t.assignFor r).offers q m = false := by
  rw [Bool.eq_false_iff] at h ⊢
  intro hoffers
  rw [offers_iff, module_assignFor] at hoffers
  by_cases ha : t.assigns r m = true
  · rw [if_pos ha] at hoffers
    cases hoffers.1
  · rw [if_neg ha] at hoffers
    exact h ((offers_iff t m q).2 hoffers)

/-- Another pedestal's modules are assigned behind the others'. -/
theorem Assigned.step {s t : State} {l : List Pedestal} (h : Assigned s t l) (p : Pedestal) : Assigned s (t.assignFor p) (l ++ [p]) := by
  have hnone {m : ModuleNo} (hm : (t.module m).state ≠ .free) : ¬ t.assigns p m = true := fun ha =>
    hm ((offers_iff t m p).1 (offers_of_assigns t p ha)).1
  have hstays {m : ModuleNo} (ha : ¬ t.assigns p m = true) :
      (t.assignFor p).module m = t.module m ∧ (t.assignFor p).unsentAt (.module m) = t.unsentAt (.module m) := by
    rw [module_assignFor, unsentAt_module_assignFor, if_neg ha, if_neg ha]
    exact ⟨rfl, rfl⟩
  have hgrant (q : Pedestal) : (t.allot q).grant = (s.allot q).grant := by simp [State.allot, h.alloc]
  refine ⟨?alloc, fun m hm => ?kept, fun m hm => ?free, fun pl hpl => ?others, fun q => ?held, fun q hq hlack m => ?full⟩
  case alloc => simp [h.alloc]
  case kept =>
    obtain ⟨hmodule, hunsent⟩ := h.kept m hm
    obtain ⟨hmodule', hunsent'⟩ := hstays (hnone (hmodule ▸ hm))
    exact ⟨hmodule'.trans hmodule, hunsent'.trans hunsent⟩
  case free =>
    rcases h.free m hm with ⟨hmodule, hunsent⟩ | ⟨q, hq, hoffers, hmodule, hunsent⟩
    · by_cases ha : t.assigns p m = true
      · refine Or.inr ⟨p, by simp, ?_, ?_, ?_⟩
        · have := offers_of_assigns t p ha
          rwa [State.offers, hmodule] at this
        · rw [module_assignFor, if_pos ha, State.assignedRecord, State.assignedRecord, hmodule]
        · rw [unsentAt_module_assignFor, if_pos ha]
      · obtain ⟨hmodule', hunsent'⟩ := hstays ha
        exact Or.inl ⟨hmodule'.trans hmodule, hunsent'.trans hunsent⟩
    · have hstate : (t.module m).state ≠ .free := by rw [hmodule]; simp [State.assignedRecord]
      obtain ⟨hmodule', hunsent'⟩ := hstays (hnone hstate)
      exact Or.inr ⟨q, by simp [hq], hoffers, hmodule'.trans hmodule, hunsent'.trans hunsent⟩
  case others => exact (unsentAt_assignFor t p hpl).trans (h.others pl hpl)
  case held =>
    have hbound := h.held q
    by_cases hq : q = p
    · subst hq
      have hcount := heldCount_assignFor t q
      have hlength : (t.assignedInOrder q).length ≤ (t.allot q).grant - t.heldCount q := by
        rw [State.assignedInOrder, List.length_take]; omega
      rw [hgrant q] at hlength
      omega
    · rw [heldCount_assignFor_ne t p hq]; exact hbound
  case full =>
    by_cases hqp : q = p
    · subst hqp
      by_cases ho : t.offers q m = true
      · have ha := assigns_of_lacking t q (by rw [hgrant q]; exact hlack) ho
        rw [Bool.eq_false_iff]
        intro hoffers
        rw [offers_iff, module_assignFor, if_pos ha] at hoffers
        cases hoffers.1
      · exact offers_assignFor (Bool.eq_false_iff.2 ho)
    · have hql : q ∈ l := by simpa [hqp] using hq
      rw [heldCount_assignFor_ne t p hqp] at hlack
      exact offers_assignFor (h.full q hql hlack m)

/-- The assignments of several pedestals. -/
theorem assigned_foldl (s : State) (l : List Pedestal) : Assigned s (l.foldl State.assignFor s) l := by
  induction l using snoc_induction with
  | nil =>
    exact ⟨rfl, fun _ _ => ⟨rfl, rfl⟩, fun _ _ => Or.inl ⟨rfl, rfl⟩, fun _ _ => rfl, fun _ => Nat.le_max_left _ _,
      fun p hp => absurd hp (by simp)⟩
  | append_singleton l p ih =>
    rw [List.foldl_append, List.foldl_cons, List.foldl_nil]
    exact ih.step p

/-! ### Step 8: the setpoints (R96) -/

section
variable (s : State)

/-- A setpoint's step 8 value does not depend on the setpoints. -/
theorem setpointValue_repowered (a : Pedestal → Allotment) (os : List Order) {p : Pedestal} (ha : a p = s.allot p) :
    (s.repowered a s.module os).setpointValue p = s.setpointValue p := by
  have hassigned : (s.repowered a s.module os).assignedCount p = s.assignedCount p := by
    simp only [State.assignedCount, module_repowered]
  have hwanted : (s.repowered a s.module os).wantedPower p = s.wantedPower p := by
    simp only [State.wantedPower, repowered_frame, allot_repowered, ha]
  rw [setpointValue_eq, setpointValue_eq, hwanted, hassigned, allot_repowered, ha]
  simp only [repowered_frame]

/-- Every setpoint takes its step 8 value. -/
theorem passSetpoints_eq :
    s.passSetpoints = s.repowered (fun p => { s.allot p with setpoint := s.setpointValue p }) s.module
      (allPedestals.flatMap fun p => s.setpointOrders p (s.setpointValue p)) := by
  have hfold := foldl_orderSetpoint s State.setpointValue s.setpointValue allPedestals_nodup
    fun a os p _ ha => setpointValue_repowered s a os ha
  have hstep : State.settleSetpoint = fun t p => t.orderSetpoint p (t.setpointValue p) := rfl
  simp only [mem_allPedestals, if_true] at hfold
  rw [State.passSetpoints, hstep, hfold]

/-- What a setpoint's place holds behind step 8. -/
theorem unsentAt_setpoint_passSetpoints (p : Pedestal) :
    s.passSetpoints.unsentAt (.setpoint p) =
      if s.setpointValue p = (s.allot p).setpoint then s.unsentAt (.setpoint p) else some (.setpoint p (s.setpointValue p)) := by
  rw [passSetpoints_eq, unsentAt_repowered, find_setpointOrders]
  rfl

/-- Step 8 leaves the other places. -/
theorem unsentAt_passSetpoints {pl : Place} (h : ∀ p, pl ≠ .setpoint p) : s.passSetpoints.unsentAt pl = s.unsentAt pl := by
  rw [passSetpoints_eq, unsentAt_repowered, find_setpointOrders_other s _ _ h]
  rfl

/-- Step 8 leaves the pool. -/
theorem module_passSetpoints (m : ModuleNo) : s.passSetpoints.module m = s.module m := by
  rw [passSetpoints_eq, module_repowered]

/-- The allotments behind step 8. -/
theorem allot_passSetpoints (p : Pedestal) : s.passSetpoints.allot p = { s.allot p with setpoint := s.setpointValue p } := by
  rw [passSetpoints_eq, allot_repowered]

end

/-! ### The whole pass -/

section
variable {s t : State}

/-- The RUNNING sessions are read off the slots. -/
theorem runningBySession_congr (h : t.slots = s.slots) : t.runningBySession = s.runningBySession := by
  have hrunning : t.isRunning = s.isRunning := by
    funext p
    simp only [State.isRunning, State.slot, h]
  simp only [State.runningBySession, State.openBySession, hrunning, State.slot, h]

/-- The wanted power is read off the slot, the commissioning record and the cap. -/
theorem wantedPower_congr {p : Pedestal} (hslots : t.slots = s.slots) (hcontrol : t.control = s.control)
    (hcap : (t.allot p).cap = (s.allot p).cap) : t.wantedPower p = s.wantedPower p := by
  simp only [State.wantedPower, State.slot, State.rating, hslots, hcontrol, hcap]

/-- The assigned count is read off the pool. -/
theorem assignedCount_congr {p : Pedestal} (h : ∀ m, t.module m = s.module m) : t.assignedCount p = s.assignedCount p := by
  simp only [State.assignedCount, h]

/-- The held count is read off the pool. -/
theorem heldCount_congr {p : Pedestal} (h : ∀ m, t.module m = s.module m) : t.heldCount p = s.heldCount p := by
  simp only [State.heldCount, h]

end

section
variable (s : State)

/-- The part behind steps 1 to 7. -/
def State.assigned : State := s.shared.releaseExcess.passAssign

/-- The pass is its setpoints behind the first seven steps. -/
theorem regularPass_eq : s.regularPass = s.assigned.passSetpoints := by
  rw [State.regularPass, passGrants_eq, State.assigned]

/-- The assignments of the pass. -/
theorem assigned_pass : Assigned s.shared.releaseExcess s.assigned s.runningBySession := by
  have hsessions : s.shared.releaseExcess.runningBySession = s.runningBySession :=
    runningBySession_congr ((releaseExcess_frame s.shared).2.2.1)
  have h := assigned_foldl s.shared.releaseExcess s.shared.releaseExcess.runningBySession
  rw [hsessions] at h
  rw [State.assigned, State.passAssign, hsessions]
  exact h

/-- The allotments behind steps 1 to 7. -/
theorem allot_assigned (p : Pedestal) :
    s.assigned.allot p = { s.sharedAllot p with setpoint := s.shared.releasedSetpoint p (s.passGrant p) } := by
  have halloc : s.assigned.allot p = s.shared.releaseExcess.allot p := by
    rw [State.allot, (assigned_pass s).alloc]
    rfl
  rw [halloc, allot_releaseExcess, allot_shared]
  rfl

/-- The first seven steps leave the slots and Restart Control. -/
theorem assigned_frame : s.assigned.slots = s.slots ∧ s.assigned.control = s.control := by
  simp [State.assigned, State.shared]

/-- The value that a setpoint takes in the pass. -/
theorem setpointValue_assigned (p : Pedestal) :
    s.assigned.setpointValue p =
      if (s.slot p).state = .running then
        min (min (s.passStaging.wantedPower p) (s.regularPass.assignedCount p * s.control.record.rating))
          (s.passGrant p * s.control.record.rating)
      else 0 := by
  obtain ⟨hslots, hcontrol⟩ := assigned_frame s
  have hwanted : s.assigned.wantedPower p = s.passStaging.wantedPower p :=
    wantedPower_congr (by simp [hslots]) (by simp [hcontrol]) (by rw [allot_assigned, allot_passStaging]; rfl)
  have hcount : s.regularPass.assignedCount p = s.assigned.assignedCount p := by
    rw [regularPass_eq]
    exact assignedCount_congr (module_passSetpoints s.assigned)
  have hgrant : (s.assigned.allot p).grant = s.passGrant p := by rw [allot_assigned]; rfl
  rw [setpointValue_eq, hwanted, hcount, hgrant, State.slot, hslots, hcontrol]
  rfl

/-- A setpoint is within its grant's power. -/
theorem setpointValue_assigned_le (p : Pedestal) :
    s.assigned.setpointValue p ≤ s.passGrant p * s.control.record.rating := by
  rw [setpointValue_assigned]
  split
  · exact Nat.min_le_right _ _
  · exact Nat.zero_le _

/-- The Apportioner behind the pass. -/
theorem alloc_regularPass :
    s.regularPass.alloc =
      { s.sharedAlloc with
        entries := Vector.ofFn fun p => { s.sharedAllot p with setpoint := s.assigned.setpointValue p } } := by
  have hentries : (fun p => ({ s.assigned.allot p with setpoint := s.assigned.setpointValue p } : Allotment)) =
      fun p => { s.sharedAllot p with setpoint := s.assigned.setpointValue p } := by
    funext p
    rw [allot_assigned]
  have halloc : s.assigned.alloc = { s.sharedAlloc with entries := s.shared.releaseExcess.alloc.entries } := by
    rw [(assigned_pass s).alloc, releaseExcess_eq]
    rfl
  rw [regularPass_eq, passSetpoints_eq, hentries, State.repowered, halloc]

/-- The allotments behind the pass. -/
theorem allot_regularPass (p : Pedestal) :
    s.regularPass.allot p = { s.sharedAllot p with setpoint := s.assigned.setpointValue p } := by
  simp only [State.allot, alloc_regularPass, Vector.getElem_ofFn]

/-- The records behind the pass are those behind the assignments. -/
theorem module_regularPass (m : ModuleNo) : s.regularPass.module m = s.assigned.module m := by
  rw [regularPass_eq, module_passSetpoints]

/-- The unsent orders of the modules behind the pass are those behind the assignments. -/
theorem unsentAt_module_regularPass (m : ModuleNo) : s.regularPass.unsentAt (.module m) = s.assigned.unsentAt (.module m) := by
  rw [regularPass_eq]
  exact unsentAt_passSetpoints s.assigned (by simp)

/-- A module that a pedestal holds when the pass begins. -/
theorem regularPass_of_held {p : Pedestal} {m : ModuleNo} (hheld : (s.module m).heldFor p = true) :
    s.regularPass.module m = s.releasedModule p (s.passGrant p) m ∧
      s.regularPass.unsentAt (.module m) =
        if s.releases p (s.passGrant p) m = true then s.releasedOrder m else s.unsentAt (.module m) := by
  have hreleased : s.shared.releaseExcess.module m = s.releasedModule p (s.passGrant p) m := by
    rw [module_releaseExcess, excessModule_of_held s.shared _ (p := p) hheld, State.granted, allot_shared]
    rfl
  have hfree : (s.shared.releaseExcess.module m).state ≠ .free := by
    rw [hreleased, State.releasedModule]
    split
    · exact releasedRecord_not_free s hheld
    · intro hst
      have hstate := ((ModuleRecord.heldFor_iff p (s.module m)).1 hheld).2
      simp [hst] at hstate
  obtain ⟨hmodule, hunsent⟩ := (assigned_pass s).kept m hfree
  obtain ⟨hrel, hnone⟩ := unsentAt_module_releaseExcess s.shared m
  refine ⟨(module_regularPass s m).trans (hmodule.trans hreleased), (unsentAt_module_regularPass s m).trans (hunsent.trans ?_)⟩
  split
  next h => exact hrel ⟨p, by rw [allot_shared]; exact h⟩
  next h =>
    refine hnone fun q => Bool.eq_false_iff.2 fun hq => ?_
    have hqp : q = p := Option.some.inj ((assigned_of_held (held_of_releases hq)).symm.trans (assigned_of_held hheld))
    subst hqp
    rw [allot_shared] at hq
    exact h hq

/-- A module that no pedestal holds is not released by the pass. -/
theorem releaseExcess_of_not_held {m : ModuleNo} (h : ∀ p, (s.module m).heldFor p = false) :
    s.shared.releaseExcess.module m = s.module m ∧ s.shared.releaseExcess.unsentAt (.module m) = s.unsentAt (.module m) := by
  refine ⟨(module_releaseExcess s.shared m).trans (excessModule_of_not_held s.shared _ h),
    (unsentAt_module_releaseExcess s.shared m).2 fun p => Bool.eq_false_iff.2 fun hp => ?_⟩
  have hheld : (s.module m).heldFor p = true := held_of_releases hp
  rw [h p] at hheld
  cases hheld

/-- A module that no pedestal holds and that is not FREE is left alone by the pass. -/
theorem regularPass_of_idle {m : ModuleNo} (h : ∀ p, (s.module m).heldFor p = false) (hfree : (s.module m).state ≠ .free) :
    s.regularPass.module m = s.module m ∧ s.regularPass.unsentAt (.module m) = s.unsentAt (.module m) := by
  obtain ⟨hmodule, hunsent⟩ := releaseExcess_of_not_held s h
  obtain ⟨hmodule', hunsent'⟩ := (assigned_pass s).kept m (by rw [hmodule]; exact hfree)
  exact ⟨(module_regularPass s m).trans (hmodule'.trans hmodule), (unsentAt_module_regularPass s m).trans (hunsent'.trans hunsent)⟩

/-- A FREE module is held for no pedestal. -/
theorem not_held_of_free {r : ModuleRecord} (h : r.state = .free) (p : Pedestal) : r.heldFor p = false := by
  simp [ModuleRecord.heldFor, h]

/-- A FREE module is left alone by the pass, or assigned to a RUNNING pedestal that it reaches. -/
theorem regularPass_of_free {m : ModuleNo} (hfree : (s.module m).state = .free) :
    (s.regularPass.module m = s.module m ∧ s.regularPass.unsentAt (.module m) = s.unsentAt (.module m)) ∨
      ∃ p ∈ s.runningBySession, ((s.module m).window.first ≤ p.val + 1 ∧ p.val + 1 ≤ (s.module m).window.last) ∧
        s.regularPass.module m = s.assignedRecord p m ∧ s.regularPass.unsentAt (.module m) = some (.precharge m p) := by
  obtain ⟨hmodule, hunsent⟩ := releaseExcess_of_not_held s (not_held_of_free hfree)
  rw [module_regularPass, unsentAt_module_regularPass]
  rcases (assigned_pass s).free m (by rw [hmodule]; exact hfree) with ⟨hm, hu⟩ | ⟨p, hp, hoffers, hm, hu⟩
  · exact Or.inl ⟨hm.trans hmodule, hu.trans hunsent⟩
  · refine Or.inr ⟨p, hp, ?_, ?_, hu⟩
    · have h := ((offers_iff _ m p).1 hoffers).2
      rwa [hmodule, Window.contains_iff] at h
    · rw [hm, State.assignedRecord, State.assignedRecord, hmodule]

/-- The pass keeps every module's window. -/
theorem window_regularPass (m : ModuleNo) : (s.regularPass.module m).window = (s.module m).window := by
  by_cases hheld : ∃ p, (s.module m).heldFor p = true
  · obtain ⟨p, hp⟩ := hheld
    rw [(regularPass_of_held s hp).1, State.releasedModule]
    split
    · unfold State.releasedRecord
      split <;> rfl
    · rfl
  · have hnone (p : Pedestal) : (s.module m).heldFor p = false := Bool.eq_false_iff.2 fun h => hheld ⟨p, h⟩
    by_cases hfree : (s.module m).state = .free
    · rcases regularPass_of_free s hfree with ⟨h, -⟩ | ⟨p, -, -, h, -⟩ <;> rw [h]
      rfl
    · rw [(regularPass_of_idle s hnone hfree).1]

/-- The held counts behind the pass are within the grants. -/
theorem heldCount_regularPass (p : Pedestal) : s.regularPass.heldCount p ≤ s.passGrant p := by
  have hcount : s.regularPass.heldCount p = s.assigned.heldCount p := heldCount_congr (module_regularPass s)
  have hheld := (assigned_pass s).held p
  have hreleased := heldCount_releaseExcess s.shared p
  have hgrant : (s.shared.releaseExcess.allot p).grant = s.passGrant p := by
    rw [allot_releaseExcess, allot_shared]
    rfl
  have hshared : (s.shared.allot p).grant = s.passGrant p := by
    rw [allot_shared]
    rfl
  rw [hcount]
  rw [hgrant] at hheld
  rw [hshared] at hreleased
  exact Nat.le_trans hheld (Nat.max_le.2 ⟨hreleased, Nat.le_refl _⟩)

/-- Where a RUNNING pedestal still lacks modules, no FREE module reaches it. -/
theorem free_regularPass {p : Pedestal} (hp : p ∈ s.runningBySession) (hlack : s.regularPass.heldCount p < s.passGrant p)
    {m : ModuleNo} (hfree : (s.regularPass.module m).state = .free) :
    ¬ ((s.regularPass.module m).window.first ≤ p.val + 1 ∧ p.val + 1 ≤ (s.regularPass.module m).window.last) := by
  have hcount : s.regularPass.heldCount p = s.assigned.heldCount p := heldCount_congr (module_regularPass s)
  have hgrant : (s.shared.releaseExcess.allot p).grant = s.passGrant p := by
    rw [allot_releaseExcess, allot_shared]
    rfl
  have hoffers := (assigned_pass s).full p hp (by rw [hgrant, ← hcount]; exact hlack) m
  rw [module_regularPass] at hfree ⊢
  intro hreach
  exact absurd ((offers_iff _ m p).2 ⟨hfree, (Window.contains_iff _ p).2 hreach⟩) (by simp [hoffers])

/-- What a setpoint's place holds behind the pass. -/
theorem unsentAt_setpoint_regularPass (p : Pedestal) :
    s.regularPass.unsentAt (.setpoint p) =
      if s.assigned.setpointValue p = (s.allot p).setpoint then s.unsentAt (.setpoint p)
      else some (.setpoint p (s.assigned.setpointValue p)) := by
  have hvalue := setpointValue_assigned_le s p
  have hbefore : s.assigned.unsentAt (.setpoint p) =
      if s.shared.releasedSetpoint p (s.passGrant p) = (s.allot p).setpoint then s.unsentAt (.setpoint p)
      else some (.setpoint p (s.shared.releasedSetpoint p (s.passGrant p))) := by
    rw [(assigned_pass s).others _ (by simp), unsentAt_setpoint_releaseExcess, allot_shared]
    rfl
  have hlowered : s.shared.releasedSetpoint p (s.passGrant p) ≠ (s.allot p).setpoint →
      s.passGrant p * s.control.record.rating < (s.allot p).setpoint := by
    rw [State.releasedSetpoint, allot_shared]
    split
    · exact fun h => absurd rfl h
    · show min (s.allot p).setpoint (s.passGrant p * s.control.record.rating) ≠ _ → _
      omega
  rw [regularPass_eq, unsentAt_setpoint_passSetpoints, hbefore, allot_assigned]
  simp only
  by_cases hlow : s.shared.releasedSetpoint p (s.passGrant p) = (s.allot p).setpoint
  · rw [hlow]; simp
  · have hne : s.assigned.setpointValue p ≠ (s.allot p).setpoint := by
      have := hlowered hlow
      omega
    rw [if_neg hne, if_neg hlow]
    by_cases hsame : s.assigned.setpointValue p = s.shared.releasedSetpoint p (s.passGrant p)
    · rw [if_pos hsame, hsame]
    · rw [if_neg hsame]

/-- The pass leaves the other-order places. -/
theorem unsentAt_other_regularPass (p : Pedestal) : s.regularPass.unsentAt (.other p) = s.unsentAt (.other p) := by
  rw [regularPass_eq, unsentAt_passSetpoints _ (by simp), (assigned_pass s).others _ (by simp), unsentAt_other_releaseExcess]
  rfl

/-- The available power that the pass sets (R88). -/
theorem computedPower_passStaging :
    s.passStaging.computedPower =
      if s.control.commissioned = false ∨ s.prot.latch = true then 0
      else min (min s.control.record.ceiling (s.alloc.stagedGridCap.getD s.alloc.gridCap))
        (if s.prot.derate = true then s.control.record.ceiling * s.params.deratePercent / 100 else s.control.record.ceiling) := by
  split
  next h => exact computedPower_of_off (by simpa using h)
  next h =>
    simp only [not_or, Bool.not_eq_false, Bool.not_eq_true] at h
    rw [computedPower_of_on (by simpa using h.1) (by simpa using h.2)]
    simp only [State.deratedCeiling, passStaging_frame]
    rfl

end

/-! ### The expiry of the period (R90) -/

section
variable (s : State)

/-- The demands that a pass records. -/
theorem demandOf_passStaging (p : Pedestal) :
    s.passStaging.demandOf p =
      if (s.slot p).state = .running then
        (s.passStaging.wantedPower p + s.control.record.rating - 1) / s.control.record.rating
      else 0 := by
  split
  next h => exact demandOf_of_running s.passStaging p h
  next h => exact demandOf_of_not_running s.passStaging p h

/-- The grants of a pass are within the budget. -/
theorem sum_passGrant : sumOver s.passGrant ≤ s.passStaging.computedPower / s.control.record.rating := by
  have h := total_shareBudget s.runningBySession s.passStaging.demandOf s.alloc.pointer
    (s.passStaging.computedPower / s.control.record.rating)
  rw [Share.total, sum_toList] at h
  exact h

/-- The grants of a pass are within the demands. -/
theorem passGrant_le (p : Pedestal) : s.passGrant p ≤ s.passStaging.demandOf p := grants_shareBudget _ _ _ _ p

/-- A RUNNING slot with a session is among those that share. -/
theorem mem_runningBySession {p : Pedestal} :
    p ∈ s.runningBySession ↔ (s.slot p).state = .running ∧ (s.slot p).session ≠ none := by
  rw [State.runningBySession, List.mem_filter, mem_openBySession, isRunning_iff, Option.isSome_iff_ne_none]
  exact and_comm

/-- Where the budget covers every demand, every demand is granted. -/
theorem passGrant_of_enough (hsessions : ∀ p, (s.slot p).state = .running → (s.slot p).session ≠ none)
    (hbudget : sumOver s.passStaging.demandOf ≤ s.passStaging.computedPower / s.control.record.rating) (p : Pedestal) :
    s.passGrant p = s.passStaging.demandOf p := by
  have hsum := sum_shareBudget s.runningBySession s.passStaging.demandOf s.alloc.pointer
    (s.passStaging.computedPower / s.control.record.rating) ((openBySession_nodup s).filter _)
  have hdemand : (fun p => if p ∈ s.runningBySession then s.passStaging.demandOf p else 0) = s.passStaging.demandOf := by
    funext q
    split
    · rfl
    next hq =>
      have hstate : (s.slot q).state ≠ .running := fun h => hq ((mem_runningBySession s).2 ⟨h, hsessions q h⟩)
      exact (demandOf_of_not_running s.passStaging q hstate).symm
  rw [hdemand, Nat.min_eq_right hbudget] at hsum
  have hgap : sumOver (fun q => s.passStaging.demandOf q - s.passGrant q) = 0 := by
    have hadd := sumOver_add (fun q => s.passStaging.demandOf q - s.passGrant q) s.passGrant
    have hsplit : (fun q => s.passStaging.demandOf q - s.passGrant q + s.passGrant q) = s.passStaging.demandOf :=
      funext fun q => Nat.sub_add_cancel (passGrant_le s q)
    have hgrants : sumOver s.passGrant = sumOver s.passStaging.demandOf := hsum
    rw [hsplit] at hadd
    omega
  have hle := le_sumOver (fun q => s.passStaging.demandOf q - s.passGrant q) p
  have hbound := passGrant_le s p
  omega

end

/-- The expiry of the period runs the pass and starts the timer again. -/
theorem exec_apportionmentPeriodExpiry_of_due {s : State} {due : Nat} (hlive : s.Live) (hdue : s.alloc.periodTimer = some due) :
    exec .apportionmentPeriodExpiry s = .next (s.advance due).regularPass.startPeriod.startTransmit :=
  occur_of_some (f := fun s => match s.alloc.periodTimer with
    | some due => some (s.advance due).regularPass.startPeriod
    | none => none) hlive (by simp [hdue])

section
variable (s : State)

/-- The start of the period timer changes nothing else. -/
theorem startPeriod_frame :
    (∀ p, s.startPeriod.allot p = s.allot p) ∧ (∀ m, s.startPeriod.module m = s.module m) ∧
    (∀ pl, s.startPeriod.unsentAt pl = s.unsentAt pl) ∧ (∀ p, s.startPeriod.heldCount p = s.heldCount p) ∧
    (∀ p, s.startPeriod.assignedCount p = s.assignedCount p) ∧
    s.startPeriod.alloc = { s.alloc with periodTimer := some (s.now + s.params.periodMs) } :=
  ⟨fun _ => rfl, fun _ => rfl, fun _ => rfl, fun _ => rfl, fun _ => rfl, rfl⟩

end

/-- Two states that agree in all but the Apportioner, the pool and the queue. -/
theorem State.eq_of_frame {s t : State} (hpending : t.pending = s.pending) (hnow : t.now = s.now) (hslots : t.slots = s.slots)
    (hnext : t.nextSession = s.nextSession) (hexhausted : t.exhausted = s.exhausted) (htariffs : t.tariffs = s.tariffs)
    (hsettlements : t.settlements = s.settlements) (hprot : t.prot = s.prot) (hcan : t.field.can = s.field.can)
    (hbuffer : t.field.buffer = s.field.buffer) (hlinks : t.field.links = s.field.links) (htx : t.field.fieldTx = s.field.fieldTx)
    (hhost : t.host = s.host) (hnotices : t.notices = s.notices) (hclock : t.clock = s.clock) (hcontrol : t.control = s.control) :
    t = { s with alloc := t.alloc, modules := t.modules, field := { s.field with queue := t.field.queue } } := by
  obtain ⟨pending, now, slots, next, exhausted, tariffs, settlements, alloc, modules, prot, ⟨can, queue, buffer, links, tx⟩, host, notices,
    clock, control⟩ := t
  simp_all

/-- The pass and the start of its timer change the Apportioner, the pool and the queue alone. -/
theorem regularPass_startPeriod (s : State) :
    s.regularPass.startPeriod =
      { s with
        alloc := s.regularPass.startPeriod.alloc
        modules := s.regularPass.startPeriod.modules
        field := { s.field with queue := s.regularPass.startPeriod.field.queue } } := by
  apply State.eq_of_frame <;> simp [State.startPeriod]

/-- Settles O57: by what each step of the pass finds and leaves. -/
theorem regularPassSharesTheBudget : Obligations.RegularPassSharesTheBudget := by
  intro s due hlive hdue u rating ceiling gridCap power cap request wanted demand shared grant reaches
  have hgrid : gridCap = u.alloc.stagedGridCap.getD u.alloc.gridCap := by
    show (match s.alloc.stagedGridCap with | some kw => kw | none => s.alloc.gridCap) = s.alloc.stagedGridCap.getD s.alloc.gridCap
    cases s.alloc.stagedGridCap <;> rfl
  have hpower : power = u.passStaging.computedPower := by
    rw [computedPower_passStaging, ← hgrid]
    rfl
  have hcap (p : Pedestal) : cap p = (u.sharedAllot p).cap := by
    show (match (s.allot p).stagedCap with | some c => c | none => (s.allot p).cap) =
      (s.allot p).stagedCap.getD (s.allot p).cap
    cases (s.allot p).stagedCap <;> rfl
  have hwanted (p : Pedestal) : wanted p = u.passStaging.wantedPower p := by
    rw [wantedPower_eq u.passStaging p, allot_passStaging]
    simp only [wanted, hcap p, request, State.sharedAllot]
    rfl
  have hdemand : demand = u.passStaging.demandOf := by
    funext p
    rw [demandOf_passStaging, ← hwanted p]
    rfl
  have hgrant : grant = u.passGrant := by
    funext p
    simp only [grant, shared, hdemand, hpower]
    rfl
  have hlast : shared.last = u.passShare.last := by
    simp only [shared, hdemand, hpower]
    rfl
  refine ⟨u.regularPass.startPeriod, exec_apportionmentPeriodExpiry_of_due hlive hdue, ?_⟩
  obtain ⟨hallotStart, hmoduleStart, hunsentStart, hheldStart, hassignedStart, hallocStart⟩ := startPeriod_frame u.regularPass
  have hallot (p : Pedestal) : u.regularPass.startPeriod.allot p =
      { u.sharedAllot p with setpoint := u.assigned.setpointValue p } := (hallotStart p).trans (allot_regularPass u p)
  have hsetpoint (p : Pedestal) : (u.regularPass.startPeriod.allot p).setpoint = u.assigned.setpointValue p := by rw [hallot p]
  have halloc := alloc_regularPass u
  rw [hgrant]
  refine ⟨?gridCap, ?staged, ?power, ?budget, ?timer, ?pointer, fun p => ⟨?cap, ?stagedCap, ?demand, ?grant⟩, fun p => ?within, ?sum,
    fun hsessions hbudget p => ?enough, fun p => ?setpoint, fun p => ⟨fun hne => ?ordered, fun heq => ?unordered, ?other⟩,
    fun p => ?count, fun p m h => ⟨fun hrel => ?released, fun hrel => ?kept⟩, fun m h hfree => ?idle, fun m hfree => ?free,
    fun p hrun hsession hlack m hfree => ?lacking, ?frame⟩
  case gridCap => rw [hallocStart, halloc]; exact hgrid.symm
  case staged => rw [hallocStart, halloc]; rfl
  case power => rw [hallocStart, halloc]; exact hpower.symm
  case budget => rw [hallocStart, halloc, hpower]; rfl
  case timer => rw [hallocStart]; simp [State.params, u]
  case pointer => rw [hallocStart, halloc, hlast]; rfl
  case cap => rw [hallot p]; exact (hcap p).symm
  case stagedCap => rw [hallot p]; rfl
  case demand => rw [hallot p, hdemand]; rfl
  case grant => rw [hallot p]; rfl
  case within => rw [hdemand]; exact passGrant_le u p
  case sum => rw [hpower]; exact sum_passGrant u
  case enough =>
    rw [hdemand] at hbudget ⊢
    rw [hpower] at hbudget
    exact passGrant_of_enough u hsessions hbudget p
  case setpoint =>
    rw [hsetpoint p, hwanted p, hassignedStart]
    exact setpointValue_assigned u p
  case ordered =>
    rw [hsetpoint p] at hne ⊢
    rw [hunsentStart]
    exact (unsentAt_setpoint_regularPass u p).trans (if_neg hne)
  case unordered =>
    rw [hsetpoint p] at heq
    rw [hunsentStart]
    exact (unsentAt_setpoint_regularPass u p).trans (if_pos heq)
  case other =>
    rw [hunsentStart]
    exact unsentAt_other_regularPass u p
  case count =>
    rw [hheldStart]
    exact heldCount_regularPass u p
  case released =>
    rw [hmoduleStart, hunsentStart]
    obtain ⟨hmodule, hunsent⟩ := regularPass_of_held u (p := p) (m := m) h
    exact ⟨hmodule.trans (if_pos hrel), hunsent.trans (if_pos hrel)⟩
  case kept =>
    rw [hmoduleStart, hunsentStart]
    obtain ⟨hmodule, hunsent⟩ := regularPass_of_held u (p := p) (m := m) h
    exact ⟨hmodule.trans (if_neg (Bool.eq_false_iff.1 hrel)), hunsent.trans (if_neg (Bool.eq_false_iff.1 hrel))⟩
  case idle =>
    rw [hmoduleStart, hunsentStart]
    exact regularPass_of_idle u h hfree
  case free =>
    rw [hmoduleStart, hunsentStart]
    rcases regularPass_of_free u hfree with hsame | ⟨p, hp, hreach, hmodule, hunsent⟩
    · exact Or.inl hsame
    · exact Or.inr ⟨p, ((mem_runningBySession u).1 hp).1, hreach, hmodule, hunsent⟩
  case lacking =>
    rw [hheldStart] at hlack
    rw [hmoduleStart] at hfree
    have hreach := free_regularPass u ((mem_runningBySession u).2 ⟨hrun, hsession⟩) hlack hfree
    rw [window_regularPass] at hreach
    exact hreach
  case frame => exact regularPass_startPeriod u

end Sys2Proof.Machine
end

section
/-! # Operations and the host port

Nothing but the port itself reads the requests, the output and the receiver: an operation adds records to the output of whatever port it
finds, and does the rest as with any other. It is said once for each operation, and gives what a taken request leaves: the state of its
operation run without the request's leaving the queue, with the port put in. -/

namespace Sys2Proof.Machine

/-- The state with another host port. -/
def State.withHost (s : State) (h : HostPort) : State := { s with host := h }

/-- An operation reads nothing of the host port, and adds records to the output of whatever port it finds. -/
def Portable (f : State → State) (s : State) : Prop :=
  ∃ records, ∀ h : HostPort, f (s.withHost h) = (f s).withHost { h with output := h.output ++ records }

/-! ### Rules -/

section
variable {f g : State → State} {s : State}

/-- The port alone differs. -/
@[simp] theorem withHost_frame (s : State) (h : HostPort) :
    (s.withHost h).pending = s.pending ∧ (s.withHost h).now = s.now ∧ (s.withHost h).slots = s.slots ∧
    (s.withHost h).nextSession = s.nextSession ∧ (s.withHost h).exhausted = s.exhausted ∧ (s.withHost h).tariffs = s.tariffs ∧
    (s.withHost h).settlements = s.settlements ∧ (s.withHost h).alloc = s.alloc ∧ (s.withHost h).modules = s.modules ∧
    (s.withHost h).prot = s.prot ∧ (s.withHost h).field = s.field ∧ (s.withHost h).notices = s.notices ∧
    (s.withHost h).clock = s.clock ∧ (s.withHost h).control = s.control ∧ (∀ p, (s.withHost h).slot p = s.slot p) ∧
    (∀ p, (s.withHost h).link p = s.link p) ∧ (∀ p, (s.withHost h).allot p = s.allot p) ∧
    (∀ m, (s.withHost h).module m = s.module m) ∧ (∀ n, (s.withHost h).tariff n = s.tariff n) ∧
    (s.withHost h).params = s.params ∧ (∀ pl, (s.withHost h).unsentAt pl = s.unsentAt pl) :=
  ⟨rfl, rfl, rfl, rfl, rfl, rfl, rfl, rfl, rfl, rfl, rfl, rfl, rfl, rfl, fun _ => rfl, fun _ => rfl, fun _ => rfl, fun _ => rfl,
    fun _ => rfl, rfl, fun _ => rfl⟩

/-- The port put in. -/
@[simp] theorem host_withHost (s : State) (h : HostPort) : (s.withHost h).host = h := rfl

/-- A port put in anew. -/
@[simp] theorem withHost_withHost (s : State) (h h' : HostPort) : (s.withHost h).withHost h' = s.withHost h' := rfl

/-- The port that the state has. -/
@[simp] theorem withHost_host (s : State) : s.withHost s.host = s := rfl

/-- An operation that does not touch the port. -/
theorem Portable.of_quiet (hf : ∀ h, f (s.withHost h) = (f s).withHost h) : Portable f s :=
  ⟨[], fun h => by rw [List.append_nil]; exact hf h⟩

/-- No operation. -/
theorem Portable.refl (s : State) : Portable (fun s => s) s := .of_quiet fun _ => rfl

/-- One operation behind another. -/
theorem Portable.comp (hg : Portable g (f s)) (hf : Portable f s) : Portable (fun s => g (f s)) s := by
  obtain ⟨a, ha⟩ := hf
  obtain ⟨b, hb⟩ := hg
  refine ⟨a ++ b, fun h => ?_⟩
  change g (f (s.withHost h)) = (g (f s)).withHost _
  rw [ha, hb, List.append_assoc]

/-- An operation that does as another does, whatever the port. -/
theorem Portable.congr (hg : Portable g s) (h : ∀ h, f (s.withHost h) = g (s.withHost h)) : Portable f s := by
  have hs : f s = g s := h s.host
  obtain ⟨records, hrecords⟩ := hg
  exact ⟨records, fun port => by rw [h port, hrecords port, hs]⟩

/-- A run of operations, one for each of a list. -/
theorem Portable.foldl {α : Type} {step : State → α → State} (hstep : ∀ s a, Portable (fun s => step s a) s) (l : List α) (s : State) :
    Portable (fun s => l.foldl step s) s := by
  induction l generalizing s with
  | nil => exact .refl s
  | cons a l ih => exact (ih (step s a)).comp (hstep s a)

/-- What an operation places in the output. -/
theorem Portable.host_eq (hf : Portable f s) : ∃ records, (f s).host = s.emits records := by
  obtain ⟨records, h⟩ := hf
  exact ⟨records, congrArg State.host (h s.host)⟩

/-- Where the operation's request has left the queue. -/
theorem Portable.dropHead (hf : Portable f s) :
    f s.dropHead = (f s).withHost { s.host with requests := s.host.requests.tail, output := (f s).host.output } := by
  obtain ⟨records, h⟩ := hf
  have hport : (f s).host = { s.host with output := s.host.output ++ records } := congrArg State.host (h s.host)
  have hdrop := h { s.host with requests := s.host.requests.tail }
  rw [hport]
  exact hdrop

end

/-! ### Tables, queues and statuses -/

section
variable (s : State) (p : Pedestal) (m : ModuleNo)

theorem portable_pushOutput (r : HostRecord) : Portable (fun s => s.pushOutput r) s := ⟨[r], fun _ => rfl⟩

theorem portable_raise (c : NoticeClass) : Portable (fun s => s.raise c) s := by
  refine ⟨s.noticed c, fun h => ?_⟩
  have hnotices := notices_raise_congr c (s := s) (t := s.withHost h) rfl
  calc
    (s.withHost h).raise c = _ := raise_eq (s.withHost h) c
    _ = (State.withHost { s with notices := (s.raise c).notices, host := s.emits (s.noticed c) } _) := by rw [hnotices] <;> rfl
    _ = _ := congrArg (fun t => State.withHost t { h with output := h.output ++ s.noticed c }) (raise_eq s c).symm

theorem portable_setSlot_raise (f : State → Slot) (hf : ∀ h, f (s.withHost h) = f s) (c : NoticeClass) :
    Portable (fun s => (s.setSlot p (f s)).raise c) s :=
  .comp (f := fun s => s.setSlot p (f s)) (portable_raise _ c) (.of_quiet fun h => by rw [hf]; rfl)

theorem portable_goTo (st : SlotState) : Portable (fun s => s.goTo p st) s :=
  (portable_setSlot_raise s p (fun s => { s.slot p with state := st, changed := true }) (fun _ => rfl) .session).congr
    fun _ => goTo_eq _ p st

theorem portable_modifySession (f : Session → Session) : Portable (fun s => s.modifySession p f) s := .of_quiet fun _ => rfl

theorem portable_raiseHold : Portable (fun s => s.raiseHold p) s :=
  .comp (f := fun s => { s with notices := { s.notices with holdDetail := s.notices.holdDetail.set p.val true } })
    (portable_raise _ .hold) (.of_quiet fun _ => rfl)

theorem portable_endQuery (code : ResultCode) (data : List Byte) : Portable (fun s => s.endQuery p code data) s := by
  cases hq : (s.link p).query with
  | none => exact (Portable.refl s).congr fun _ => endQuery_of_none (by simpa using hq) code data
  | some q =>
    refine Portable.congr (g := fun s => (s.setLink p { s.link p with query := none, queryTimer := none }).pushOutput _)
      (.comp (f := fun s => s.setLink p { s.link p with query := none, queryTimer := none })
        (portable_pushOutput _ (delayedReply q.tag p code data)) (.of_quiet fun _ => rfl))
      fun _ => endQuery_of_some (by simpa using hq) code data

theorem portable_replaceOrEnqueue (o : Order) : Portable (fun s => s.replaceOrEnqueue o) s := by
  refine .of_quiet fun h => ?_
  rw [State.replaceOrEnqueue, State.replaceOrEnqueue]
  cases hx : s.unsentAt o.place with
  | none => simp [hx] <;> rfl
  | some x => simp [hx] <;> rfl

theorem portable_placeSessionOrder (o : Order) : Portable (fun s => s.placeSessionOrder p o) s := by
  have hreplace : Portable (fun s => s.replaceOrder o) s := .of_quiet fun _ => rfl
  cases hx : s.unsentAt (.other p) with
  | none =>
    exact Portable.congr (g := fun s => s.setQueue (s.field.queue ++ [o])) (.of_quiet fun _ => rfl)
      fun h => placeSessionOrder_of_empty (by simpa using hx)
  | some x =>
    cases x with
    | reset q => exact (Portable.refl s).congr fun h => by simp [State.placeSessionOrder, hx]
    | query q e c =>
      exact Portable.congr (g := fun s => (s.replaceOrder o).endQuery p .noAnswer [])
        ((portable_endQuery _ p .noAnswer []).comp hreplace) fun h => by simp [State.placeSessionOrder, hx]
    | setpoint | beginSession | endSession | refuse | precharge | close | ramp | openContact =>
      exact hreplace.congr fun h => by simp [State.placeSessionOrder, hx]

theorem portable_placeOrder (o : Order) : Portable (fun s => s.placeOrder o) s := by
  cases o with
  | setpoint | precharge | close | ramp | openContact => exact portable_replaceOrEnqueue s _
  | beginSession q n => exact portable_placeSessionOrder s q _
  | endSession q => exact portable_placeSessionOrder s q _
  | refuse q => exact portable_placeSessionOrder s q _
  | reset | query => exact .of_quiet fun _ => rfl

theorem portable_startTransmit : Portable State.startTransmit s := by
  refine .of_quiet fun h => ?_
  rw [startTransmit_congr (s := s) (by simp)]
  conv => rhs; rw [startTransmit_congr (s := s) (t := s) rfl]
  rfl

/-! ### Modules and power -/

theorem portable_openContactor : Portable (fun s => s.openContactor m) s :=
  .comp (f := fun s => s.placeOrder (.openContact m))
    (g := fun s => s.setModule m { s.module m with state := .contactOpen, timer := s.contactTimer, releaseOnClose := false })
    (.of_quiet fun _ => rfl) (portable_placeOrder s _)

theorem portable_leaveRunning : Portable (fun s => s.leaveRunning p) s := by
  refine .of_quiet fun h => ?_
  rw [leaveRunning_eq, leaveRunning_eq]
  rfl

/-! ### Sessions -/

theorem portable_addReason (r : Reason) : Portable (fun s => s.addReason p r) s := by
  unfold State.addReason
  cases hstate : (s.slot p).state with
  | running =>
    refine Portable.congr
      (g := fun s => (((s.modifySession p fun e => { e with reasons := e.reasons.add r }).goTo p .suspended).modifySession p
        (Session.openEntry r s.clock.day s.clock.minute)).leaveRunning p) ?_ fun h => by simp [hstate]
    have hfirst : Portable (fun s => (s.modifySession p fun e => { e with reasons := e.reasons.add r }).goTo p .suspended) s :=
      (portable_goTo _ p .suspended).comp (portable_modifySession s p _)
    have hentry := (portable_modifySession _ p (Session.openEntry r s.clock.day s.clock.minute)).comp hfirst
    exact ((portable_leaveRunning _ p).comp hentry).congr fun _ => rfl
  | suspended =>
    exact (portable_modifySession s p fun e => { e with reasons := e.reasons.add r }).congr fun h => by simp [hstate]
  | vacant | plugged | starting | finished | waitUnplug => exact (Portable.refl s).congr fun h => by simp [hstate]

theorem portable_judge : Portable (fun s => s.judge p) s := by
  have hreturn : Portable (fun t => (t.goTo p .running).modifySession p (Session.closeEntries t.clock.day t.clock.minute)) s :=
    ((portable_modifySession _ p (Session.closeEntries s.clock.day s.clock.minute)).comp (portable_goTo s p .running)).congr
      fun _ => rfl
  have hstay (h : ∀ t : State, t.slot p = s.slot p → t.judge p = t) : Portable (fun s => s.judge p) s :=
    (Portable.refl s).congr fun port => h _ rfl
  cases hx : (s.slot p).session with
  | none => exact hstay fun t ht => judge_of_no_session (by rw [ht]; exact hx)
  | some e =>
    cases hstate : (s.slot p).state with
    | suspended =>
      cases hempty : e.reasons.isEmpty with
      | true => exact hreturn.congr fun h => by simp [State.judge, hx, hstate, hempty]
      | false => exact hstay fun t ht => by simp [State.judge, ht, hx, hstate, hempty]
    | vacant | plugged | starting | running | finished | waitUnplug =>
      exact hstay fun t ht => by simp [State.judge, ht, hx, hstate]

theorem portable_startExtension : Portable (fun s => s.startExtension p) s := .of_quiet fun _ => rfl

theorem portable_holdReached : Portable (fun s => s.holdReached p) s := by
  have hadd : Portable (fun s => (s.addReason p .hold).startExtension p) s :=
    (portable_startExtension _ p).comp (portable_addReason s p .hold)
  cases hstate : (s.slot p).state with
  | running => exact hadd.congr fun h => by simp [State.holdReached, hstate]
  | suspended => exact hadd.congr fun h => by simp [State.holdReached, hstate]
  | vacant | plugged | starting | finished | waitUnplug =>
    exact (Portable.refl s).congr fun h => by simp [State.holdReached, hstate]

theorem portable_orderEnd : Portable (fun s => s.orderEnd p) s := by
  have hplace : Portable (fun s => (s.placeOrder (.endSession p)).modifySession p fun e => { e with endOrdered := true }) s :=
    (portable_modifySession _ p _).comp (portable_placeOrder s _)
  cases hx : (s.slot p).session with
  | none => exact (Portable.refl s).congr fun h => by simp [State.orderEnd, hx]
  | some e =>
    cases hended : e.endOrdered with
    | true => exact (Portable.refl s).congr fun h => by simp [State.orderEnd, hx, hended]
    | false => exact hplace.congr fun h => by simp [State.orderEnd, hx, hended]

theorem portable_loadGrace : Portable (fun s => s.loadGrace p) s := by
  refine .of_quiet fun h => ?_
  cases hx : (s.slot p).session with
  | none => simp [State.loadGrace, hx]
  | some e => simp [State.loadGrace, hx] <;> rfl

theorem portable_finish (cause : FinishCause) : Portable (fun s => s.finish p cause) s := by
  have hopen : Portable (fun s => ((((s.goTo p .finished).modifySession p fun e =>
      { e.closeEntries s.clock.day s.clock.minute with
        finishCause := some cause, reasons := .none, extensionWindow := none, startWait := none }).orderEnd p).leaveRunning p).loadGrace p) s := by
    have hslot := (portable_modifySession _ p fun e =>
      { e.closeEntries s.clock.day s.clock.minute with
        finishCause := some cause, reasons := .none, extensionWindow := none, startWait := none }).comp (portable_goTo s p .finished)
    have hend := (portable_orderEnd _ p).comp hslot
    have hleave := (portable_leaveRunning _ p).comp hend
    exact ((portable_loadGrace _ p).comp hleave).congr fun _ => rfl
  cases hstate : (s.slot p).state with
  | starting | running | suspended => exact hopen.congr fun h => by simp [State.finish, hstate]
  | vacant | plugged | finished | waitUnplug => exact (Portable.refl s).congr fun h => by simp [State.finish, hstate]

theorem portable_refuseSlot : Portable (fun s => s.refuseSlot p) s := by
  have hgo := (portable_goTo _ p .waitUnplug).comp (f := fun s => s.setSlot p { s.slot p with authWait := none }) (s := s)
    (.of_quiet fun _ => rfl)
  exact (portable_placeOrder _ (.refuse p)).comp hgo

theorem portable_compareTopUp : Portable (fun s => s.compareTopUp p) s := by
  have hflag : Portable (fun s => (s.modifyAccrual p fun a => { a with topUpRequested := true }).raiseHold p) s :=
    (portable_raiseHold _ p).comp (portable_modifySession s p _)
  cases hx : (s.slot p).session with
  | none => exact (Portable.refl s).congr fun h => by simp [State.compareTopUp, hx]
  | some e =>
    by_cases hdue : e.accrual.hold * s.params.topUpPercent * 10 ≤ e.accrual.accrued ∧ e.accrual.topUpRequested = false
    · exact hflag.congr fun h => by simp [State.compareTopUp, hx, hdue]
    · exact (Portable.refl s).congr fun h => by simp only [State.compareTopUp, withHost_frame, hx, if_neg hdue]

theorem portable_compareReached : Portable (fun s => s.compareReached p) s := by
  have hflag : Portable (fun s => ((s.modifyAccrual p fun a => { a with holdReached := true }).raiseHold p).holdReached p) s :=
    (portable_holdReached _ p).comp ((portable_raiseHold _ p).comp (portable_modifySession s p _))
  cases hx : (s.slot p).session with
  | none => exact (Portable.refl s).congr fun h => by simp [State.compareReached, hx]
  | some e =>
    by_cases hdue : e.accrual.hold * 1000 ≤ e.accrual.accrued ∧ e.accrual.holdReached = false
    · exact hflag.congr fun h => by simp [State.compareReached, hx, hdue]
    · exact (Portable.refl s).congr fun h => by simp only [State.compareReached, withHost_frame, hx, if_neg hdue]

theorem portable_compareHold : Portable (fun s => s.compareHold p) s :=
  (portable_compareReached _ p).comp (portable_compareTopUp s p)

theorem portable_extendSession (hold : Nat) : Portable (fun s => s.extendSession p hold) s :=
  (portable_judge _ p).comp
    ((portable_compareHold _ p).comp
      ((portable_modifySession _ p Session.withoutHold).comp (portable_modifySession s p _)))

theorem portable_restartPedestal : Portable (fun s => s.restartPedestal p) s := by
  have hplace := (portable_placeOrder _ (.reset p)).comp (f := fun s => s.advanceEpoch p) (s := s) (.of_quiet fun _ => rfl)
  have hend := (portable_endQuery _ p .pedestalReset []).comp hplace
  exact (portable_finish _ p .pedestalRestart).comp ((portable_modifySession _ p fun e => { e with endOrdered := true }).comp hend)

theorem portable_askPedestal (tag code : Byte) : Portable (fun s => s.askPedestal p tag code) s := .of_quiet fun _ => rfl

/-- The opening of a session before its slot's change of state: the number, the reference count, the stamp, the cap and the session. -/
def State.opening (s : State) (p : Pedestal) (n : TariffNo) (hold : Nat) (cap : Cap) : State :=
  let t := ((s.issueNumber).setReferences n fun k => k + 1).stamp
  let t := t.setAllot p { t.allot p with stagedCap := some cap }
  t.setSlot p { t.slot p with session := some (s.openedSession p n hold), authWait := none }

theorem portable_openSession (n : TariffNo) (hold : Nat) (cap : Cap) : Portable (fun s => s.openSession p n hold cap) s := by
  have hissued (h : HostPort) : (s.withHost h).issueNumber = s.issueNumber.withHost h := by
    by_cases hlast : s.nextSession < 4294967295
    · simp [State.issueNumber, hlast] <;> rfl
    · simp [State.issueNumber, hlast] <;> rfl
  have hopening : Portable (fun s => s.opening p n hold cap) s := .of_quiet fun h => by
    unfold State.opening
    rw [hissued]
    rfl
  exact ((portable_placeOrder _ (.beginSession p (s.nextSession % 65536))).comp ((portable_goTo _ p .starting).comp hopening)).congr
    fun _ => rfl

theorem portable_removeCutoffAt : Portable (fun s => s.removeCutoffAt p) s := by
  have hremove : Portable (fun s => (s.removeReason p .cutoff).judge p) s :=
    (portable_judge _ p).comp (portable_modifySession s p _)
  cases hx : (s.slot p).session with
  | none => exact (Portable.refl s).congr fun h => by simp [State.removeCutoffAt, hx]
  | some e =>
    cases hc : e.reasons.cutoff with
    | true => exact hremove.congr fun h => by simp [State.removeCutoffAt, hx, hc]
    | false => exact (Portable.refl s).congr fun h => by simp [State.removeCutoffAt, hx, hc]

theorem portable_clearCutoff : Portable State.clearCutoff s :=
  .comp (f := fun s =>
      { s with prot := { s.prot with latch := false, sources := { estop := false, trip := false, restart := false } } })
    (Portable.foldl (fun s p => portable_removeCutoffAt s p) allPedestals _) (.of_quiet fun _ => rfl)

theorem portable_maskClass (c : NoticeClass) (masked : Bool) : Portable (fun s => s.maskClass c masked) s := by
  by_cases h : (s.notices.flags c).masked = true ∧ (s.notices.flags c).pending = true ∧ masked = false
  · exact Portable.congr (g := fun s =>
        (s.setFlags c { s.notices.flags c with masked := false, pending := false }).pushOutput (noticeRecord c))
      ((portable_pushOutput _ _).comp (f := fun s => s.setFlags c { s.notices.flags c with masked := false, pending := false })
        (.of_quiet fun _ => rfl)) fun port => by simp [State.maskClass, h]
  · exact Portable.congr (g := fun s => s.setFlags c { s.notices.flags c with masked := masked }) (.of_quiet fun _ => rfl)
      fun port => by simp only [State.maskClass, withHost_frame, if_neg h]

theorem portable_maskClasses (map : Nat) : Portable (fun s => s.maskClasses map) s :=
  Portable.foldl (fun s c => portable_maskClass s c (maskBit map c)) allClasses s

theorem portable_curtailTo (cap : Nat) : Portable (fun s => s.curtailTo cap) s := .of_quiet fun h => curtailTo_withHost s h cap

end

end Sys2Proof.Machine
end

section
/-! # Requests taken, refused and answered (R166, R167, R169, R183)

Every request command takes the head of the request queue for the owner of its kind; what an owner answers is one of three things, and
the reads answer with the state as it stands. -/

namespace Sys2Proof.Machine

/-! ### The owners -/

/-- The owner of a request kind: what it makes of the request and of the state without it. -/
def RequestKind.owner : RequestKind → HostRecord → State → Taken
  | .identify => fun _ s => accept s.identityBytes s
  | .parkStatus => fun _ s => accept s.parkBytes s
  | .noticeStatus => fun _ s => accept s.noticeBytes s
  | .noticeMask => fun r s => accept [] (s.maskClasses (fieldAt r.body 0 1))
  | .statusClear => fun r s => s.statusClear r.body
  | .commission => fun r s => s.commission r.body
  | .configure => fun r s => s.configure r.body
  | .timeSet => fun r s => s.timeSet r.body
  | .tariffLoad => fun r s => s.tariffLoad r.body
  | .tariffRetire => fun r s => s.tariffRetire r.body
  | .tariffRead => fun r s => s.tariffRead r.body
  | .authorise => fun r s => s.authorise r.body
  | .deny => fun r s => s.deny r.body
  | .extendHold => fun r s => s.extendHold r.body
  | .stop => fun r s => s.stop r.body
  | .sessionCap => fun r s => s.sessionCap r.body
  | .sessionRead => fun r s => s.sessionRead r.body
  | .settleRead => fun _ s => s.settleRead
  | .settleFree => fun r s => s.settleFree r.body
  | .curtail => fun r s => s.curtail r.body
  | .cutoffClear => fun _ s => s.cutoffClear
  | .pedestalMode => fun r s => s.pedestalMode r.body
  | .pedestalRestart => fun r s => s.pedestalRestart r.body
  | .pedestalQuery => fun r s => s.pedestalQuery r.tag r.body
  | .moduleRead => fun r s => s.moduleRead r.body
  | .moduleReturn => fun r s => s.moduleReturn r.body
  | .restart => fun _ s => accept [] { s with host := { s.host with restartAfter := some (s.host.output.length + 1) } }

/-- A request command is the taking of a request for the owner of its kind. -/
theorem exec_command (k : RequestKind) (s : State) : exec k.command s = takeRequest k s k.owner := by cases k <;> rfl

section
variable {k : RequestKind} {s : State} {r : HostRecord} {code : ResultCode} {fields : List Byte}

/-- A request that its owner refuses is answered with the code. -/
theorem exec_command_of_refuse (h : s.Takes k r) (hcode : code ≠ .ok) (howner : k.owner r s.dropHead = refuse code s.dropHead) :
    exec k.command s = .next (s.answered r code []) := by
  rw [exec_command]
  exact takeRequest_of_refuse h hcode howner

/-- A request that its owner accepts without a change is answered OK. -/
theorem exec_command_of_accept (h : s.Takes k r) (howner : k.owner r s.dropHead = accept fields s.dropHead) :
    exec k.command s = .next (s.answered r .ok fields) := by
  rw [exec_command]
  exact takeRequest_of_accept h howner

/-- A request that its owner accepts leaves the owner's state, with the reply at the output's tail. -/
theorem exec_command_of_changed {t : State} (h : s.Takes k r) (howner : k.owner r s.dropHead = accept fields t) :
    exec k.command s = .next (t.pushOutput (replyTo r .ok fields)) := by
  rw [exec_command]
  exact takeRequest_of_accept_changed h howner

/-- A request whose owner runs an operation that reads nothing of the port leaves what the operation makes of the state as it stood, with
the request gone and the reply behind the records of the operation. -/
theorem exec_command_of_portable {f : State → State} (h : s.Takes k r) (hf : Portable f s)
    (howner : k.owner r s.dropHead = accept fields (f s.dropHead)) :
    exec k.command s = .next
      { f s with host := { s.host with requests := s.host.requests.tail, output := (f s).host.output ++ [replyTo r .ok fields] } } := by
  rw [exec_command_of_changed h howner, hf.dropHead]
  rfl

/-- A request that the port does not take, or one of another kind, is left where it stands. -/
theorem exec_command_of_untaken (h : ∀ r, s.AtHead r → r.kind ≠ k.code) : exec k.command s = .next s := by
  rw [exec_command]
  exact takeRequest_of_untaken k.owner h

/-- A request of a wrong body length is answered BAD_LENGTH. -/
theorem exec_command_of_badLength (h : s.AtHead r) (hkind : r.kind = k.code) (hlength : r.body.length ≠ k.bodyLength) :
    exec k.command s = .next (s.answered r .badLength []) := by
  rw [exec_command, takeRequest, (headRequest_eq_some s r).2 h]
  simp only [hkind, hlength, ne_eq, not_true, not_false_eq_true, if_true, if_false]
  exact congrArg Host.Outcome.next (reply_of_refusal s r .badLength (by decide))

end

/-! ### Kinds -/

/-- The request kinds, in the order of their codes. -/
def allKinds : List RequestKind :=
  [.identify, .parkStatus, .noticeStatus, .noticeMask, .statusClear, .commission, .configure, .timeSet, .tariffLoad, .tariffRetire,
    .tariffRead, .authorise, .deny, .extendHold, .stop, .sessionCap, .sessionRead, .settleRead, .settleFree, .curtail, .cutoffClear,
    .pedestalMode, .pedestalRestart, .pedestalQuery, .moduleRead, .moduleReturn, .restart]

/-- Every kind is listed. -/
theorem mem_allKinds (k : RequestKind) : k ∈ allKinds := by cases k <;> decide

/-- The codes of the kinds are the 27 codes from 1 on. -/
theorem codes_allKinds : allKinds.map (fun k => k.code.toNat) = (List.range 27).map (· + 1) := by decide

/-- A kind of chapter 12 is one that a request kind has. -/
theorem isRequestKind_iff (b : Byte) : isRequestKind b = true ↔ ∃ k : RequestKind, b = k.code := by
  have hcodes : b.toNat ∈ allKinds.map (fun k => k.code.toNat) ↔ 1 ≤ b.toNat ∧ b.toNat ≤ 27 := by
    rw [codes_allKinds]
    simp only [List.mem_map, List.mem_range]
    exact ⟨fun ⟨i, hi, h⟩ => by omega, fun h => ⟨b.toNat - 1, by omega, by omega⟩⟩
  have hkind : isRequestKind b = true ↔ 1 ≤ b.toNat ∧ b.toNat ≤ 27 := by simp [isRequestKind]
  rw [hkind, ← hcodes]
  simp only [List.mem_map]
  constructor
  · rintro ⟨k, -, h⟩
    exact ⟨k, (BitVec.eq_of_toNat_eq h).symm⟩
  · rintro ⟨k, rfl⟩
    exact ⟨k, mem_allKinds k, rfl⟩

/-- Settles O27: by the taking of a request, and the kinds of chapter 12. -/
theorem untakenAndMalformedRequestsDoNothingElse : Obligations.UntakenAndMalformedRequestsDoNothingElse := by
  refine ⟨⟨fun k s h => exec_command_of_untaken h, fun s h => ?otherKind⟩,
    fun k s r h hkind hlength => exec_command_of_badLength h hkind hlength, fun s r h hkind => ?badKind⟩
  case otherKind =>
    change execBadKind s = .next s
    unfold execBadKind
    cases hhead : s.headRequest with
    | none => rfl
    | some r =>
      have hkind := (isRequestKind_iff r.kind).2 (h r ((headRequest_eq_some s r).1 hhead))
      simp [hkind]
  case badKind =>
    change execBadKind s = _
    have hnot : isRequestKind r.kind = false := by
      rw [Bool.eq_false_iff]
      exact fun hyes => ((isRequestKind_iff r.kind).1 hyes).elim hkind
    simp only [execBadKind, (headRequest_eq_some s r).2 h, hnot]
    exact congrArg Host.Outcome.next (reply_of_refusal s r .badKind (by decide))

/-! ### RESTART and the output (R168, R183) -/

/-- A requested restart begins at the end of its reply, and not before. -/
theorem exec_commandedRestartBegin (s : State) (straps : BitVec 2) (cut : Option Nat) :
    exec (.commandedRestartBegin straps cut) s =
      if s.isLive ∧ s.host.restartAfter = some 0 then .next (s.restart .commanded straps cut) else .next s := rfl

/-- The record at the head of the output is transmitted. -/
theorem exec_outputRecordSent_of_head {s : State} {r : HostRecord} {rest : List HostRecord} (time : Nat) (hlive : s.Live)
    (houtput : s.host.output = r :: rest) (hafter : s.host.restartAfter ≠ some 0) :
    exec (.outputRecordSent time) s = .next ((s.advance time).recordSent r rest).startTransmit :=
  occur_of_some (f := fun s => match s.host.output with
    | [] => none
    | r :: rest => if s.host.restartAfter = some 0 then none else some ((s.advance time).recordSent r rest)) hlive
    (by simp [houtput, hafter])

/-- Settles O45: by the taking of RESTART and the two events that follow it. -/
theorem restartWaitsForItsReply : Obligations.RestartWaitsForItsReply := by
  refine ⟨fun s time r rest hlive houtput hafter => exec_outputRecordSent_of_head time hlive houtput hafter,
    fun s r h => ?taken, fun k s n hafter => ?untaken, fun s straps cut hlive hafter => ?begins, fun s straps cut hafter => ?waits⟩
  case taken => exact exec_command_of_changed (k := .restart) h rfl
  case untaken => exact exec_command_of_untaken fun r hr => absurd (hafter.symm.trans hr.2.1) (by simp)
  case begins => rw [exec_commandedRestartBegin, if_pos ⟨(isLive_iff_Live s).2 hlive, hafter⟩]
  case waits => rw [exec_commandedRestartBegin, if_neg fun h => hafter h.2]

/-! ### What an owner answers (R167, R169) -/

/-- What an owner makes of a state: a refusal without a change, an acceptance whose state has records at the tail of its output, or, for
a taken PEDESTAL-QUERY, no answer and no record. -/
def RequestKind.Answers (k : RequestKind) (s : State) (x : Taken) : Prop :=
  (∃ code, code ≠ .ok ∧ x = refuse code s) ∨
  (∃ t fields raised, x = accept fields t ∧ t.host.requests = s.host.requests ∧ t.host.output = s.host.output ++ raised) ∨
  (k = .pedestalQuery ∧ ∃ t, x = (t, none) ∧ t.host.requests = s.host.requests ∧ t.host.output = s.host.output)

section
variable {k : RequestKind} {s : State}

theorem answers_refuse (code : ResultCode) (hcode : code ≠ .ok) : k.Answers s (refuse code s) := Or.inl ⟨code, hcode, rfl⟩

theorem answers_same (fields : List Byte) {t : State} (h : t.host = s.host) : k.Answers s (accept fields t) :=
  Or.inr (Or.inl ⟨t, fields, [], rfl, by rw [h], by simp [h]⟩)

theorem answers_of_portable (fields : List Byte) {f : State → State} (hf : Portable f s) : k.Answers s (accept fields (f s)) := by
  obtain ⟨records, h⟩ := hf.host_eq
  exact Or.inr (Or.inl ⟨f s, fields, records, rfl, by rw [h]; rfl, by rw [h]; rfl⟩)

end

section
variable (s : State) (body : List Byte)

/-- The checks of AUTHORISE refuse with a code other than OK. -/
theorem authoriseChecks_ne_ok {s : State} {p : Pedestal} {tariff hold : Nat} {cap : Option Cap} {code : ResultCode}
    (h : s.authoriseChecks p tariff hold cap = .inl code) : code ≠ .ok := by
  rintro rfl
  unfold State.authoriseChecks at h
  repeat' split at h
  all_goals simp at h

/-- What a taken PEDESTAL-QUERY leaves of the port. -/
theorem host_askPedestal (p : Pedestal) (tag code : Byte) : (s.askPedestal p tag code).startTransmit.host = s.host := by simp [State.askPedestal, State.placeOrder]

/-- Every owner answers in one of the three ways. -/
theorem answers_owner (k : RequestKind) (r : HostRecord) : k.Answers s (k.owner r s) := by
  cases k with
  | identify | parkStatus | noticeStatus => exact answers_same _ rfl
  | noticeMask => exact answers_of_portable (f := fun s => s.maskClasses (fieldAt r.body 0 1)) _ (portable_maskClasses s _)
  | statusClear =>
    simp only [RequestKind.owner, State.statusClear]
    split
    · exact answers_refuse _ (by decide)
    next c _ => exact answers_same _ (by cases c <;> simp [State.clearClass, State.clearDetail])
  | commission =>
    simp only [RequestKind.owner, State.commission]
    split
    · exact answers_refuse _ (by decide)
    · split
      · exact answers_refuse _ (by decide)
      · exact answers_same _ rfl
  | configure =>
    simp only [RequestKind.owner, State.configure]
    split
    · refine answers_same _ ?_
      simp only [State.sagConfigured]
      split <;> rfl
    · exact answers_refuse _ (by decide)
  | timeSet =>
    simp only [RequestKind.owner, State.timeSet]
    split
    · exact answers_same _ rfl
    · exact answers_refuse _ (by decide)
  | tariffLoad =>
    simp only [RequestKind.owner, State.tariffLoad]
    split
    · exact answers_refuse _ (by decide)
    · split
      · exact answers_refuse _ (by decide)
      · split
        · exact answers_refuse _ (by decide)
        · exact answers_same _ rfl
  | tariffRetire =>
    simp only [RequestKind.owner, State.tariffRetire]
    split
    · exact answers_refuse _ (by decide)
    · split
      · exact answers_same _ rfl
      · exact answers_same _ rfl
      · exact answers_refuse _ (by decide)
  | tariffRead =>
    simp only [RequestKind.owner, State.tariffRead]
    split
    · exact answers_refuse _ (by decide)
    · exact answers_same _ rfl
  | authorise =>
    simp only [RequestKind.owner, State.authorise]
    split
    · exact answers_refuse _ (by decide)
    · split
      next code hcode => exact answers_refuse _ (authoriseChecks_ne_ok hcode)
      next n cap _ =>
        exact answers_of_portable (f := fun s => (s.openSession _ n _ cap).startTransmit) _
          ((portable_startTransmit _).comp (portable_openSession s _ n _ cap))
  | deny =>
    simp only [RequestKind.owner, State.deny]
    split
    · exact answers_refuse _ (by decide)
    next p _ =>
      split
      · exact answers_of_portable (f := fun s => (s.refuseSlot p).startTransmit) _
          ((portable_startTransmit _).comp (portable_refuseSlot s p))
      · exact answers_refuse _ (by decide)
  | extendHold =>
    simp only [RequestKind.owner, State.extendHold]
    split
    · exact answers_refuse _ (by decide)
    next p _ =>
      split
      · exact answers_refuse _ (by decide)
      · split
        · exact answers_refuse _ (by decide)
        · split
          · exact answers_refuse _ (by decide)
          · exact answers_of_portable (f := fun s => (s.extendSession p _).startTransmit) _
              ((portable_startTransmit _).comp (portable_extendSession s p _))
  | stop =>
    simp only [RequestKind.owner, State.stop]
    split
    · exact answers_refuse _ (by decide)
    next p _ =>
      split
      · exact answers_refuse _ (by decide)
      · exact answers_of_portable (f := fun s => (s.finish p .hostStop).startTransmit) _
          ((portable_startTransmit _).comp (portable_finish s p .hostStop))
  | sessionCap =>
    simp only [RequestKind.owner, State.sessionCap]
    split
    · exact answers_refuse _ (by decide)
    · split
      · exact answers_refuse _ (by decide)
      · exact answers_same _ rfl
  | sessionRead =>
    simp only [RequestKind.owner, State.sessionRead]
    split
    · exact answers_refuse _ (by decide)
    · exact answers_same _ rfl
  | settleRead =>
    simp only [RequestKind.owner, State.settleRead]
    split
    · exact answers_refuse _ (by decide)
    · exact answers_same _ rfl
  | settleFree =>
    simp only [RequestKind.owner, State.settleFree]
    split
    · exact answers_refuse _ (by decide)
    · split
      · exact answers_same _ rfl
      · exact answers_refuse _ (by decide)
  | curtail =>
    simp only [RequestKind.owner, State.curtail]
    split
    · exact answers_refuse _ (by decide)
    · split
      · exact answers_refuse _ (by decide)
      · exact answers_of_portable (f := fun s => (s.curtailTo _).startTransmit) _
          ((portable_startTransmit _).comp (portable_curtailTo s _))
  | cutoffClear =>
    simp only [RequestKind.owner, State.cutoffClear]
    split
    · exact answers_refuse _ (by decide)
    · split
      · exact answers_of_portable _ (portable_clearCutoff s)
      · exact answers_same _ rfl
  | pedestalMode =>
    simp only [RequestKind.owner, State.pedestalMode]
    split
    · split
      · exact answers_same _ rfl
      · exact answers_refuse _ (by decide)
    · exact answers_refuse _ (by decide)
  | pedestalRestart =>
    simp only [RequestKind.owner, State.pedestalRestart]
    split
    · exact answers_refuse _ (by decide)
    next p _ =>
      split
      · exact answers_refuse _ (by decide)
      · split
        · exact answers_refuse _ (by decide)
        · exact answers_of_portable (f := fun s => (s.restartPedestal p).startTransmit) _
            ((portable_startTransmit _).comp (portable_restartPedestal s p))
  | pedestalQuery =>
    simp only [RequestKind.owner, State.pedestalQuery]
    split
    · exact answers_refuse _ (by decide)
    next p _ =>
      split
      · exact answers_refuse _ (by decide)
      · split
        · exact answers_refuse _ (by decide)
        · split
          · exact answers_refuse _ (by decide)
          · have hhost := host_askPedestal s p r.tag (r.body.getD 1 0)
            exact Or.inr (Or.inr ⟨rfl, _, rfl, by rw [hhost], by rw [hhost]⟩)
  | moduleRead =>
    simp only [RequestKind.owner, State.moduleRead]
    split
    · exact answers_refuse _ (by decide)
    · exact answers_same _ rfl
  | moduleReturn =>
    simp only [RequestKind.owner, State.moduleReturn]
    split
    · exact answers_refuse _ (by decide)
    next m _ =>
      split
      · exact answers_same _ (by simp)
      · exact answers_refuse _ (by decide)
  | restart => exact Or.inr (Or.inl ⟨_, _, [], rfl, rfl, (List.append_nil _).symm⟩)

end

/-- Settles O28: by the three ways in which an owner answers. -/
theorem refusedRequestChangesNothing : Obligations.RefusedRequestChangesNothing := by
  intro k s r h
  rcases answers_owner s.dropHead k r with ⟨code, hcode, howner⟩ | ⟨t, fields, raised, howner, hrequests, houtput⟩ | ⟨hk, t, howner, hrequests, houtput⟩
  · exact ⟨_, exec_command_of_refuse h hcode howner, rfl, Or.inl ⟨code, hcode, rfl⟩⟩
  · refine ⟨_, exec_command_of_changed h howner, hrequests, Or.inr (Or.inl ⟨raised, fields, ?_⟩)⟩
    rw [output_pushOutput, houtput]
    rfl
  · refine ⟨t, ?_, hrequests, Or.inr (Or.inr ⟨hk, houtput⟩)⟩
    rw [exec_command, takeRequest_of_takes k.owner h, howner]
    rfl

/-! ### Reads -/

/-- The body of IDENTIFY, byte for byte (R174). -/
theorem identityBytes_eq (s : State) :
    s.identityBytes =
      [0x47, 16, 1, BitVec.ofNat 8 s.control.straps.toNat, if s.control.commissioned then 1 else 0,
        BitVec.ofNat 8 (restartCode (some s.control.lastKind))] := by
  cases hc : s.control.commissioned <;> simp [State.identityBytes, leBytes_one, flagByte, hc, Config.familyCode, Config.memberCode, Config.designRevision]

/-- Settles O29: the owners of the reads accept with the state as it stands. -/
theorem readsReplyAndChangeNothing : Obligations.ReadsReplyAndChangeNothing := by
  refine fun s r => ⟨fun h => ?identify, fun h => ?park, fun h => ?notices, fun h => ⟨fun p hp => ?session, fun hp => ?noSession⟩,
    fun h => ⟨fun m hm => ?module, fun hm => ?noModule⟩⟩
  case identify =>
    have hread := exec_command_of_accept (k := .identify) h rfl
    rw [identityBytes_eq] at hread
    have hlast : s.dropHead.control.lastKind = s.control.lastKind := rfl
    rw [hlast] at hread
    cases hkind : s.control.lastKind <;> rw [hkind] at hread <;> exact hread
  case park => exact exec_command_of_accept (k := .parkStatus) h rfl
  case notices => exact exec_command_of_accept (k := .noticeStatus) h rfl
  case session => exact exec_command_of_accept (k := .sessionRead) h (by simp [RequestKind.owner, State.sessionRead, hp]; rfl)
  case noSession => exact exec_command_of_refuse (k := .sessionRead) h (by decide) (by simp [RequestKind.owner, State.sessionRead, hp])
  case module => exact exec_command_of_accept (k := .moduleRead) h (by simp [RequestKind.owner, State.moduleRead, hm]; rfl)
  case noModule => exact exec_command_of_refuse (k := .moduleRead) h (by decide) (by simp [RequestKind.owner, State.moduleRead, hm])

end Sys2Proof.Machine
end

section
/-! # The requests that change one thing (R10, R14, R19, R34, R69, R70, R72, R140, R156, R158, R179, R181)

Each request is its owner's equation for one branch, carried to the next state: the operation runs as without the request, and the reply
joins the output behind what it raised. -/

namespace Sys2Proof.Machine

/-! ### CONFIGURE and TIME-SET (R140, R179, R181) -/

/-- A value in a range. -/
theorem within_iff {low high n : Nat} : within low high n = true ↔ low ≤ n ∧ n ≤ high := by simp [within]

/-- The ranges and steps of the fifteen parameters (R179). -/
theorem Params.inRange_iff (c : Params) :
    c.inRange = true ↔
      (200 ≤ c.periodMs ∧ c.periodMs ≤ 2000 ∧ c.periodMs % 100 = 0) ∧ (1 ≤ c.reportTimeoutS ∧ c.reportTimeoutS ≤ 10) ∧
      (30 ≤ c.authWaitS ∧ c.authWaitS ≤ 600) ∧ (10 ≤ c.startWaitS ∧ c.startWaitS ≤ 120) ∧
      (10 ≤ c.resumeWindowS ∧ c.resumeWindowS ≤ 300) ∧ (30 ≤ c.extensionWindowS ∧ c.extensionWindowS ≤ 600) ∧
      (50 ≤ c.topUpPercent ∧ c.topUpPercent ≤ 99) ∧ (50 ≤ c.prechargeMs ∧ c.prechargeMs ≤ 1000) ∧
      (100 ≤ c.contactMs ∧ c.contactMs ≤ 2000) ∧ (100 ≤ c.rampMs ∧ c.rampMs ≤ 5000) ∧
      (2 ≤ c.filterLength ∧ c.filterLength ≤ 16) ∧ (1 ≤ c.sagIndex ∧ c.sagIndex ≤ 15) ∧
      (10 ≤ c.deratePercent ∧ c.deratePercent ≤ 100 ∧ c.deratePercent % 10 = 0) ∧
      (5 ≤ c.recoveryHoldS ∧ c.recoveryHoldS ≤ 120) := by
  simp [Params.inRange, within_iff, and_assoc]

/-- What a change of sag enable does to the Protection Unit (R140). -/
theorem sagConfigured_eq (s : State) (before : Bool) :
    s.sagConfigured before =
      { s with prot :=
          if before = s.params.sagEnable then s.prot
          else if s.params.sagEnable = true then { s.prot with settling := 3 }
          else { s.prot with derate := false, recoveryHold := none, silence := none, live := .unknown, settling := 3 } } := by
  cases before <;> cases h : s.params.sagEnable <;> simp [State.sagConfigured, h]

/-- A configuration in range is taken whole (R179). -/
theorem configure_of_good {s : State} {body : List Byte} (h : (paramsAt body).inRange = true ∧ fieldAt body 18 1 ≤ 1) :
    s.configure body =
      accept [] ({ s with control := { s.control with params := paramsAt body } }.sagConfigured s.params.sagEnable) := by
  simp only [State.configure, if_pos h]

/-- A configuration out of range is refused (R179). -/
theorem configure_of_bad {s : State} {body : List Byte} (h : ¬ ((paramsAt body).inRange = true ∧ fieldAt body 18 1 ≤ 1)) :
    s.configure body = refuse .range s := by
  simp only [State.configure, if_neg h]

/-- The fifteen values of a body are in range exactly where R179 says. -/
theorem paramsAt_inRange_iff (body : List Byte) :
    (paramsAt body).inRange = true ∧ fieldAt body 18 1 ≤ 1 ↔
      (200 ≤ fieldAt body 0 2 ∧ fieldAt body 0 2 ≤ 2000 ∧ fieldAt body 0 2 % 100 = 0) ∧
      (1 ≤ fieldAt body 2 1 ∧ fieldAt body 2 1 ≤ 10) ∧ (30 ≤ fieldAt body 3 2 ∧ fieldAt body 3 2 ≤ 600) ∧
      (10 ≤ fieldAt body 5 1 ∧ fieldAt body 5 1 ≤ 120) ∧ (10 ≤ fieldAt body 6 2 ∧ fieldAt body 6 2 ≤ 300) ∧
      (30 ≤ fieldAt body 8 2 ∧ fieldAt body 8 2 ≤ 600) ∧ (50 ≤ fieldAt body 10 1 ∧ fieldAt body 10 1 ≤ 99) ∧
      (50 ≤ fieldAt body 11 2 ∧ fieldAt body 11 2 ≤ 1000) ∧ (100 ≤ fieldAt body 13 2 ∧ fieldAt body 13 2 ≤ 2000) ∧
      (100 ≤ fieldAt body 15 2 ∧ fieldAt body 15 2 ≤ 5000) ∧ (2 ≤ fieldAt body 17 1 ∧ fieldAt body 17 1 ≤ 16) ∧
      fieldAt body 18 1 ≤ 1 ∧ (1 ≤ fieldAt body 19 1 ∧ fieldAt body 19 1 ≤ 15) ∧
      (10 ≤ fieldAt body 20 1 ∧ fieldAt body 20 1 ≤ 100 ∧ fieldAt body 20 1 % 10 = 0) ∧
      (5 ≤ fieldAt body 21 1 ∧ fieldAt body 21 1 ≤ 120) := by
  rw [Params.inRange_iff]
  simp only [paramsAt]
  grind

/-- Settles O33: CONFIGURE splits on the ranges of its values, TIME-SET on its minute. -/
theorem configureAndTimeSetTakeAllOrNothing : Obligations.ConfigureAndTimeSetTakeAllOrNothing := by
  refine ⟨fun s r h => ⟨fun hbad => ?bad, fun hgood => ?good⟩, fun s r h => ⟨fun hlate => ?late, fun hminute => ?time⟩⟩
  case bad =>
    exact exec_command_of_refuse (k := .configure) h (by decide) (configure_of_bad (mt (paramsAt_inRange_iff r.body).1 hbad))
  case good =>
    have hset := (configure_of_good (s := s.dropHead) ((paramsAt_inRange_iff r.body).2 hgood)).trans
      (congrArg (accept []) (sagConfigured_eq _ _))
    exact exec_command_of_changed (k := .configure) h hset
  case late =>
    have hnot : ¬ fieldAt r.body 2 2 < Config.minutesPerDay := by simp only [Config.minutesPerDay]; omega
    exact exec_command_of_refuse (k := .timeSet) h (by decide) (by simp [RequestKind.owner, State.timeSet, hnot])
  case time =>
    have hyes : fieldAt r.body 2 2 < Config.minutesPerDay := by simp only [Config.minutesPerDay]; omega
    exact exec_command_of_changed (k := .timeSet) h (by simp only [RequestKind.owner, State.timeSet, if_pos hyes]; rfl)

/-! ### AUTHORISE is refused (R7) -/

/-- The first check that fails decides the refusal of an AUTHORISE. -/
theorem exec_authorise_of_check {s : State} {r : HostRecord} {p : Pedestal} {code : ResultCode} (h : s.Takes .authorise r)
    (hp : pedestalOf (fieldAt r.body 0 1) = some p)
    (hcheck : s.authoriseChecks p (fieldAt r.body 1 1) (fieldAt r.body 2 4) (optCapAt r.body 6) = .inl code) :
    exec .authorise s = .next (s.answered r code []) := by
  have hdrop : s.dropHead.authoriseChecks p (fieldAt r.body 1 1) (fieldAt r.body 2 4) (optCapAt r.body 6) = .inl code := hcheck
  exact exec_command_of_refuse (k := .authorise) h (authoriseChecks_ne_ok hcheck)
    (by simp only [RequestKind.owner, State.authorise, hp, hdrop])

/-- The cap that an AUTHORISE carries, where its mark and its value are in range. -/
theorem optCapAt_of_good {body : List Byte}
    (h : fieldAt body 6 1 = 0 ∨ (fieldAt body 6 1 = 1 ∧ fieldAt body 7 2 ≤ 500)) :
    optCapAt body 6 = some (if fieldAt body 6 1 = 0 then none else some (fieldAt body 7 2)) := by
  rcases h with h | ⟨h, hcap⟩ <;> simp_all [optCapAt, Config.powerLimit]

/-- No cap is read from a mark above 1 or a value above 500 kW. -/
theorem optCapAt_of_bad {body : List Byte}
    (h : 1 < fieldAt body 6 1 ∨ (fieldAt body 6 1 = 1 ∧ 500 < fieldAt body 7 2)) : optCapAt body 6 = none := by
  rcases h with h | ⟨h, hcap⟩
  · obtain ⟨n, hn⟩ : ∃ n, fieldAt body 6 1 = n + 2 := ⟨fieldAt body 6 1 - 2, by omega⟩
    simp [optCapAt, hn]
  · simp [optCapAt, h, Config.powerLimit, Nat.not_le.2 hcap]

section
variable {s : State} {n : Nat}

/-- The ACTIVE slot of a number. -/
theorem activeTariff_of_active {t : TariffNo} (ht : tariffOf n = some t) (hactive : (s.tariff t).state = .active) :
    s.activeTariff n = some t := by
  simp [State.activeTariff, ht, hactive]

/-- A number of no slot, or of one that is not ACTIVE, is no tariff to bill by. -/
theorem activeTariff_of_other (h : ∀ t, tariffOf n = some t → (s.tariff t).state ≠ .active) : s.activeTariff n = none := by
  cases ht : tariffOf n with
  | none => simp [State.activeTariff, ht]
  | some t => simp [State.activeTariff, ht, h t ht]

/-- The hold of R7 check 6. -/
theorem holdInRange_iff {hold : Nat} : holdInRange hold = true ↔ 1 ≤ hold ∧ hold ≤ 1000000 := by
  rw [holdInRange, Bool.and_eq_true, decide_eq_true_eq, decide_eq_true_eq]
  exact Iff.rfl

end

section
variable {s : State} {p : Pedestal} {n : TariffNo} {tariff hold : Nat} {cap : Option Cap} {kw : Cap}
  (hc : s.control.commissioned = true) (hv : s.clock.valid = true) (hstate : (s.slot p).state = .plugged) (hlink : (s.link p).state = .up)
include hc hv hstate hlink

/-- Check 5: no tariff to bill by. -/
theorem authoriseChecks_of_noTariff (h : s.activeTariff tariff = none) : s.authoriseChecks p tariff hold cap = .inl .noTariff := by
  simp [State.authoriseChecks, hc, hv, hstate, hlink, h]

/-- Check 6: a hold or a cap out of range. -/
theorem authoriseChecks_of_range (h : s.activeTariff tariff = some n) (hbad : cap = none ∨ ¬ holdInRange hold = true) :
    s.authoriseChecks p tariff hold cap = .inl .range := by
  cases cap with
  | none => simp [State.authoriseChecks, hc, hv, hstate, hlink, h]
  | some kw => simp_all [State.authoriseChecks]

variable (h : s.activeTariff tariff = some n) (hhold : holdInRange hold = true)
include h hhold

/-- Check 7: every settlement place taken or promised. -/
theorem authoriseChecks_of_queueFull (hfull : 24 ≤ s.openCount + s.settlements.length) :
    s.authoriseChecks p tariff hold (some kw) = .inl .queueFull := by
  simp [State.authoriseChecks, hc, hv, hstate, hlink, h, hhold, Config.settlementPlaces, hfull]

variable (hroom : s.openCount + s.settlements.length < 24)
include hroom

/-- Check 8: no number left. -/
theorem authoriseChecks_of_limit (hlimit : s.exhausted = true) : s.authoriseChecks p tariff hold (some kw) = .inl .limit := by
  simp [State.authoriseChecks, hc, hv, hstate, hlink, h, hhold, Config.settlementPlaces, Nat.not_le.2 hroom, hlimit]

/-- Every check passed. -/
theorem authoriseChecks_of_good (hlimit : s.exhausted = false) : s.authoriseChecks p tariff hold (some kw) = .inr (n, kw) := by
  simp [State.authoriseChecks, hc, hv, hstate, hlink, h, hhold, Config.settlementPlaces, Nat.not_le.2 hroom, hlimit]

end

/-- Settles O35: check by check, in the order of R7. -/
theorem authoriseIsRefusedByItsFirstFailedCheck : Obligations.AuthoriseIsRefusedByItsFirstFailedCheck := by
  intro s r h tariff hold capMark cap refused
  refine ⟨fun hp => ?pedestal, fun p hp => ⟨fun hc => ?notCommissioned, fun hc => ⟨fun hv => ?timeInvalid, fun hv =>
    ⟨fun hstate => ?state, fun hstate => ⟨fun hlink => ?linkDown, fun hlink => ⟨fun hnone => ?noTariff, fun n hn hactive =>
      ⟨fun hbad => ?range, fun hhold hcap => ⟨fun hfull => ?queueFull, fun hroom hlimit => ?limit⟩⟩⟩⟩⟩⟩⟩⟩
  case pedestal =>
    exact exec_command_of_refuse (k := .authorise) h (by decide) (by simp only [RequestKind.owner, State.authorise, hp])
  case notCommissioned => exact exec_authorise_of_check h hp (by simp [State.authoriseChecks, hc])
  case timeInvalid => exact exec_authorise_of_check h hp (by simp [State.authoriseChecks, hc, hv])
  case state => exact exec_authorise_of_check h hp (by simp [State.authoriseChecks, hc, hv, hstate])
  case linkDown => exact exec_authorise_of_check h hp (by simp [State.authoriseChecks, hc, hv, hstate, hlink])
  case noTariff =>
    exact exec_authorise_of_check h hp (authoriseChecks_of_noTariff hc hv hstate hlink (activeTariff_of_other hnone))
  case range =>
    refine exec_authorise_of_check h hp (authoriseChecks_of_range hc hv hstate hlink (activeTariff_of_active hn hactive) ?_)
    rcases hbad with hlow | hhigh | hmark
    · exact Or.inr fun hin => by have := (holdInRange_iff.1 hin).1; omega
    · exact Or.inr fun hin => by have := (holdInRange_iff.1 hin).2; omega
    · exact Or.inl (optCapAt_of_bad hmark)
  case queueFull =>
    refine exec_authorise_of_check h hp ?_
    rw [optCapAt_of_good hcap]
    exact authoriseChecks_of_queueFull hc hv hstate hlink (activeTariff_of_active hn hactive) (holdInRange_iff.2 hhold) hfull
  case limit =>
    refine exec_authorise_of_check h hp ?_
    rw [optCapAt_of_good hcap]
    exact authoriseChecks_of_limit hc hv hstate hlink (activeTariff_of_active hn hactive) (holdInRange_iff.2 hhold) hroom hlimit

/-! ### A change of state with a session order -/

section
variable {s : State} {p : Pedestal}

/-- A session order changes the field link and the output. -/
theorem placeSessionOrder_eq {t : State} (o : Order) (hfield : t.field = s.field) :
    t.placeSessionOrder p o = { t with field := (s.placeSessionOrder p o).field, host := t.emits (s.cancelled p) } := by
  rw [← field_placeSessionOrder_congr (t := t) o hfield, ← cancelled_congr hfield, ← host_placeSessionOrder (o := o)]
  unfold State.placeSessionOrder
  split
  · rfl
  · rfl
  · unfold State.endQuery
    split <;> rfl
  · rfl

/-- A slot written with the SESSION status set: the slot, the output and the notice unit change. -/
theorem setSlot_raise_eq (s : State) (p : Pedestal) (x : Slot) :
    (s.setSlot p x).raise .session =
      { s with slots := s.slots.set p.val x, notices := (s.raise .session).notices, host := s.emits (s.noticed .session) } := by
  rw [raise_eq, notices_raise_congr (s := s) .session (by simp)]
  rfl

/-- A slot that changes its state and has a session order placed: the slot, the field link, the output and the notice unit change. -/
theorem goTo_placeSessionOrder {u : State} (st : SlotState) (o : Order) (hfield : u.field = s.field)
    (hhost : u.host = s.host) (hnotices : u.notices = s.notices) :
    (u.goTo p st).placeSessionOrder p o =
      { u with
        slots := u.slots.set p.val { u.slot p with state := st, changed := true }
        field := (s.placeSessionOrder p o).field
        notices := (s.raise .session).notices
        host := s.emits (s.noticed .session ++ s.cancelled p) } := by
  have hemits : u.emits (u.noticed .session) = s.emits (s.noticed .session) := by
    simp [State.emits, State.noticed, hhost, hnotices]
  rw [placeSessionOrder_eq o (s := s) (by simpa using hfield), goTo_eq, setSlot_raise_eq, notices_raise_congr .session hnotices, hemits]
  simp [State.emits]

/-- The same, with the transmission that follows. -/
theorem goTo_placeSessionOrder_startTransmit {u : State} (st : SlotState) (o : Order) (hfield : u.field = s.field)
    (hhost : u.host = s.host) (hnotices : u.notices = s.notices) :
    ((u.goTo p st).placeSessionOrder p o).startTransmit =
      { u with
        slots := u.slots.set p.val { u.slot p with state := st, changed := true }
        field := (s.placeSessionOrder p o).startTransmit.field
        notices := (s.raise .session).notices
        host := s.emits (s.noticed .session ++ s.cancelled p) } := by
  rw [goTo_placeSessionOrder st o hfield hhost hnotices]
  exact startTransmit_congr rfl

end

/-! ### AUTHORISE opens a session (R8, R9, R55) -/

/-- The next session number and its flag (R9). -/
theorem issueNumber_eq (s : State) (h : s.exhausted = false) :
    s.issueNumber =
      { s with
        nextSession := if s.nextSession < 4294967295 then s.nextSession + 1 else s.nextSession
        exhausted := decide (4294967295 ≤ s.nextSession) } := by
  by_cases hlast : s.nextSession < 4294967295
  · have hnot : ¬ 4294967295 ≤ s.nextSession := by omega
    simp [State.issueNumber, hlast, hnot, ← h]
  · simp [State.issueNumber, hlast, Nat.not_lt.1 hlast]

/-- The opening changes the number, the tariff, the allotment, the stamp and the slot. -/
theorem opening_frame (s : State) (p : Pedestal) (n : TariffNo) (hold : Nat) (cap : Cap) :
    (s.opening p n hold cap).field = s.field ∧ (s.opening p n hold cap).host = s.host ∧ (s.opening p n hold cap).notices = s.notices := by
  unfold State.opening State.issueNumber
  split <;> exact ⟨rfl, rfl, rfl⟩

/-- A session opened: its number, its tariff's reference count, its cap, the stamp, its slot with PD-BEGIN, and the SESSION status. -/
theorem openSession_startTransmit {s : State} (p : Pedestal) (n : TariffNo) (hold : Nat) (cap : Cap) :
    (s.openSession p n hold cap).startTransmit =
      { s.opening p n hold cap with
        slots := (s.opening p n hold cap).slots.set p.val
          { (s.opening p n hold cap).slot p with state := .starting, changed := true }
        field := (s.placeSessionOrder p (.beginSession p (s.nextSession % 65536))).startTransmit.field
        notices := (s.raise .session).notices
        host := s.emits (s.noticed .session ++ s.cancelled p) } := by
  obtain ⟨hfield, hhost, hnotices⟩ := opening_frame s p n hold cap
  exact goTo_placeSessionOrder_startTransmit .starting _ hfield hhost hnotices

/-- The slot that has been written. -/
theorem slot_of_slots_set {s t : State} {p : Pedestal} {x : Slot} (h : t.slots = s.slots.set p.val x) : t.slot p = x := by
  simp [State.slot, h]

/-- The opening, field by field. -/
theorem opening_eq {s : State} {p : Pedestal} {n : TariffNo} {hold : Nat} {cap : Cap} (h : s.exhausted = false) :
    s.opening p n hold cap =
      { s with
        slots := s.slots.set p.val { s.slot p with session := some (s.openedSession p n hold), authWait := none }
        nextSession := if s.nextSession < 4294967295 then s.nextSession + 1 else s.nextSession
        exhausted := decide (4294967295 ≤ s.nextSession)
        tariffs := s.tariffs.set n.val { s.tariff n with references := (s.tariff n).references + 1 }
        alloc := { s.alloc with entries := s.alloc.entries.set p.val { s.allot p with stagedCap := some cap } }
        clock := { s.clock with stampedDay := s.clock.day, stampedMinute := s.clock.minute } } := by
  rw [State.opening, issueNumber_eq s h]
  rfl

/-- Settles O36: the steps of R8 are the writes of `State.opening`, the change of state and PD-BEGIN. -/
theorem authoriseOpensTheSession : Obligations.AuthoriseOpensTheSession := by
  intro s r p n h hold capMark cap hp hc hv hstate hlink hn hactive hlow hhigh hcap hroom hlimit base
  have hportable : Portable (fun s => (s.openSession p n hold (if capMark = 0 then none else some cap)).startTransmit) s :=
    (portable_startTransmit _).comp (portable_openSession s p n hold _)
  have hchecks : s.dropHead.authoriseChecks p (fieldAt r.body 1 1) hold (optCapAt r.body 6) =
      .inr (n, if capMark = 0 then none else some cap) := by
    rw [optCapAt_of_good hcap]
    exact authoriseChecks_of_good (s := s.dropHead) hc hv hstate hlink (activeTariff_of_active (s := s.dropHead) hn hactive)
      (holdInRange_iff.2 ⟨hlow, hhigh⟩) hroom hlimit
  have howner : RequestKind.authorise.owner r s.dropHead = accept (leBytes 4 s.nextSession)
      ((fun s => (s.openSession p n hold (if capMark = 0 then none else some cap)).startTransmit) s.dropHead) := by
    simp only [RequestKind.owner, State.authorise, hp]
    rw [hchecks]
    rfl
  have hexec := exec_command_of_portable h hportable howner
  refine hexec.trans (congrArg Host.Outcome.next ?_)
  have hopening := opening_eq (p := p) (n := n) (hold := hold) (cap := if capMark = 0 then none else some cap) hlimit
  have hslots := congrArg State.slots hopening
  rw [openSession_startTransmit, slot_of_slots_set hslots, hopening]
  simp only [Vector.set_set]
  rfl

/-! ### DENY, STOP and PEDESTAL-MODE (R10, R14, R19) -/

/-- A slot refused: WAIT_UNPLUG with the auth wait stopped, PD-REFUSE, and the SESSION status. -/
theorem refuseSlot_startTransmit (s : State) (p : Pedestal) :
    (s.refuseSlot p).startTransmit =
      { s with
        slots := s.slots.set p.val { s.slot p with state := .waitUnplug, authWait := none, changed := true }
        field := (s.placeOrder (.refuse p)).startTransmit.field
        notices := (s.raise .session).notices
        host := s.emits (s.noticed .session ++ s.cancelled p) } := by
  have hgo := goTo_placeSessionOrder_startTransmit (p := p) (s := s) (u := s.setSlot p { s.slot p with authWait := none }) .waitUnplug
    (.refuse p) rfl rfl rfl
  rw [slot_setSlot] at hgo
  refine hgo.trans ?_
  simp only [State.setSlot, Vector.set_set]
  rfl

section
variable {s : State} {r : HostRecord} {p : Pedestal} {e : Session} {number : Nat}

/-- No open session has the number. -/
theorem findSession_dropHead_of_none (h : ∀ p e, s.Holds p e → e.number ≠ number) : s.dropHead.findSession number = none :=
  findSession_eq_none.2 h

/-- The slot that alone holds the number. -/
theorem findSession_dropHead_of_unique (he : s.Holds p e) (hn : e.number = number)
    (hu : ∀ q f, s.Holds q f → f.number = number → q = p) : s.dropHead.findSession number = some p := by
  subst hn
  exact findSession_of_unique (s := s.dropHead) he hu

end

section
variable {s : State} {body : List Byte} {p : Pedestal} {mode : PedestalMode}

/-- PEDESTAL-MODE with a mode that the slot's state allows. -/
theorem pedestalMode_of_taken {m : PedestalMode} (hp : pedestalOf (fieldAt body 0 1) = some p)
    (hm : pedestalModeOf (fieldAt body 1 1) = some m) (ht : modeTaken m (s.slot p).state = some mode) :
    s.pedestalMode body = accept [] (s.setSlot p { s.slot p with mode := mode }) := by
  simp [State.pedestalMode, hp, hm, ht]

/-- PEDESTAL-MODE with a mode that the slot's state does not allow. -/
theorem pedestalMode_of_refused {m : PedestalMode} (hp : pedestalOf (fieldAt body 0 1) = some p)
    (hm : pedestalModeOf (fieldAt body 1 1) = some m) (ht : modeTaken m (s.slot p).state = none) :
    s.pedestalMode body = refuse .state s := by
  simp [State.pedestalMode, hp, hm, ht]

/-- No mode has a code above 2. -/
theorem pedestalModeOf_of_gt {n : Nat} (h : 2 < n) : pedestalModeOf n = none := by
  obtain ⟨k, rfl⟩ : ∃ k, n = k + 3 := ⟨n - 3, by omega⟩
  rfl

/-- CLOSING_DOWN is taken as such in every state but VACANT. -/
theorem modeTaken_closingDown {st : SlotState} (h : st ≠ .vacant) : modeTaken .closingDown st = some .closingDown := by
  cases st <;> simp_all [modeTaken]

/-- OUT_OF_SERVICE is refused in every state but VACANT and WAIT_UNPLUG. -/
theorem modeTaken_outOfService {st : SlotState} (h : st ≠ .vacant) (h' : st ≠ .waitUnplug) : modeTaken .outOfService st = none := by
  cases st <;> simp_all [modeTaken]

end

/-- Settles O37: by the owners' equations, and for STOP by the slot that alone holds the number. -/
theorem denyStopAndPedestalModeActByState : Obligations.DenyStopAndPedestalModeActByState := by
  refine ⟨fun s r h => ⟨fun hp => ?denyNoPedestal, fun p hp => ⟨fun hstate => ?denyRefused, fun hstate => ?denied⟩⟩,
    fun s r h => ⟨fun hnone => ?stopUnknown, fun p e he hn hu => ⟨fun hstate => ?stopFinished, fun hstate => ?stopped⟩⟩,
    fun s r h => ⟨fun hbad => ?modeRange, fun p hp => ⟨fun hmode => ?inService, fun hmode hstate => ?vacantClosing,
      fun hmode hstate => ?closing, fun hmode hstate => ?outOfService, fun hmode hvacant hwait => ?modeRefused⟩⟩⟩
  case denyNoPedestal =>
    exact exec_command_of_refuse (k := .deny) h (by decide) (by simp only [RequestKind.owner, State.deny, hp])
  case denyRefused =>
    have hstate' : ¬ (s.dropHead.slot p).state = .plugged := hstate
    exact exec_command_of_refuse (k := .deny) h (by decide) (by simp only [RequestKind.owner, State.deny, hp, if_neg hstate'])
  case denied =>
    have hstate' : (s.dropHead.slot p).state = .plugged := hstate
    have hexec := exec_command_of_portable (k := .deny) (f := fun s => (s.refuseSlot p).startTransmit) (fields := []) h
      ((portable_startTransmit _).comp (portable_refuseSlot s p)) (by simp only [RequestKind.owner, State.deny, hp, if_pos hstate'])
    refine hexec.trans (congrArg Host.Outcome.next ?_)
    rw [refuseSlot_startTransmit]
    rfl
  case stopUnknown =>
    exact exec_command_of_refuse (k := .stop) h (by decide)
      (by simp only [RequestKind.owner, State.stop, findSession_dropHead_of_none hnone])
  case stopFinished =>
    have hstate' : (s.dropHead.slot p).state = .finished := hstate
    exact exec_command_of_refuse (k := .stop) h (by decide)
      (by simp only [RequestKind.owner, State.stop, findSession_dropHead_of_unique he hn hu, if_pos hstate'])
  case stopped =>
    have hstate' : ¬ (s.dropHead.slot p).state = .finished := by
      change ¬ (s.slot p).state = .finished
      rcases hstate with h | h | h <;> simp [h]
    exact exec_command_of_portable (k := .stop) (f := fun s => (s.finish p .hostStop).startTransmit) h
      ((portable_startTransmit _).comp (portable_finish s p .hostStop))
      (by simp only [RequestKind.owner, State.stop, findSession_dropHead_of_unique he hn hu, if_neg hstate'])
  case modeRange =>
    have hnone : s.dropHead.pedestalMode r.body = refuse .range s.dropHead := by
      rcases hbad with hp | hmode
      · simp [State.pedestalMode, hp]
      · simp [State.pedestalMode, pedestalModeOf_of_gt hmode]
    exact exec_command_of_refuse (k := .pedestalMode) h (by decide) hnone
  case inService =>
    exact exec_command_of_changed (k := .pedestalMode) h
      (pedestalMode_of_taken (s := s.dropHead) (m := .inService) hp (congrArg pedestalModeOf hmode) rfl)
  case vacantClosing =>
    exact exec_command_of_changed (k := .pedestalMode) h
      (pedestalMode_of_taken (s := s.dropHead) (m := .closingDown) hp (congrArg pedestalModeOf hmode)
        (congrArg (modeTaken .closingDown) hstate))
  case closing =>
    exact exec_command_of_changed (k := .pedestalMode) h
      (pedestalMode_of_taken (s := s.dropHead) (m := .closingDown) hp (congrArg pedestalModeOf hmode) (modeTaken_closingDown hstate))
  case outOfService =>
    have htaken : modeTaken .outOfService (s.slot p).state = some .outOfService := by
      rcases hstate with h | h <;> rw [h] <;> rfl
    exact exec_command_of_changed (k := .pedestalMode) h
      (pedestalMode_of_taken (s := s.dropHead) (m := .outOfService) hp (congrArg pedestalModeOf hmode) htaken)
  case modeRefused =>
    exact exec_command_of_refuse (k := .pedestalMode) h (by decide)
      (pedestalMode_of_refused (s := s.dropHead) (m := .outOfService) hp (congrArg pedestalModeOf hmode)
        (modeTaken_outOfService hvacant hwait))

/-! ### The hold comparison and EXTEND-HOLD (R32, R34, R69, R70, R72) -/

section
variable {s : State} {p : Pedestal} {e : Session}

/-- An accrual record changed, in the slot that holds it. -/
theorem modifyAccrual_of_some (h : s.Holds p e) (f : Accrual → Accrual) :
    s.modifyAccrual p f = s.setSlot p { s.slot p with session := some { e with accrual := f e.accrual } } :=
  modifySession_of_some h _

/-- The top-up comparison below its threshold, or made already. -/
theorem compareTopUp_of_not (h : s.Holds p e)
    (hnot : ¬ (e.accrual.hold * s.params.topUpPercent * 10 ≤ e.accrual.accrued ∧ e.accrual.topUpRequested = false)) :
    s.compareTopUp p = s := by
  have h' : (s.slot p).session = some e := h
  simp only [State.compareTopUp, h', if_neg hnot]

/-- The top-up comparison at its threshold (R69). -/
theorem compareTopUp_of_due (h : s.Holds p e)
    (hdue : e.accrual.hold * s.params.topUpPercent * 10 ≤ e.accrual.accrued ∧ e.accrual.topUpRequested = false) :
    s.compareTopUp p =
      (s.setSlot p { s.slot p with session := some { e with accrual := { e.accrual with topUpRequested := true } } }).raiseHold p := by
  have h' : (s.slot p).session = some e := h
  simp only [State.compareTopUp, h', if_pos hdue, modifyAccrual_of_some h]

/-- The comparison at the hold, below it or made already. -/
theorem compareReached_of_not (h : s.Holds p e)
    (hnot : ¬ (e.accrual.hold * 1000 ≤ e.accrual.accrued ∧ e.accrual.holdReached = false)) : s.compareReached p = s := by
  have h' : (s.slot p).session = some e := h
  simp only [State.compareReached, h', if_neg hnot]

/-- The hold reached (R70). -/
theorem compareReached_of_due (h : s.Holds p e)
    (hdue : e.accrual.hold * 1000 ≤ e.accrual.accrued ∧ e.accrual.holdReached = false) :
    s.compareReached p =
      ((s.setSlot p { s.slot p with session := some { e with accrual := { e.accrual with holdReached := true } } }).raiseHold
        p).holdReached p := by
  have h' : (s.slot p).session = some e := h
  simp only [State.compareReached, h', if_pos hdue, modifyAccrual_of_some h]

/-- A hold reached in RUNNING or SUSPENDED (R32). -/
theorem holdReached_of_powered (h : (s.slot p).state = .running ∨ (s.slot p).state = .suspended) :
    s.holdReached p = (s.addReason p .hold).startExtension p := by
  rcases h with h | h <;> simp [State.holdReached, h]

/-- A hold reached in any other state (R32). -/
theorem holdReached_of_other (h : (s.slot p).state ≠ .running) (h' : (s.slot p).state ≠ .suspended) : s.holdReached p = s := by
  unfold State.holdReached
  split <;> simp_all

end

/-- The status of a hold leaves the slots. -/
@[simp] theorem slot_raiseHold (s : State) (p q : Pedestal) : (s.raiseHold p).slot q = s.slot q := by simp

/-- Settles O39: by the branches of the two comparisons, and what a reached hold does by the slot's state. -/
theorem holdComparisonSetsFlagsOnce : Obligations.HoldComparisonSetsFlagsOnce := by
  intro s p e he a accrued topUp reached flagged
  refine ⟨compareTopUp_of_not he, compareTopUp_of_due he, compareReached_of_not he, fun hdue => ?reached, rfl⟩
  case reached =>
    intro v
    have hreached : s.compareReached p = v.holdReached p := compareReached_of_due he hdue
    have hslot : v.slot p = _ := (slot_raiseHold _ p p).trans (slot_setSlot s p _)
    have hstate : (v.slot p).state = (s.slot p).state := by rw [hslot]
    rw [hreached, ← hstate]
    exact ⟨holdReached_of_powered, holdReached_of_other⟩

/-- The session that an EXTEND-HOLD extends, before the rerun (R34, R72). -/
theorem extended_eq {s : State} {p : Pedestal} {e : Session} (he : s.Holds p e) (hold : Nat) :
    (s.modifyAccrual p (Accrual.extend hold)).modifySession p Session.withoutHold =
      s.setSlot p
        { s.slot p with
          session := some
            { e with
              reasons := { e.reasons with hold := false }
              extensionWindow := if e.reasons.hold then none else e.extensionWindow
              accrual :=
                { e.accrual with
                  hold := hold, topUps := e.accrual.topUps + 1, topUpRequested := false, holdReached := false } } } := by
  have hheld : (s.setSlot p { s.slot p with session := some { e with accrual := e.accrual.extend hold } }).Holds p
      { e with accrual := e.accrual.extend hold } := by simp [State.Holds]
  rw [modifyAccrual_of_some he, modifySession_of_some hheld, slot_setSlot, setSlot_setSlot]
  cases hr : e.reasons.hold with
  | true => simp [Session.withoutHold, hr, ReasonSet.remove, Accrual.extend]
  | false =>
    have hreasons : ({ e.reasons with hold := false } : ReasonSet) = e.reasons := by rw [← hr]
    simp [Session.withoutHold, hr, hreasons, Accrual.extend]

section
variable {s : State} {body : List Byte} {p : Pedestal} {e : Session} {hold : Nat} (hfind : s.findSession (fieldAt body 0 4) = some p)
  (he : s.Holds p e) (hhold : fieldAt body 4 4 = hold)
include hfind he hhold

/-- Check 2 of R34. -/
theorem extendHold_of_range (h : hold ≤ e.accrual.hold ∨ 1000000 < hold) : s.extendHold body = refuse .range s := by
  have he' : (s.slot p).session = some e := he
  subst hhold
  have h' : fieldAt body 4 4 ≤ e.accrual.hold ∨ Config.holdLimit < fieldAt body 4 4 := h
  simp only [State.extendHold, hfind, he', if_pos h']

variable (hgood : e.accrual.hold < hold ∧ hold ≤ 1000000)
include hgood

/-- Check 3 of R34. -/
theorem extendHold_of_limit (h : 15 ≤ e.accrual.topUps) : s.extendHold body = refuse .limit s := by
  have he' : (s.slot p).session = some e := he
  subst hhold
  have hgood' : ¬ (fieldAt body 4 4 ≤ e.accrual.hold ∨ Config.holdLimit < fieldAt body 4 4) :=
    not_or.2 ⟨Nat.not_le.2 hgood.1, Nat.not_lt.2 hgood.2⟩
  have h' : Config.topUpLimit ≤ e.accrual.topUps := h
  simp only [State.extendHold, hfind, he', if_neg hgood', if_pos h']

/-- The checks passed (R34). -/
theorem extendHold_of_taken (h : e.accrual.topUps < 15) : s.extendHold body = accept [] (s.extendSession p hold).startTransmit := by
  have he' : (s.slot p).session = some e := he
  subst hhold
  have hgood' : ¬ (fieldAt body 4 4 ≤ e.accrual.hold ∨ Config.holdLimit < fieldAt body 4 4) :=
    not_or.2 ⟨Nat.not_le.2 hgood.1, Nat.not_lt.2 hgood.2⟩
  have h' : ¬ Config.topUpLimit ≤ e.accrual.topUps := Nat.not_le.2 h
  simp only [State.extendHold, hfind, he', if_neg hgood', if_neg h']

end

/-- An EXTEND-HOLD for a number that no open session has. -/
theorem extendHold_of_unknown {s : State} {body : List Byte} (h : s.findSession (fieldAt body 0 4) = none) :
    s.extendHold body = refuse .unknownSession s := by
  simp only [State.extendHold, h]

/-- Settles O38: the checks in order, and the extended session compared and judged. -/
theorem extendHoldRaisesTheHold : Obligations.ExtendHoldRaisesTheHold := by
  intro s r h number hold
  refine ⟨fun hnone => ?unknown, fun p e he hn hu => ⟨fun hbad => ?range, fun hlow hhigh hcount => ?limit, fun hlow hhigh hcount => ?taken⟩⟩
  case unknown =>
    exact exec_command_of_refuse (k := .extendHold) h (by decide) (extendHold_of_unknown (findSession_dropHead_of_none hnone))
  case range =>
    exact exec_command_of_refuse (k := .extendHold) h (by decide)
      (extendHold_of_range (s := s.dropHead) (findSession_dropHead_of_unique he hn hu) he rfl hbad)
  case limit =>
    exact exec_command_of_refuse (k := .extendHold) h (by decide)
      (extendHold_of_limit (s := s.dropHead) (findSession_dropHead_of_unique he hn hu) he rfl ⟨hlow, hhigh⟩ hcount)
  case taken =>
    intro extended raised f
    have hexec := exec_command_of_portable (k := .extendHold) (f := fun s => (s.extendSession p hold).startTransmit) (fields := []) h
      ((portable_startTransmit _).comp (portable_extendSession s p hold))
      (extendHold_of_taken (s := s.dropHead) (findSession_dropHead_of_unique he hn hu) he rfl ⟨hlow, hhigh⟩ hcount)
    have hf : (s.extendSession p hold).startTransmit = f := by
      rw [State.extendSession, extended_eq he]
    rw [hf] at hexec
    exact hexec

/-! ### PEDESTAL-RESTART (R38, R155, R156) -/

/-- The state in which a PEDESTAL-RESTART finishes the session: epoch, orders, query and end mark. -/
theorem restartPedestal_eq (s : State) (p : Pedestal) :
    s.restartPedestal p =
      State.finish
        { s with
          field :=
            { s.field with
              queue := s.field.queue.filter (fun o => o.place != .setpoint p && o.place != .other p) ++ [.reset p]
              links := s.field.links.set p.val
                { s.link p with epoch := (s.link p).epoch + 1, query := none
                                queryTimer := if (s.link p).query.isSome then none else (s.link p).queryTimer } }
          slots := s.slots.set p.val
            { s.slot p with session := (s.slot p).session.map fun e => { e with endOrdered := true } }
          host := s.emits (s.resetReplies p) } p .pedestalRestart := by
  have hlink : ((s.advanceEpoch p).placeOrder (.reset p)).link p = { s.link p with epoch := (s.link p).epoch + 1 } :=
    link_setLink s p _
  rw [State.restartPedestal, State.restartOrdered]
  cases hq : (s.link p).query with
  | none =>
    rw [endQuery_of_none (by rw [hlink]; exact hq)]
    simp only [State.resetReplies, hq, State.emits, List.append_nil]
    refine congrArg (State.finish · p .pedestalRestart) ?_
    have hsame : ({ s.link p with epoch := (s.link p).epoch + 1, query := none, queryTimer := (s.link p).queryTimer } : Link) =
        { s.link p with epoch := (s.link p).epoch + 1 } := by rw [← hq]
    simp only [Option.isSome_none, Bool.false_eq_true, if_false, hsame]
    rfl
  | some q =>
    rw [endQuery_of_some (q := q) (by rw [hlink]; exact hq), hlink]
    simp only [State.resetReplies, hq, Option.isSome_some, if_true]
    refine congrArg (State.finish · p .pedestalRestart) ?_
    simp only [State.markEnd, State.modifySession, State.setSlot, State.pushOutput, State.setLink, State.placeOrder, State.enqueue,
      State.dropOrders, State.setQueue, State.advanceEpoch, Vector.set_set]
    rfl

/-- Settles O42: by the checks in order, and the state in which the session is finished. -/
theorem pedestalRestartResetsThePedestal : Obligations.PedestalRestartResetsThePedestal := by
  intro s r h
  refine ⟨fun hp => ?noPedestal, fun p hp => ⟨fun hc => ?notCommissioned, fun hc hrating => ?absent, fun hc hrating => ?taken⟩⟩
  case noPedestal =>
    exact exec_command_of_refuse (k := .pedestalRestart) h (by decide) (by simp only [RequestKind.owner, State.pedestalRestart, hp])
  case notCommissioned =>
    have hc' : s.dropHead.control.commissioned = false := hc
    exact exec_command_of_refuse (k := .pedestalRestart) h (by decide)
      (by simp only [RequestKind.owner, State.pedestalRestart, hp, if_pos hc'])
  case absent =>
    have hc' : ¬ s.dropHead.control.commissioned = false := by simpa using hc
    have hrating' : s.dropHead.rating p = 0 := hrating
    exact exec_command_of_refuse (k := .pedestalRestart) h (by decide)
      (by simp only [RequestKind.owner, State.pedestalRestart, hp, if_neg hc', if_pos hrating'])
  case taken =>
    intro v f
    have hc' : ¬ s.dropHead.control.commissioned = false := by simpa using hc
    have hrating' : ¬ s.dropHead.rating p = 0 := hrating
    have hexec := exec_command_of_portable (k := .pedestalRestart) (f := fun s => (s.restartPedestal p).startTransmit) (fields := []) h
      ((portable_startTransmit _).comp (portable_restartPedestal s p))
      (by simp only [RequestKind.owner, State.pedestalRestart, hp, if_neg hc', if_neg hrating'])
    rw [restartPedestal_eq] at hexec
    exact hexec

end Sys2Proof.Machine
end

section
/-! # Reports of pedestals and queries (R4, R5, R11, R12, R16, R32, R65, R158, R159)

A report of an installed pedestal over the live bus brings its link up and is then taken by the slot's state: an equation for each state,
carried through the writes of the slot. -/

namespace Sys2Proof.Machine

/-! ### A report reaches the part -/

/-- A report that is heard is taken once running time has reached its arrival. -/
theorem receiveReport_of_heard {s : State} {x : Report} (time : Nat) (hcan : s.field.can = .onBus) (hhears : s.hears x = true) :
    s.receiveReport time x = some ((s.advance time).takeReport x) := by
  simp [State.receiveReport, hcan, hhears]

/-- A report of an installed pedestal over the live bus. -/
theorem occurAtPedestal_report {s : State} {p : Pedestal} (time : Nat) (h : s.Hears p) (x : Pedestal → Report)
    (hx : s.hears (x p) = (s.rating p != 0)) :
    occurAtPedestal s (p.val + 1) (fun p s => s.receiveReport time (x p)) =
      .next ((s.advance time).takeReport (x p)).startTransmit := by
  obtain ⟨hlive, hcan, hrating⟩ := h
  exact occurAtPedestal_of_some (f := fun p s => s.receiveReport time (x p)) hlive
    (receiveReport_of_heard time hcan (by rw [hx]; simpa using hrating))

section
variable {s : State} {p : Pedestal} (time : Nat) (h : s.Hears p)
include h

theorem exec_pdPlug (plugged : Bool) :
    exec (.pdPlug time (p.val + 1) plugged) s = .next ((s.advance time).takeReport (.plug p plugged)).startTransmit :=
  occurAtPedestal_report time h (fun p => .plug p plugged) rfl

theorem exec_pdToken (token : Token) :
    exec (.pdToken time (p.val + 1) token) s = .next (((s.advance time).heardAndJudged p).takeToken p token).startTransmit :=
  occurAtPedestal_report time h (fun p => .token p token) rfl

theorem exec_pdVehicle (ready : Bool) (request : BitVec 16) :
    exec (.pdVehicle time (p.val + 1) ready request) s =
      .next ((s.advance time).takeReport (.vehicle p ready request.toNat)).startTransmit :=
  occurAtPedestal_report time h (fun p => .vehicle p ready request.toNat) rfl

theorem exec_pdMeter (register : BitVec 32) :
    exec (.pdMeter time (p.val + 1) register) s = .next ((s.advance time).heardMeter p register.toNat).startTransmit :=
  occurAtPedestal_report time h (fun p => .meter p register.toNat) rfl

theorem exec_pdRestarted (plugged : Bool) :
    exec (.pdRestarted time (p.val + 1) plugged) s =
      .next (((s.advance time).heardAndJudged p).takeRestarted p plugged).startTransmit :=
  occurAtPedestal_report time h (fun p => .restarted p plugged) rfl

theorem exec_pdAnswer (epoch code : Byte) {data : List Byte} (hdata : data.length ≤ 6) :
    exec (.pdAnswer time (p.val + 1) epoch code data) s =
      .next (((s.advance time).heardAndJudged p).takeAnswer p epoch.toNat code data).startTransmit := by
  obtain ⟨hlive, hcan, hrating⟩ := h
  refine occurAtPedestal_of_some (f := fun p s =>
    if data.length ≤ 6 then s.receiveReport time (.answer p epoch.toNat code data) else none) hlive ?_
  rw [if_pos hdata]
  exact receiveReport_of_heard (x := .answer p epoch.toNat code data) time hcan (by simpa [State.hears] using hrating)

end

/-! ### Queries (R158, R159, R167) -/

section
variable {s : State} {p : Pedestal}

/-- A frame that is heard leaves the pending query. -/
theorem query_heardAndJudged (s : State) (p : Pedestal) : ((s.heardAndJudged p).link p).query = (s.link p).query := by
  by_cases h : (s.link p).state = .silent
  · rw [heardAndJudged_of_silent h]
    simp [State.linkReturned, State.linkHeard]
  · rw [heardAndJudged_of_heard h]
    simp [State.linkHeard]

/-- An answer that no sent query awaits is discarded. -/
theorem takeAnswer_of_other {epoch : Nat} {code : Byte} {data : List Byte}
    (h : ∀ q, (s.link p).query = some q → q.sent = false ∨ epoch ≠ q.epoch.toNat ∨ code ≠ q.code) :
    s.takeAnswer p epoch code data = s := by
  unfold State.takeAnswer
  split
  · rfl
  next q hq =>
    rw [if_neg]
    rintro ⟨hsent, hepoch, hcode⟩
    rcases h q hq with h | h | h
    · simp [h] at hsent
    · exact h hepoch
    · exact h hcode

/-- The answer that the sent query awaits ends it. -/
theorem takeAnswer_of_awaited {epoch : Nat} {code : Byte} {data : List Byte} {q : PendingQuery} (hq : (s.link p).query = some q)
    (hsent : q.sent = true) (hepoch : epoch = q.epoch.toNat) (hcode : code = q.code) :
    s.takeAnswer p epoch code data = s.endQuery p .ok data := by
  unfold State.takeAnswer
  rw [hq]
  exact if_pos ⟨hsent, hepoch, hcode⟩

/-- The records that end a query (R167). -/
theorem delayedReply_ok (tag : Byte) (p : Pedestal) (data : List Byte) :
    delayedReply tag p .ok data =
      { kind := 0x98, tag := tag, body := 0 :: BitVec.ofNat 8 (p.val + 1) :: BitVec.ofNat 8 data.length :: data } := rfl

theorem delayedReply_noAnswer (tag : Byte) (p : Pedestal) :
    delayedReply tag p .noAnswer [] = { kind := 0x98, tag := tag, body := [18, BitVec.ofNat 8 (p.val + 1)] } := rfl

/-- The expiry of the query timer. -/
theorem exec_queryTimerExpiry_of_due {due : Nat} (hlive : s.Live) (hdue : (s.link p).queryTimer = some due) :
    exec (.queryTimerExpiry (p.val + 1)) s = .next ((s.advance due).queryExpired p).startTransmit :=
  occurAtPedestal_of_some (f := fun p s => match (s.link p).queryTimer with
    | some due => some ((s.advance due).queryExpired p)
    | none => none) hlive (by simp [hdue])

/-- What the expiry of a query removes from the queue. -/
theorem not_isQueryOf (p : Pedestal) (o : Order) :
    (!o.isQueryOf p) = (match o with
      | .query p' _ _ => p' != p
      | _ => true) := by
  cases o <;> rfl

end

/-- Settles O43: the checks of PEDESTAL-QUERY in order, and the two ends of a query. -/
theorem queriesArePlacedTimedAndEnded : Obligations.QueriesArePlacedTimedAndEnded := by
  refine ⟨fun s r h => ⟨fun hp => ?noPedestal, fun p hp => ⟨fun hq => ?pending, fun hq hup => ?down, fun hq hup hplace => ?placed,
    fun hq hup hplace => ?taken⟩⟩, fun s time p epoch code data h hdata => ⟨fun hother => ?discarded, fun q hq hsent hepoch hcode => ?answered⟩,
    fun s p due q hlive hdue hq => ?expired⟩
  case noPedestal =>
    exact exec_command_of_refuse (k := .pedestalQuery) h (by decide) (by simp only [RequestKind.owner, State.pedestalQuery, hp])
  case pending =>
    have hq' : (s.dropHead.link p).query.isSome = true := Option.isSome_iff_ne_none.2 hq
    exact exec_command_of_refuse (k := .pedestalQuery) h (by decide)
      (by simp only [RequestKind.owner, State.pedestalQuery, hp, if_pos hq'])
  case down =>
    have hq' : ¬ (s.dropHead.link p).query.isSome = true := by change ¬ (s.link p).query.isSome = true; simp [hq]
    have hup' : (s.dropHead.link p).state ≠ .up := hup
    exact exec_command_of_refuse (k := .pedestalQuery) h (by decide)
      (by simp only [RequestKind.owner, State.pedestalQuery, hp, if_neg hq', if_pos hup'])
  case placed =>
    have hq' : ¬ (s.dropHead.link p).query.isSome = true := by change ¬ (s.link p).query.isSome = true; simp [hq]
    have hup' : ¬ (s.dropHead.link p).state ≠ .up := Classical.not_not.2 hup
    have hplace' : (s.dropHead.unsentAt (.other p)).isSome = true := Option.isSome_iff_ne_none.2 hplace
    exact exec_command_of_refuse (k := .pedestalQuery) h (by decide)
      (by simp only [RequestKind.owner, State.pedestalQuery, hp, if_neg hq', if_neg hup', if_pos hplace'])
  case taken =>
    have hq' : ¬ (s.dropHead.link p).query.isSome = true := by change ¬ (s.link p).query.isSome = true; simp [hq]
    have hup' : ¬ (s.dropHead.link p).state ≠ .up := Classical.not_not.2 hup
    have hplace' : ¬ (s.dropHead.unsentAt (.other p)).isSome = true := by
      change ¬ (s.unsentAt (.other p)).isSome = true; simp [hplace]
    rw [show Instr.pedestalQuery = RequestKind.pedestalQuery.command from rfl, exec_command, takeRequest_of_takes _ h]
    simp only [RequestKind.owner, State.pedestalQuery, hp, if_neg hq', if_neg hup', if_neg hplace']
    rfl
  case discarded =>
    rw [exec_pdAnswer time h epoch code hdata, takeAnswer_of_other]
    rw [query_heardAndJudged]
    exact hother
  case answered =>
    have hq' : (((s.advance time).heardAndJudged p).link p).query = some q := (query_heardAndJudged _ p).trans hq
    rw [exec_pdAnswer time h epoch code hdata, takeAnswer_of_awaited hq' hsent hepoch hcode, endQuery_of_some hq', delayedReply_ok]
    rfl
  case expired =>
    have hq' : (((s.advance due).setQueue ((s.advance due).field.queue.filter fun o => !o.isQueryOf p)).link p).query = some q := hq
    rw [exec_queryTimerExpiry_of_due hlive hdue, State.queryExpired, endQuery_of_some hq', delayedReply_noAnswer]
    simp only [not_isQueryOf]
    rfl

/-! ### Plug reports (R4, R16) -/

section
variable {u : State} {p : Pedestal}

/-- A "plugged" report in a vacant slot in service. -/
theorem plugIn_of_inService (hstate : (u.slot p).state = .vacant) (hmode : (u.slot p).mode = .inService) :
    u.plugIn p =
      { u with
        slots := u.slots.set p.val
          { u.slot p with state := .plugged, authWait := some (u.now + u.params.authWaitS * 1000), changed := true }
        notices := (u.raise .session).notices
        host := u.emits (u.noticed .session) } := by
  simp only [State.plugIn, hstate, hmode]
  rw [setSlot_goTo, setSlot_raise_eq]
  rfl

/-- A slot refused: WAIT_UNPLUG with the auth wait stopped, PD-REFUSE, and the SESSION status. -/
theorem refuseSlot_eq (u : State) (p : Pedestal) :
    u.refuseSlot p =
      { u with
        slots := u.slots.set p.val { u.slot p with state := .waitUnplug, authWait := none, changed := true }
        field := (u.placeOrder (.refuse p)).field
        notices := (u.raise .session).notices
        host := u.emits (u.noticed .session ++ u.cancelled p) } := by
  have hgo := goTo_placeSessionOrder (p := p) (s := u) (u := u.setSlot p { u.slot p with authWait := none }) .waitUnplug
    (.refuse p) rfl rfl rfl
  rw [slot_setSlot] at hgo
  refine hgo.trans ?_
  simp only [State.setSlot, Vector.set_set]
  rfl

/-- A "plugged" report in a vacant slot out of service. -/
theorem plugIn_of_refused (hstate : (u.slot p).state = .vacant) (hmode : (u.slot p).mode ≠ .inService) :
    u.plugIn p = u.refuseSlot p := by
  unfold State.plugIn
  rw [hstate]
  cases h : (u.slot p).mode with
  | inService => exact absurd h hmode
  | closingDown | outOfService => rfl

/-- A "plugged" report in any other slot. -/
theorem plugIn_of_taken (hstate : (u.slot p).state ≠ .vacant) : u.plugIn p = u := by
  unfold State.plugIn
  split <;> simp_all

/-- A slot freed (R16, R18). -/
theorem freeSlot_eq (u : State) (p : Pedestal) :
    u.freeSlot p =
      { u with
        slots := u.slots.set p.val
          { u.slot p with
            state := .vacant, authWait := none, token := none, changed := true
            mode := if (u.slot p).mode = .closingDown then .outOfService else (u.slot p).mode }
        notices := (u.raise .session).notices
        host := u.emits (u.noticed .session) } := by
  rw [State.freeSlot, setSlot_goTo, setSlot_raise_eq, PedestalMode.closed_eq]

/-- An "unplugged" report in a slot without a session. -/
theorem unplug_of_free (h : (u.slot p).state = .plugged ∨ (u.slot p).state = .waitUnplug) : u.unplug p = u.freeSlot p := by
  rcases h with h | h <;> simp [State.unplug, h]

/-- An "unplugged" report in an open session. -/
theorem unplug_of_open (h : (u.slot p).state = .starting ∨ (u.slot p).state = .running ∨ (u.slot p).state = .suspended ∨
    (u.slot p).state = .finished) : u.unplug p = u.closeSession p .unplug := by
  rcases h with h | h | h | h <;> simp [State.unplug, h]

/-- An "unplugged" report in a vacant slot. -/
theorem unplug_of_vacant (h : (u.slot p).state = .vacant) : u.unplug p = u := by simp [State.unplug, h]

end

/-- Settles O46: by the slot's state and mode. -/
theorem plugReportsMoveTheSlot : Obligations.PlugReportsMoveTheSlot := by
  intro s time p h u plugged unplugged
  have hplugged : plugged = .next (u.plugIn p).startTransmit := exec_pdPlug time h true
  have hunplugged : unplugged = .next (u.unplug p).startTransmit := exec_pdPlug time h false
  rw [hplugged, hunplugged]
  refine ⟨fun hstate hmode => ?_, fun hstate hmode => ?_, fun hstate => ?_, fun hstate => ?_, fun hstate => ?_, fun hstate => ?_⟩
  · rw [plugIn_of_inService hstate hmode]
  · rw [plugIn_of_refused hstate hmode, refuseSlot_eq]
  · rw [plugIn_of_taken hstate]
  · rw [unplug_of_open hstate]
  · rw [unplug_of_free hstate, freeSlot_eq]
  · rw [unplug_of_vacant hstate]

/-! ### Tokens and vehicles (R5, R11, R12, R32, R65) -/

section
variable {u : State} {p : Pedestal}

/-- A token in a PLUGGED slot (R5). -/
theorem takeToken_of_plugged (token : Token) (h : (u.slot p).state = .plugged) :
    u.takeToken p token =
      { u with
        slots := u.slots.set p.val { u.slot p with token := some token, changed := true }
        notices := (u.raise .session).notices
        host := u.emits (u.noticed .session) } := by
  rw [State.takeToken, if_pos h, State.markChanged, slot_setSlot, setSlot_setSlot, setSlot_raise_eq]

/-- A READY in RUNNING or SUSPENDED (R11). -/
theorem vehicleReady_of_powered {e : Session} (request : Nat) (he : u.Holds p e)
    (h : (u.slot p).state = .running ∨ (u.slot p).state = .suspended) :
    u.vehicleReady p request = u.setSlot p { u.slot p with session := some { e with request := some (min request 500) } } := by
  have hrequest := modifySession_of_some he fun e => { e with request := some (min request 500) }
  refine Eq.trans ?_ hrequest
  rcases h with h | h <;> simp only [State.vehicleReady, h, Config.powerLimit]

/-- A READY where no session is or has yet to start (R11). -/
theorem vehicleReady_of_other (request : Nat) (h : (u.slot p).state = .vacant ∨ (u.slot p).state = .plugged ∨ (u.slot p).state = .finished ∨
    (u.slot p).state = .waitUnplug) : u.vehicleReady p request = u := by
  rcases h with h | h | h | h <;> simp [State.vehicleReady, h]

/-- A DONE where no session is or has yet to finish (R12). -/
theorem vehicleDone_of_other (h : (u.slot p).state = .vacant ∨ (u.slot p).state = .plugged ∨ (u.slot p).state = .finished ∨
    (u.slot p).state = .waitUnplug) : u.vehicleDone p = u := by
  rcases h with h | h | h | h <;> simp [State.vehicleDone, h]

/-- A DONE in RUNNING or SUSPENDED (R12). -/
theorem vehicleDone_of_powered (h : (u.slot p).state = .running ∨ (u.slot p).state = .suspended) :
    u.vehicleDone p = u.finish p .vehicleDone := by
  rcases h with h | h <;> simp [State.vehicleDone, h]

/-- A DONE in STARTING (R12). -/
theorem vehicleDone_of_starting (h : (u.slot p).state = .starting) : u.vehicleDone p = u.finish p .startFailed := by
  simp [State.vehicleDone, h]

end

/-! ### What the hold comparison leaves in a slot -/

section
variable {s : State} {p : Pedestal} {e : Session}

/-- The top-up comparison leaves a session and the slot's state. -/
theorem compareTopUp_keeps (he : s.Holds p e) :
    (∃ e', (s.compareTopUp p).Holds p e') ∧ ((s.compareTopUp p).slot p).state = (s.slot p).state := by
  by_cases hdue : e.accrual.hold * s.params.topUpPercent * 10 ≤ e.accrual.accrued ∧ e.accrual.topUpRequested = false
  · rw [compareTopUp_of_due he hdue]
    exact ⟨⟨{ e with accrual := { e.accrual with topUpRequested := true } }, by simp [State.Holds]⟩, by simp⟩
  · rw [compareTopUp_of_not he hdue]
    exact ⟨⟨e, he⟩, rfl⟩

variable (hrunning : (s.slot p).state ≠ .running) (hsuspended : (s.slot p).state ≠ .suspended)
include hrunning hsuspended

/-- The comparison at the hold leaves a session, and the slot's state where nothing is suspended. -/
theorem compareReached_keeps (he : s.Holds p e) :
    (∃ e', (s.compareReached p).Holds p e') ∧ ((s.compareReached p).slot p).state = (s.slot p).state := by
  by_cases hdue : e.accrual.hold * 1000 ≤ e.accrual.accrued ∧ e.accrual.holdReached = false
  · rw [compareReached_of_due he hdue, holdReached_of_other (by simpa using hrunning) (by simpa using hsuspended)]
    exact ⟨⟨{ e with accrual := { e.accrual with holdReached := true } }, by simp [State.Holds]⟩, by simp⟩
  · rw [compareReached_of_not he hdue]
    exact ⟨⟨e, he⟩, rfl⟩

/-- The hold comparison leaves a session, and the slot's state where nothing is suspended. -/
theorem compareHold_keeps (he : s.Holds p e) :
    (∃ e', (s.compareHold p).Holds p e') ∧ ((s.compareHold p).slot p).state = (s.slot p).state := by
  obtain ⟨⟨e', he'⟩, hstate⟩ := compareTopUp_keeps he
  obtain ⟨hholds, hstate'⟩ := compareReached_keeps (by rwa [hstate]) (by rwa [hstate]) he'
  exact ⟨hholds, hstate'.trans hstate⟩

end

/-- The running time alone decides what a window starts with. -/
theorem startWindow_congr {s t : State} (hnow : t.now = s.now) (x : Timer) (seconds : Nat) : t.startWindow x seconds = s.startWindow x seconds := by
  cases x <;> simp [State.startWindow, State.after, hnow]

/-- The extension window started in a slot whose change of state has been reported. -/
theorem startExtension_raise (v : State) (p : Pedestal) (x : Slot) (e : Session) :
    ((v.setSlot p { x with session := some e }).raise .session).startExtension p =
      (v.setSlot p
        { x with
          session := some { e with extensionWindow := v.startWindow e.extensionWindow v.params.extensionWindowS } }).raise .session := by
  have hslot : ((v.setSlot p { x with session := some e }).raise .session).slot p = { x with session := some e } := by simp
  have hholds : ((v.setSlot p { x with session := some e }).raise .session).Holds p e := by simp [State.Holds]
  have hparams : ((v.setSlot p { x with session := some e }).raise .session).params = v.params := by simp
  have hnow : ((v.setSlot p { x with session := some e }).raise .session).now = v.now := by simp
  rw [State.startExtension, modifySession_of_some hholds, hslot, hparams, startWindow_congr hnow, setSlot_raise, setSlot_setSlot]

/-- The session of a first READY, with its start wait stopped and its fee charged (R11, R65). -/
def State.charged (u : State) (p : Pedestal) (e : Session) : State :=
  u.setSlot p
    { u.slot p with
      session := some { e with startWait := none, accrual := { e.accrual with fee := (u.tariff e.tariff).contents.fee } } }

section
variable {u : State} {p : Pedestal} {e e' : Session}

/-- A first READY once the fee has been charged and the hold compared: the request and the reasons are written, and the slot changes
its state (R11, R32). -/
theorem firstReady_eq (request : Nat) (he : u.Holds p e) (he' : ((u.charged p e).compareHold p).Holds p e') :
    u.firstReady p request =
      (let v := (u.charged p e).compareHold p
      let reasons : ReasonSet := { link := false, cutoff := u.prot.latch, hold := e'.accrual.holdReached }
      let t := (v.setSlot p { v.slot p with session := some { e' with request := some request, reasons := reasons } }).goTo p
        (if reasons.isEmpty then .running else .suspended)
      if e'.accrual.holdReached then t.startExtension p else t) := by
  have hu : (u.slot p).session = some e := he
  have hwait : u.modifySession p (fun e => { e with startWait := none }) =
      u.setSlot p { u.slot p with session := some { e with startWait := none } } := modifySession_of_some he _
  have hheld : (u.setSlot p { u.slot p with session := some { e with startWait := none } }).Holds p { e with startWait := none } := by
    simp [State.Holds]
  have hcharged : (u.setSlot p { u.slot p with session := some { e with startWait := none } }).modifyAccrual p
      (fun a => { a with fee := (u.tariff e.tariff).contents.fee }) = u.charged p e := by
    rw [modifyAccrual_of_some hheld, slot_setSlot, setSlot_setSlot]
    rfl
  have hv : (((u.charged p e).compareHold p).slot p).session = some e' := he'
  have hprot : ((u.charged p e).compareHold p).prot = u.prot := by simp [State.charged]
  have htariff : (u.setSlot p { u.slot p with session := some { e with startWait := none } }).tariff e.tariff = u.tariff e.tariff := rfl
  simp only [State.firstReady, hu, hwait, htariff, hcharged, hv, hprot, modifySession_of_some he']

variable (hstate : (u.slot p).state = .starting) (he : u.Holds p e) (he' : ((u.charged p e).compareHold p).Holds p e')
include hstate he he'

/-- A first READY with no reason to suspend (R11). -/
theorem vehicleReady_of_starts (request : Nat) (hlatch : u.prot.latch = false) (hreached : e'.accrual.holdReached = false) :
    u.vehicleReady p request =
      (let v := (u.charged p e).compareHold p
      { v with
        slots := v.slots.set p.val
          { v.slot p with
            state := .running, changed := true
            session := some
              { e' with
                request := some (min request 500), reasons := { link := false, cutoff := false, hold := false } } }
        notices := (v.raise .session).notices
        host := v.emits (v.noticed .session) }) := by
  have hready : u.vehicleReady p request = u.firstReady p (min request 500) := by
    simp only [State.vehicleReady, hstate, Config.powerLimit]
  rw [hready, firstReady_eq _ he he', hlatch, hreached]
  exact (setSlot_goTo _ _ _ _).trans (setSlot_raise_eq _ _ _)

/-- A first READY with the latch set or the hold reached (R11, R32). -/
theorem vehicleReady_of_suspends (request : Nat) (h : u.prot.latch = true ∨ e'.accrual.holdReached = true) :
    u.vehicleReady p request =
      (let v := (u.charged p e).compareHold p
      { v with
        slots := v.slots.set p.val
          { v.slot p with
            state := .suspended, changed := true
            session := some
              { e' with
                request := some (min request 500)
                reasons := { link := false, cutoff := u.prot.latch, hold := e'.accrual.holdReached }
                extensionWindow :=
                  if e'.accrual.holdReached = true then v.startWindow e'.extensionWindow v.params.extensionWindowS
                  else e'.extensionWindow } }
        notices := (v.raise .session).notices
        host := v.emits (v.noticed .session) }) := by
  have hready : u.vehicleReady p request = u.firstReady p (min request 500) := by
    simp only [State.vehicleReady, hstate, Config.powerLimit]
  have hempty : ({ link := false, cutoff := u.prot.latch, hold := e'.accrual.holdReached } : ReasonSet).isEmpty = false := by
    rcases h with h | h <;> simp [ReasonSet.isEmpty, h]
  rw [hready, firstReady_eq _ he he']
  generalize (u.charged p e).compareHold p = v at he'
  simp only [hempty, Bool.false_eq_true, if_false]
  rw [setSlot_goTo]
  cases hreached : e'.accrual.holdReached with
  | false => simp only [Bool.false_eq_true, if_false]; exact setSlot_raise_eq _ _ _
  | true =>
    simp only [if_true]
    exact (startExtension_raise v p { v.slot p with state := .suspended, changed := true }
      { e' with
        request := some (min request 500)
        reasons := { link := false, cutoff := u.prot.latch, hold := true } }).trans (setSlot_raise_eq _ _ _)

end

/-- Settles O47: by the slot's state, and for a first READY by the reasons that the comparison and the latch give. -/
theorem tokenAndVehicleReportsAreTakenByState : Obligations.TokenAndVehicleReportsAreTakenByState := by
  intro s time p h u
  have hdone (kw : BitVec 16) : exec (.pdVehicle time (p.val + 1) false kw) s = .next (u.vehicleDone p).startTransmit :=
    exec_pdVehicle time h false kw
  have hready (kw : BitVec 16) : exec (.pdVehicle time (p.val + 1) true kw) s = .next (u.vehicleReady p kw.toNat).startTransmit :=
    exec_pdVehicle time h true kw
  refine ⟨fun token => ⟨fun hstate => ?stored, fun hstate => ?ignored⟩, fun kw e he => ?ready, fun kw => ⟨fun hstate => ?other,
    fun hstate => ?done, fun hstate => ?failed⟩⟩
  case stored => rw [exec_pdToken time h, takeToken_of_plugged token hstate]
  case ignored => rw [exec_pdToken time h, State.takeToken, if_neg hstate]
  case other =>
    rw [hready, hdone, vehicleReady_of_other _ hstate, vehicleDone_of_other hstate]
    exact ⟨rfl, rfl⟩
  case done => rw [hdone, vehicleDone_of_powered hstate]
  case failed => rw [hdone, vehicleDone_of_starting hstate]
  case ready =>
    intro ready request
    have hexec : ready = .next (u.vehicleReady p kw.toNat).startTransmit := hready kw
    rw [hexec]
    refine ⟨fun hstate => ?powered, fun hstate => ?starting⟩
    case powered => rw [vehicleReady_of_powered _ he hstate]
    case starting =>
      intro charged v
      obtain ⟨⟨e', he'⟩, -⟩ := compareHold_keeps (s := u.charged p e) (p := p) (by simp [State.charged, hstate])
        (by simp [State.charged, hstate]) (e := _) (by simp [State.charged, State.Holds]; rfl)
      exact ⟨e', he',
        fun hlatch hreached => congrArg (fun t => Host.Outcome.next t.startTransmit)
          (vehicleReady_of_starts hstate he he' _ hlatch hreached),
        fun hreason => congrArg (fun t => Host.Outcome.next t.startTransmit) (vehicleReady_of_suspends hstate he he' _ hreason)⟩

end Sys2Proof.Machine
end

section
/-! # Meters, pedestal restarts and the timers of a slot (R6, R13, R18, R27, R29, R33, R39, R57 to R64, R154, R157)

A meter report is a chain of writes to one accrual record, with the FIELD status and an entry to FINISHED between two of them; a
restart's report and an expiry are read off their operations, state by state. -/

namespace Sys2Proof.Machine

/-! ### Writes and statuses -/

section
variable (s : State) (p q : Pedestal) (x : Slot)

/-- A status set in the FIELD detail and a slot written may be taken in either order. -/
theorem setSlot_raiseCondition (f : FieldConditions → FieldConditions) :
    (s.raiseCondition q f).setSlot p x = (s.setSlot p x).raiseCondition q f :=
  setSlot_raise _ p x .field

/-- A pedestal's link may be written before or after a slot. -/
theorem setLink_setSlot (l : Link) : (s.setSlot p x).setLink q l = (s.setLink q l).setSlot p x := rfl

end

section
variable {s : State} {p : Pedestal} {e : Session}

/-- An entry to FINISHED leaves a session in the slot. -/
theorem holds_finish (cause : FinishCause) (he : s.Holds p e) : ∃ e', (s.finish p cause).Holds p e' := by
  by_cases hstate : (s.slot p).state = .starting ∨ (s.slot p).state = .running ∨ (s.slot p).state = .suspended
  · rw [finish_of_open cause he hstate]
    simp [State.Holds]
  · refine ⟨e, ?_⟩
    rw [finish_of_other]
    · exact he
    · cases h : (s.slot p).state <;> simp_all

/-- The accrual record written anew in a slot that holds the session. -/
def State.withAccrual (s : State) (p : Pedestal) (e : Session) (a : Accrual) : State :=
  s.setSlot p { s.slot p with session := some { e with accrual := a } }

/-- A change of the accrual record. -/
theorem modifyAccrual_eq (he : s.Holds p e) (f : Accrual → Accrual) : s.modifyAccrual p f = s.withAccrual p e (f e.accrual) :=
  modifyAccrual_of_some he f

/-- A second change of the accrual record. -/
theorem modifyAccrual_withAccrual (s : State) (p : Pedestal) (e : Session) (a : Accrual) (f : Accrual → Accrual) :
    (s.withAccrual p e a).modifyAccrual p f = s.withAccrual p e (f a) := by
  have he : (s.withAccrual p e a).Holds p { e with accrual := a } := by simp [State.withAccrual, State.Holds]
  rw [modifyAccrual_of_some he]
  simp [State.withAccrual]

/-- A change of the accrual record behind a condition of the FIELD detail. -/
theorem modifyAccrual_raiseCondition (s : State) (p q : Pedestal) (e : Session) (a : Accrual) (g : FieldConditions → FieldConditions)
    (f : Accrual → Accrual) :
    ((s.withAccrual p e a).raiseCondition q g).modifyAccrual p f = (s.withAccrual p e (f a)).raiseCondition q g := by
  have he : ((s.withAccrual p e a).raiseCondition q g).Holds p { e with accrual := a } := by simp [State.withAccrual, State.Holds]
  rw [modifyAccrual_of_some he, setSlot_raiseCondition]
  simp [State.withAccrual]

end

/-! ### Meter reports (R57, R58, R59, R61 to R64) -/

section
variable {u : State} {p : Pedestal} {w : Nat} {e : Session}

/-- The register is lower than the last accepted one. -/
theorem backward_iff (l : Link) (w : Nat) : l.backward w = true ↔ ∃ last, l.register = some last ∧ w < last := by
  cases h : l.register <;> simp [Link.backward, h]

/-- A backward register is a meter fault (R57). -/
theorem takeMeter_of_backward {last : Nat} (hlast : (u.link p).register = some last) (hw : w < last) :
    u.takeMeter p w = (u.raiseCondition p fun c => { c with meterFault := true }).finish p .meterFault := by
  rw [State.takeMeter, if_pos ((backward_iff _ _).2 ⟨last, hlast, hw⟩)]
  rfl

/-- The link with a register accepted (R61). -/
def State.metered (u : State) (p : Pedestal) (w : Nat) : State := u.setLink p { u.link p with register := some w, fresh := true }

variable (hforward : ∀ last, (u.link p).register = some last → last ≤ w)
include hforward

/-- A forward register is not backward. -/
theorem not_backward : ¬ (u.link p).backward w = true := by
  rw [backward_iff]
  rintro ⟨last, hlast, hw⟩
  exact Nat.not_lt.2 (hforward last hlast) hw

/-- A forward register with no session to price it to. -/
theorem takeMeter_of_no_session (h : (u.slot p).session = none) : u.takeMeter p w = u.metered p w := by
  have h' : ((u.setLink p { u.link p with register := some w, fresh := true }).slot p).session = none := h
  simp only [State.takeMeter, if_neg (not_backward hforward), h']
  rfl

/-- A forward register that opens the metering (R58). -/
theorem takeMeter_of_opening (he : u.Holds p e) (hbase : e.accrual.base = none) :
    u.takeMeter p w = (u.metered p w).withAccrual p e (e.accrual.openMetering w u.now (u.allot p).setpoint) := by
  have he' : ((u.setLink p { u.link p with register := some w, fresh := true }).slot p).session = some e := he
  simp only [State.takeMeter, if_neg (not_backward hforward), he', hbase]
  exact modifyAccrual_eq he' _

/-- A forward register that is priced (R59). -/
theorem takeMeter_of_priced {base : Nat} (he : u.Holds p e) (hbase : e.accrual.base = some base) :
    u.takeMeter p w = (u.metered p w).priceReport p e w := by
  have he' : ((u.setLink p { u.link p with register := some w, fresh := true }).slot p).session = some e := he
  simp only [State.takeMeter, if_neg (not_backward hforward), he', hbase]
  rfl

end

section
variable {u : State} {p : Pedestal} {e : Session} (w : Nat)

/-- The accrual record with a report priced to it (R59). -/
def State.pricedTo (u : State) (e : Session) (w : Nat) : Accrual :=
  let band := (u.tariff e.tariff).contents.select u.clock.minute
  e.accrual.price w band.1 band.2

/-- The record with the check's moment and setpoint kept (R62). -/
def Accrual.checkedAt (now setpoint : Nat) (a : Accrual) : Accrual := { a with previousArrival := some now, previousSetpoint := setpoint }

/-- The outcome of the overdraw check for a report (R62, R63). -/
def State.outcomeOf (u : State) (p : Pedestal) (e : Session) (w : Nat) : Option Bool :=
  e.accrual.overdraws (w - e.accrual.last) u.now (u.allot p).setpoint

/-- The pricing of a report: the price, the strikes, the check's moment, and the comparison. -/
theorem priceReport_eq (he : u.Holds p e) :
    u.priceReport p e w =
      ((((u.withAccrual p e (u.pricedTo e w)).moveStrikes p e.accrual.strikes (u.outcomeOf p e w)).modifyAccrual p
        fun a => { a with
          previousArrival := some ((u.withAccrual p e (u.pricedTo e w)).moveStrikes p e.accrual.strikes (u.outcomeOf p e w)).now
          previousSetpoint := (u.allot p).setpoint }).compareHold p) := by
  simp only [State.priceReport, modifyAccrual_eq he]
  rfl

/-- The running time stands still while a report is priced. -/
theorem now_moveStrikes (n : Nat) (outcome : Option Bool) :
    ((u.withAccrual p e (u.pricedTo e w)).moveStrikes p n outcome).now = u.now := by
  simp [State.withAccrual]

variable (he : u.Holds p e)
include he

/-- A report for which the check is not made (R62). -/
theorem priceReport_of_unchecked (h : u.outcomeOf p e w = none) :
    u.priceReport p e w =
      (u.withAccrual p e ((u.pricedTo e w).checkedAt u.now (u.allot p).setpoint)).compareHold p := by
  rw [priceReport_eq w he, h]
  exact congrArg (State.compareHold · p) (modifyAccrual_withAccrual u p e _ _)

/-- A report without an excess (R63). -/
theorem priceReport_of_within (h : u.outcomeOf p e w = some false) :
    u.priceReport p e w =
      (u.withAccrual p e (Accrual.checkedAt u.now (u.allot p).setpoint { u.pricedTo e w with strikes := 0 })).compareHold p := by
  rw [priceReport_eq w he, h, now_moveStrikes]
  simp only [State.moveStrikes, modifyAccrual_withAccrual]
  rfl

/-- A first or second excess (R63). -/
theorem priceReport_of_strike (h : u.outcomeOf p e w = some true) (hn : e.accrual.strikes < 2) :
    u.priceReport p e w =
      (u.withAccrual p e
        (Accrual.checkedAt u.now (u.allot p).setpoint { u.pricedTo e w with strikes := e.accrual.strikes + 1 })).compareHold p := by
  rw [priceReport_eq w he, h, now_moveStrikes]
  simp only [State.moveStrikes, if_pos hn, modifyAccrual_withAccrual]
  rfl

/-- The third excess (R64). -/
theorem priceReport_of_third (h : u.outcomeOf p e w = some true) (hn : e.accrual.strikes = 2) :
    u.priceReport p e w =
      (((((u.withAccrual p e { u.pricedTo e w with strikes := 3 }).raiseCondition p .withOverdraw).finish p .overdraw).modifyAccrual p
        (Accrual.checkedAt u.now (u.allot p).setpoint)).compareHold p) := by
  have hlt : ¬ e.accrual.strikes < 2 := by omega
  rw [priceReport_eq w he, h, now_moveStrikes]
  simp only [State.moveStrikes, if_neg hlt, if_pos hn, modifyAccrual_withAccrual]
  rfl

/-- A further excess (R64). -/
theorem priceReport_of_further (h : u.outcomeOf p e w = some true) (hn : 3 ≤ e.accrual.strikes) :
    u.priceReport p e w =
      (((u.withAccrual p e ((u.pricedTo e w).checkedAt u.now (u.allot p).setpoint)).raiseCondition p .withOverdraw).compareHold p) := by
  have hlt : ¬ e.accrual.strikes < 2 := by omega
  have hne : ¬ e.accrual.strikes = 2 := by omega
  rw [priceReport_eq w he, h, now_moveStrikes]
  simp only [State.moveStrikes, if_neg hlt, if_neg hne, modifyAccrual_raiseCondition]
  rfl

end

section
variable {a : Accrual} {delta now setpoint t : Nat}

/-- The check is not made without an earlier report, or within 100 ms of it (R62). -/
theorem overdraws_eq_none (h : a.previousArrival = none ∨ ∃ t, a.previousArrival = some t ∧ now - t < 100) :
    a.overdraws delta now setpoint = none := by
  rcases h with h | ⟨t, h, ht⟩
  · simp [Accrual.overdraws, h]
  · simp [Accrual.overdraws, h, Config.overdrawMinMs, ht]

/-- The check, made (R63). -/
theorem overdraws_eq_some (h : a.previousArrival = some t) (ht : 100 ≤ now - t) :
    a.overdraws delta now setpoint =
      some (decide (allowedPower setpoint a.previousSetpoint * (now - t) < delta * 3600)) := by
  simp [Accrual.overdraws, h, Config.overdrawMinMs, Nat.not_lt.2 ht]

end

/-! ### R147 and a PD-METER (R26) -/

section
variable {s : State} {p : Pedestal} {e : Session}

/-- A return that brings a SUSPENDED slot to RUNNING: the link was SILENT, and LINK alone was left. -/
theorem heardAndJudged_of_returned (he : s.Holds p e) (hstate : (s.slot p).state = .suspended)
    (hreturned : ((s.heardAndJudged p).slot p).state = .running) :
    s.heardFrom p =
      { (s.heardAndJudged p).setSlot p
          { s.slot p with session := some { e with resumeWindow := none, reasons := { e.reasons with link := false } } } with
        notices := s.notices, host := s.host } := by
  have hsilent : (s.link p).state = .silent := by
    refine Classical.byContradiction fun h => ?_
    rw [heardAndJudged_of_heard h] at hreturned
    simp [hstate] at hreturned
  have hlinked : (s.setLink p (s.linkHeard p)).Holds p e := he
  rw [heardAndJudged_of_silent hsilent, linkReturned_of_some hlinked] at hreturned
  rw [heardFrom_of_silent hsilent, heardAndJudged_of_silent hsilent, linkReturned_of_some hlinked]
  have hslot : ((s.setLink p (s.linkHeard p)).setSlot p
      { (s.setLink p (s.linkHeard p)).slot p with session := some e.linkReturned }).slot p =
        { s.slot p with session := some e.linkReturned } := slot_setSlot _ _ _
  generalize hu : (s.setLink p (s.linkHeard p)).setSlot p
    { (s.setLink p (s.linkHeard p)).slot p with session := some e.linkReturned } = u at hreturned hslot
  have hheld : u.Holds p e.linkReturned := by simp [State.Holds, hslot]
  have hsuspended : (u.slot p).state = .suspended := by simpa [hslot] using hstate
  have hempty : e.linkReturned.reasons.isEmpty = true := by
    refine Classical.byContradiction fun h => ?_
    rw [judge_of_stays hheld (by simp [h])] at hreturned
    simp [hsuspended] at hreturned
  rw [judge_of_empty_eq hheld hsuspended hempty]
  subst hu
  simp only [State.setSlot, Vector.set_set]
  rfl

/-- A PD-METER over a return that its own comparison would undo (log 14). -/
theorem heardMeter_of_stays {w : Nat} (h : (s.slot p).state = .suspended ∧ ((s.heardAndJudged p).slot p).state = .running ∧
    (((s.heardAndJudged p).takeMeter p w).slot p).state = .suspended) : s.heardMeter p w = (s.heardFrom p).takeMeter p w := by
  simp only [State.heardMeter, if_pos h]

/-- Any other PD-METER. -/
theorem heardMeter_of_not {w : Nat} (h : ¬ ((s.slot p).state = .suspended ∧ ((s.heardAndJudged p).slot p).state = .running ∧
    (((s.heardAndJudged p).takeMeter p w).slot p).state = .suspended)) : s.heardMeter p w = (s.heardAndJudged p).takeMeter p w := by
  simp only [State.heardMeter, if_neg h]

end

/-- Settles O48: by the register, the session, and the outcome of the check. -/
theorem meterReportsAreHeardCheckedAndPriced : Obligations.MeterReportsAreHeardCheckedAndPriced := by
  refine ⟨fun u p w => ?taken, fun s time p register h => ?heard⟩
  case taken =>
    intro result kept
    refine ⟨fun last hlast hw => takeMeter_of_backward hlast hw, fun hforward =>
      ⟨fun hnone => takeMeter_of_no_session hforward hnone, fun e he => ?session⟩⟩
    intro a setpoint withAccrual overdrawn
    refine ⟨fun hbase => takeMeter_of_opening hforward he hbase, fun base hbase => ?priced⟩
    intro delta band larger allowed priced checked
    have hresult : result = (u.metered p w).priceReport p e w := takeMeter_of_priced hforward he hbase
    have hkept : (u.metered p w).Holds p e := he
    refine ⟨fun hunchecked => ?unchecked, fun t ht hlong => ⟨fun hwithin => ?within, fun hexcess =>
      ⟨fun hn => ?strike, fun hn => ?third, fun hn => ?further⟩⟩⟩
    case unchecked =>
      exact hresult.trans (priceReport_of_unchecked w hkept (overdraws_eq_none hunchecked))
    case within =>
      have houtcome : (u.metered p w).outcomeOf p e w = some false :=
        (overdraws_eq_some ht hlong).trans (congrArg some (decide_eq_false (Nat.not_lt.2 hwithin)))
      exact hresult.trans (priceReport_of_within w hkept houtcome)
    all_goals
      have houtcome : (u.metered p w).outcomeOf p e w = some true :=
        (overdraws_eq_some ht hlong).trans (congrArg some (decide_eq_true hexcess))
    case strike => exact hresult.trans (priceReport_of_strike w hkept houtcome hn)
    case third =>
      have hoverdrawn : (overdrawn (withAccrual { priced with strikes := 3 })).Holds p { e with accrual := { priced with strikes := 3 } } := by
        simp [overdrawn, withAccrual, kept, State.Holds]
      obtain ⟨e', he'⟩ := holds_finish .overdraw hoverdrawn
      refine ⟨e', he', (hresult.trans (priceReport_of_third w hkept houtcome hn)).trans ?_⟩
      exact congrArg (State.compareHold · p) (modifyAccrual_of_some he' _)
    case further => exact hresult.trans (priceReport_of_further w hkept houtcome hn)
  case heard =>
    intro u stays
    refine ⟨fun hnot => ?other, fun hstays e he => ?stays⟩
    case other => rw [exec_pdMeter time h, heardMeter_of_not hnot]
    case stays =>
      intro heard
      have hstate : ((s.advance time).slot p).state = .suspended := hstays.1
      rw [exec_pdMeter time h, heardMeter_of_stays hstays, heardAndJudged_of_returned (s := s.advance time) he hstate hstays.2.1]
      rfl

/-! ### Pedestal restarts (R18, R39, R155, R157) -/

/-- A PD-RESTARTED before the slot takes it: epoch, orders, query and FIELD status. -/
theorem takeRestarted_eq (u : State) (p : Pedestal) (plugged : Bool) :
    u.takeRestarted p plugged =
      (State.raiseCondition
        { u with
          field :=
            { u.field with
              queue := u.field.queue.filter fun o => o.place != .setpoint p && o.place != .other p
              links := u.field.links.set p.val
                { u.link p with epoch := (u.link p).epoch + 1, query := none
                                queryTimer := if (u.link p).query.isSome then none else (u.link p).queryTimer } }
          host := u.emits (u.resetReplies p) } p fun c => { c with restart := true }).restartReported p plugged := by
  have hlink : ((u.advanceEpoch p).dropOrders p).link p = { u.link p with epoch := (u.link p).epoch + 1 } := link_setLink u p _
  rw [State.takeRestarted]
  refine congrArg (fun t : State => (t.raiseCondition p fun c => { c with restart := true }).restartReported p plugged) ?_
  cases hq : (u.link p).query with
  | none =>
    rw [endQuery_of_none (by rw [hlink]; exact hq)]
    simp only [State.resetReplies, hq, State.emits, List.append_nil]
    have hsame : ({ u.link p with epoch := (u.link p).epoch + 1, query := none, queryTimer := (u.link p).queryTimer } : Link) =
        { u.link p with epoch := (u.link p).epoch + 1 } := by rw [← hq]
    simp only [Option.isSome_none, Bool.false_eq_true, if_false, hsame]
    rfl
  | some q =>
    rw [endQuery_of_some (q := q) (by rw [hlink]; exact hq), hlink]
    simp only [State.resetReplies, hq, Option.isSome_some, if_true, State.pushOutput, State.setLink, State.dropOrders, State.setQueue,
      State.advanceEpoch, Vector.set_set]
    rfl

/-- Settles O49: by the slot's state and the connector's position. -/
theorem pedestalRestartReportIsTakenInFull : Obligations.PedestalRestartReportIsTakenInFull := by
  intro s time p plugged h u reset v result marked
  have hresult : result = .next (v.restartReported p plugged).startTransmit :=
    (exec_pdRestarted time h plugged).trans (congrArg (fun t : State => Host.Outcome.next t.startTransmit) (takeRestarted_eq u p plugged))
  have hslot : v.slot p = u.slot p := by simp [v, reset, State.slot]
  rw [hresult, ← hslot]
  refine ⟨fun hstate hp => ?_, fun hstate hp => ?_, fun hstate hp => ?_, fun hstate hp => ?_, fun hstate hp => ?_, fun hstate =>
    ⟨fun hp => ?_, fun hp => ?_⟩⟩
  · simp only [State.restartReported, hstate, hp, Bool.false_eq_true, if_false]
  · simp only [State.restartReported, hstate, hp, if_true]
  · simp only [State.restartReported, hstate, hp, if_true]
  · simp only [State.restartReported, hstate, hp, if_true]
  · rcases hstate with hstate | hstate <;> simp only [State.restartReported, hstate, hp, Bool.false_eq_true, if_false]
  · have hmarked : v.markEnd p = marked := rfl
    rcases hstate with hstate | hstate | hstate | hstate <;> simp only [State.restartReported, hstate, hp, if_true, hmarked]
  · have hmarked : v.markEnd p = marked := rfl
    rcases hstate with hstate | hstate | hstate | hstate <;>
      simp only [State.restartReported, hstate, hp, Bool.false_eq_true, if_false, hmarked]

/-! ### The expiries of a slot's timers and of the report timer (R6, R13, R27, R29, R33, R154) -/

section
variable {s : State} {p : Pedestal}

theorem exec_authWaitExpiry_of_due {due : Nat} (hlive : s.Live) (hstate : (s.slot p).state = .plugged)
    (hdue : (s.slot p).authWait = some due) :
    exec (.authWaitExpiry (p.val + 1)) s = .next ((s.advance due).refuseSlot p).startTransmit :=
  occurAtPedestal_of_some (f := fun p s => match (s.slot p).state, (s.slot p).authWait with
    | .plugged, some due => some ((s.advance due).refuseSlot p)
    | _, _ => none) hlive (by simp [hstate, hdue])

theorem exec_authWaitExpiry_of_stopped (h : (s.slot p).authWait = none) : exec (.authWaitExpiry (p.val + 1)) s = .next s :=
  occurAtPedestal_of_none (f := fun p s => match (s.slot p).state, (s.slot p).authWait with
    | .plugged, some due => some ((s.advance due).refuseSlot p)
    | _, _ => none) (by simp [h])

theorem exec_startWaitExpiry_of_due {due : Nat} (hlive : s.Live) (hstate : (s.slot p).state = .starting)
    (hdue : (s.slot p).session.bind Session.startWait = some due) :
    exec (.startWaitExpiry (p.val + 1)) s = .next ((s.advance due).finish p .startFailed).startTransmit :=
  occurAtPedestal_of_some (f := fun p s => match (s.slot p).state, (s.slot p).session.bind Session.startWait with
    | .starting, some due => some ((s.advance due).finish p .startFailed)
    | _, _ => none) hlive (by simp [hstate, hdue])

theorem exec_startWaitExpiry_of_stopped (h : (s.slot p).session.bind Session.startWait = none) :
    exec (.startWaitExpiry (p.val + 1)) s = .next s :=
  occurAtPedestal_of_none (f := fun p s => match (s.slot p).state, (s.slot p).session.bind Session.startWait with
    | .starting, some due => some ((s.advance due).finish p .startFailed)
    | _, _ => none) (by simp [h])

theorem exec_resumeWindowExpiry_of_due {due : Nat} (hlive : s.Live) (hdue : (s.slot p).session.bind Session.resumeWindow = some due) :
    exec (.resumeWindowExpiry (p.val + 1)) s = .next ((s.advance due).closeSession p .linkLost).startTransmit :=
  occurAtPedestal_of_some (f := fun p s => match (s.slot p).session.bind Session.resumeWindow with
    | some due => some ((s.advance due).closeSession p .linkLost)
    | none => none) hlive (by simp [hdue])

theorem exec_resumeWindowExpiry_of_stopped (h : (s.slot p).session.bind Session.resumeWindow = none) :
    exec (.resumeWindowExpiry (p.val + 1)) s = .next s :=
  occurAtPedestal_of_none (f := fun p s => match (s.slot p).session.bind Session.resumeWindow with
    | some due => some ((s.advance due).closeSession p .linkLost)
    | none => none) (by simp [h])

theorem exec_extensionWindowExpiry_of_due {due : Nat} (hlive : s.Live) (hstate : (s.slot p).state = .suspended)
    (hdue : (s.slot p).session.bind Session.extensionWindow = some due) :
    exec (.extensionWindowExpiry (p.val + 1)) s = .next ((s.advance due).finish p .holdExpired).startTransmit :=
  occurAtPedestal_of_some (f := fun p s => match (s.slot p).state, (s.slot p).session.bind Session.extensionWindow with
    | .suspended, some due => some ((s.advance due).finish p .holdExpired)
    | _, _ => none) hlive (by simp [hstate, hdue])

theorem exec_extensionWindowExpiry_of_stopped (h : (s.slot p).session.bind Session.extensionWindow = none) :
    exec (.extensionWindowExpiry (p.val + 1)) s = .next s :=
  occurAtPedestal_of_none (f := fun p s => match (s.slot p).state, (s.slot p).session.bind Session.extensionWindow with
    | .suspended, some due => some ((s.advance due).finish p .holdExpired)
    | _, _ => none) (by simp [h])

theorem exec_reportTimerExpiry_of_due {due : Nat} (hlive : s.Live) (hup : (s.link p).state = .up)
    (hdue : (s.link p).reportTimer = some due) :
    exec (.reportTimerExpiry (p.val + 1)) s = .next ((s.advance due).goSilent p).startTransmit :=
  occurAtPedestal_of_some (f := fun p s => match (s.link p).state, (s.link p).reportTimer with
    | .up, some due => some ((s.advance due).goSilent p)
    | _, _ => none) hlive (by simp [hup, hdue])

/-- A session that a slot holds has the timer. -/
theorem bind_of_holds {α : Type} {e : Session} (he : s.Holds p e) (f : Session → Option α) : (s.slot p).session.bind f = f e := by
  rw [show (s.slot p).session = some e from he]
  rfl

/-- The resume window of a session, started where it does not run (R20, R27). -/
def State.resumed (v : State) (e : Session) : Session := { e with resumeWindow := v.startWindow e.resumeWindow v.params.resumeWindowS }

/-- The resume window started in a slot that holds a session. -/
theorem startResume_of_some {e : Session} (he : s.Holds p e) :
    s.startResume p = s.setSlot p { s.slot p with session := some (s.resumed e) } := modifySession_of_some he _

/-- The link's silence in a slot with no open session to suspend (R27). -/
theorem linkSilent_of_free (h : (s.slot p).state = .vacant ∨ (s.slot p).state = .plugged ∨ (s.slot p).state = .waitUnplug) :
    s.linkSilent p = s := by
  rcases h with h | h | h <;> simp [State.linkSilent, h]

/-- The link's silence in STARTING or FINISHED (R27). -/
theorem linkSilent_of_unpowered (h : (s.slot p).state = .starting ∨ (s.slot p).state = .finished) : s.linkSilent p = s.startResume p := by
  rcases h with h | h <;> simp [State.linkSilent, h]

/-- The link's silence in RUNNING or SUSPENDED (R27). -/
theorem linkSilent_of_powered (h : (s.slot p).state = .running ∨ (s.slot p).state = .suspended) :
    s.linkSilent p = (s.addReason p .link).startResume p := by
  rcases h with h | h <;> simp [State.linkSilent, h]

end

/-- Settles O50: each expiry is its event's equation, and the link's silence is taken by the slot's state. -/
theorem slotAndReportTimersExpireByTheirRules : Obligations.SlotAndReportTimersExpireByTheirRules := by
  refine ⟨fun s p hlive => ⟨fun due hstate hdue => ?auth, exec_authWaitExpiry_of_stopped, fun e he =>
    ⟨fun due hstate hdue => ?start, fun due hdue => ?resume, fun due hstate hdue => ?extension, fun h => ?noStart, fun h => ?noResume,
      fun h => ?noExtension⟩, fun hnone => ?noSession⟩, fun s p due hlive hup hdue => ?report⟩
  case auth => rw [exec_authWaitExpiry_of_due hlive hstate hdue, refuseSlot_eq]
  case start => exact exec_startWaitExpiry_of_due hlive hstate ((bind_of_holds he _).trans hdue)
  case resume => exact exec_resumeWindowExpiry_of_due hlive ((bind_of_holds he _).trans hdue)
  case extension => exact exec_extensionWindowExpiry_of_due hlive hstate ((bind_of_holds he _).trans hdue)
  case noStart => exact exec_startWaitExpiry_of_stopped ((bind_of_holds he _).trans h)
  case noResume => exact exec_resumeWindowExpiry_of_stopped ((bind_of_holds he _).trans h)
  case noExtension => exact exec_extensionWindowExpiry_of_stopped ((bind_of_holds he _).trans h)
  case noSession =>
    exact ⟨exec_startWaitExpiry_of_stopped (by simp [hnone]), exec_resumeWindowExpiry_of_stopped (by simp [hnone]),
      exec_extensionWindowExpiry_of_stopped (by simp [hnone])⟩
  case report =>
    intro u v result window
    have hresult : result = .next (v.linkSilent p).startTransmit := exec_reportTimerExpiry_of_due hlive hup hdue
    have hslot : v.slot p = s.slot p := by simp [v, u]
    have hstarted (e : Session) : v.startWindow e.resumeWindow v.params.resumeWindowS = window e := by
      simp only [window]
      cases e.resumeWindow <;> rfl
    have hwindow (e : Session) : v.resumed e = { e with resumeWindow := window e } :=
      congrArg (fun t => ({ e with resumeWindow := t } : Session)) (hstarted e)
    rw [hresult]
    refine ⟨fun hstate => ?free, fun e he hstate => ?unpowered, fun e he hstate => ?suspended, fun e he hstate => ?running⟩
    case free => rw [linkSilent_of_free (by rwa [hslot])]
    case unpowered =>
      have hholds : v.Holds p e := by rw [State.Holds, hslot]; exact he
      rw [linkSilent_of_unpowered (by rwa [hslot]), startResume_of_some hholds, hwindow]
    case suspended =>
      have hholds : v.Holds p e := by rw [State.Holds, hslot]; exact he
      have hstate' : (v.slot p).state = .suspended := by rw [hslot]; exact hstate
      rw [linkSilent_of_powered (Or.inr hstate'), addReason_of_suspended .link hholds hstate']
      rw [startResume_of_some (e := { e with reasons := e.reasons.add .link }) (by simp [State.Holds]), slot_setSlot, setSlot_setSlot]
      refine congrArg (fun x : Session => Host.Outcome.next (State.startTransmit (v.setSlot p { v.slot p with session := some x }))) ?_
      exact hwindow { e with reasons := e.reasons.add .link }
    case running =>
      have hholds : v.Holds p e := by rw [State.Holds, hslot]; exact he
      have hstate' : (v.slot p).state = .running := by rw [hslot]; exact hstate
      have hadded : (v.addReason p .link).Holds p (e.suspended .link v.clock.day v.clock.minute) := by
        rw [addReason_of_running .link hholds hstate']
        simp [State.Holds]
      have hsame : (e.suspended .link v.clock.day v.clock.minute).resumeWindow = e.resumeWindow := by
        rw [Session.suspended_eq]
      refine ⟨_, hadded, hsame, ?_⟩
      rw [linkSilent_of_powered (Or.inl hstate'), startResume_of_some hadded]
      have hnow : (v.addReason p .link).now = v.now := by simp
      have hparams : (v.addReason p .link).params = v.params := by simp
      have hresumed : (v.addReason p .link).resumed (e.suspended .link v.clock.day v.clock.minute) =
          { e.suspended .link v.clock.day v.clock.minute with resumeWindow := window e } := by
        simp only [State.resumed, hsame, hparams, startWindow_congr hnow, hstarted]
      rw [hresumed]

end Sys2Proof.Machine
end

section
/-! # Modules, the grid meter and discarded frames (R103, R114 to R125, R139 to R144, R146, R152)

The switching steps change one record and the queue; the reports and expiries are read off the module's state. A reading is taken by the
monitor's settling and threshold; a frame that the acceptance discards reaches nothing. -/

namespace Sys2Proof.Machine

/-! ### A module's events reach the part -/

section
variable {s : State} {m : ModuleNo} (time : Nat)

theorem exec_mdState (h : s.HearsModule m) (c : Contact) :
    exec (.mdState time (m.val + 1) c) s = .next ((s.advance time).takeContact m c).startTransmit := by
  obtain ⟨hlive, hcan, hinstalled⟩ := h
  exact occurAtModule_of_some (f := fun m s => s.receiveReport time (.moduleState m c)) hlive
    (receiveReport_of_heard (x := .moduleState m c) time hcan (by simpa [State.hears] using hinstalled))

theorem exec_mdFault (h : s.HearsModule m) (code : Byte) :
    exec (.mdFault time (m.val + 1) code) s = .next ((s.advance time).takeFault m code).startTransmit := by
  obtain ⟨hlive, hcan, hinstalled⟩ := h
  exact occurAtModule_of_some (f := fun m s => s.receiveReport time (.moduleFault m code)) hlive
    (receiveReport_of_heard (x := .moduleFault m code) time hcan (by simpa [State.hears] using hinstalled))

end

section
variable {s : State} {m : ModuleNo} {due : Nat}

theorem exec_prechargeTimerExpiry_of_due (hlive : s.Live) (hstate : (s.module m).state = .precharge)
    (hdue : (s.module m).timer = .running due) :
    exec (.prechargeTimerExpiry (m.val + 1)) s = .next ((s.advance due).closeContactor m).startTransmit :=
  occurAtModule_of_some (f := fun m s => match (s.module m).state, (s.module m).timer with
    | .precharge, .running due => some ((s.advance due).closeContactor m)
    | _, _ => none) hlive (by simp [hstate, hdue])

theorem exec_rampTimerExpiry_of_due (hlive : s.Live) (hstate : (s.module m).state = .rampDown)
    (hdue : (s.module m).timer = .running due) :
    exec (.rampTimerExpiry (m.val + 1)) s = .next ((s.advance due).openContactor m).startTransmit :=
  occurAtModule_of_some (f := fun m s => match (s.module m).state, (s.module m).timer with
    | .rampDown, .running due => some ((s.advance due).openContactor m)
    | _, _ => none) hlive (by simp [hstate, hdue])

theorem exec_contactTimerExpiry_of_closing (hlive : s.Live) (hstate : (s.module m).state = .contactClose)
    (hdue : (s.module m).timer = .running due) :
    exec (.contactTimerExpiry (m.val + 1)) s = .next ((s.advance due).faultModule m .closeTimeout 0).startTransmit :=
  occurAtModule_of_some (f := fun m s => match (s.module m).state, (s.module m).timer with
    | .contactClose, .running due => some ((s.advance due).faultModule m .closeTimeout 0)
    | .contactOpen, .running due => some ((s.advance due).faultModule m .openTimeout 0)
    | _, _ => none) hlive (by simp [hstate, hdue])

theorem exec_contactTimerExpiry_of_opening (hlive : s.Live) (hstate : (s.module m).state = .contactOpen)
    (hdue : (s.module m).timer = .running due) :
    exec (.contactTimerExpiry (m.val + 1)) s = .next ((s.advance due).faultModule m .openTimeout 0).startTransmit :=
  occurAtModule_of_some (f := fun m s => match (s.module m).state, (s.module m).timer with
    | .contactClose, .running due => some ((s.advance due).faultModule m .closeTimeout 0)
    | .contactOpen, .running due => some ((s.advance due).faultModule m .openTimeout 0)
    | _, _ => none) hlive (by simp [hstate, hdue])

end

/-! ### The switching steps (R115, R116, R118, R119, R125) -/

section
variable (u : State) (m : ModuleNo)

/-- An order of a module changes the queue alone. -/
theorem replaceOrEnqueue_fields (o : Order) : u.replaceOrEnqueue o = { u with field := (u.replaceOrEnqueue o).field } := by
  unfold State.replaceOrEnqueue
  split <;> rfl

/-- The field link that an order leaves is read off the field link alone. -/
theorem field_replaceOrEnqueue_congr {s t : State} (o : Order) (h : t.field = s.field) :
    (t.replaceOrEnqueue o).field = (s.replaceOrEnqueue o).field := by
  have hunsent : t.unsentAt o.place = s.unsentAt o.place := unsentAt_congr (by rw [h]) _
  unfold State.replaceOrEnqueue
  rw [hunsent]
  cases s.unsentAt o.place with
  | none => simp [State.enqueue, State.setQueue, h]
  | some x => simp [State.replaceOrder, State.setQueue, h]

/-- A contactor opened: the record and the field link change. -/
theorem openContactor_fields :
    u.openContactor m =
      { u with
        modules := u.modules.set m.val
          { u.module m with state := .contactOpen, timer := .running (u.now + u.params.contactMs), releaseOnClose := false }
        field := (u.placeOrder (.openContact m)).field } := by
  have hplace : u.placeOrder (.openContact m) = _ := replaceOrEnqueue_fields u (.openContact m)
  rw [State.openContactor, hplace]
  rfl

/-- A contactor closed. -/
theorem closeContactor_fields :
    u.closeContactor m =
      { u with
        modules := u.modules.set m.val
          { u.module m with state := .contactClose, timer := .running (u.now + u.params.contactMs), releaseOnClose := false }
        field := (u.placeOrder (.close m)).field } := by
  have hplace : u.placeOrder (.close m) = _ := replaceOrEnqueue_fields u (.close m)
  rw [State.closeContactor, hplace]
  rfl

/-- A module ramped down. -/
theorem rampModule_fields :
    u.rampModule m =
      { u with
        modules := u.modules.set m.val
          { u.module m with state := .rampDown, timer := .running (u.now + u.params.rampMs), releaseOnClose := false }
        field := (u.placeOrder (.ramp m)).field } := by
  have hplace : u.placeOrder (.ramp m) = _ := replaceOrEnqueue_fields u (.ramp m)
  rw [State.rampModule, hplace]
  rfl

end

section
variable {u : State} {m : ModuleNo}

/-- Reports of contact that the module's state expects, or that say nothing new (R121). -/
theorem takeContact_of_ignored {c : Contact}
    (h : ((u.module m).state = .free ∧ c ≠ .closed) ∨ ((u.module m).state = .precharge ∧ c ≠ .closed) ∨
      ((u.module m).state = .contactClose ∧ c ≠ .closed) ∨ ((u.module m).state = .assigned ∧ c ≠ .opened) ∨
      ((u.module m).state = .rampDown ∧ c = .closed) ∨ ((u.module m).state = .contactOpen ∧ c ≠ .opened) ∨
      (u.module m).state = .faulted) : u.takeContact m c = u := by
  rcases h with ⟨h, hc⟩ | ⟨h, hc⟩ | ⟨h, hc⟩ | ⟨h, hc⟩ | ⟨h, hc⟩ | ⟨h, hc⟩ | h <;> cases c <;> simp_all [State.takeContact]

/-- A closed report of a module that is wanted (R102, R116). -/
theorem moduleClosed_of_wanted {p : Pedestal} (hmark : (u.module m).releaseOnClose = false) (hp : (u.module m).assigned = some p) :
    u.moduleClosed m =
      (u.setModule m { u.module m with state := .assigned, timer := .stopped }).settleSetpoint p := by
  simp [State.moduleClosed, hmark, hp]

/-- A closed report of a module that is to be released (R116). -/
theorem moduleClosed_of_marked (hmark : (u.module m).releaseOnClose = true) : u.moduleClosed m = u.rampModule m := by
  simp [State.moduleClosed, hmark]

end

/-- Settles O51: by the module's state, its timers and its reports. -/
theorem modulesFollowTheSwitchingSequence : Obligations.ModulesFollowTheSwitchingSequence := by
  intro s m r opened
  refine ⟨fun due hlive hstate hdue => ?closes, fun due hlive hstate hdue => ?opens, fun time h => ?reports⟩
  case closes =>
    rw [exec_prechargeTimerExpiry_of_due hlive hstate hdue]
    exact congrArg (fun t => Host.Outcome.next (State.startTransmit t)) (closeContactor_fields (s.advance due) m)
  case opens =>
    rw [exec_rampTimerExpiry_of_due hlive hstate hdue]
    exact congrArg (fun t => Host.Outcome.next (State.startTransmit t)) (openContactor_fields (s.advance due) m)
  case reports =>
    intro u report
    have hreport (c : Contact) : report c = .next (u.takeContact m c).startTransmit := exec_mdState time h c
    have hmodule : u.module m = r := rfl
    refine ⟨fun p hstate hmark hp => ?assigned, fun hstate hmark => ?ramps, fun hstate => ?zero, fun hstate => ?freed,
      fun c hc => ?ignored⟩
    case ramps =>
      have htake : u.takeContact m .closed = u.moduleClosed m := by simp only [State.takeContact, hmodule, hstate]
      rw [hreport, htake, moduleClosed_of_marked (u := u) hmark]
      exact congrArg (fun t => Host.Outcome.next (State.startTransmit t)) (rampModule_fields u m)
    case zero =>
      have htake : u.takeContact m .zero = u.openContactor m := by simp only [State.takeContact, hmodule, hstate]
      rw [hreport, htake]
      exact congrArg (fun t => Host.Outcome.next (State.startTransmit t)) (openContactor_fields u m)
    case freed =>
      have htake : u.takeContact m .opened = u.moduleFreed m := by simp only [State.takeContact, hmodule, hstate]
      rw [hreport, htake]
      rfl
    case ignored => rw [hreport, takeContact_of_ignored (u := u) hc]
    case assigned =>
      intro v rating request wanted kw
      have htake : u.takeContact m .closed = u.moduleClosed m := by simp only [State.takeContact, hmodule, hstate]
      have hkw : v.setpointValue p = kw := by
        rw [setpointValue_eq, wantedPower_eq]
        rfl
      rw [hreport, htake, moduleClosed_of_wanted (u := u) hmark hp, State.settleSetpoint]
      change Host.Outcome.next (State.startTransmit (v.orderSetpoint p (v.setpointValue p))) = _
      rw [hkw]
      rfl

/-! ### Entry to FAULTED and MODULE-RETURN (R103, R117, R120 to R123, R125) -/

section
variable {u : State} {m : ModuleNo}

/-- An entry to FAULTED without an ASSIGNED module lost. -/
theorem faultModule_of_other (origin : FaultOrigin) (code : Byte) (h : (u.module m).state ≠ .assigned) :
    u.faultModule m origin code =
      ((u.setModule m
        { u.module m with
          state := .faulted, timer := .stopped, releaseOnClose := false, assigned := none
          fault := some { origin := origin, code := code } }).placeOrder (.openContact m)).raisePark
        fun d => { d with faulted := d.faulted.set m.val true } := by
  simp only [State.faultModule, if_neg h]

/-- An entry to FAULTED of an ASSIGNED module: the setpoint falls to what the others give. -/
theorem faultModule_of_assigned (origin : FaultOrigin) (code : Byte) (h : (u.module m).state = .assigned) :
    u.faultModule m origin code =
      (((u.setModule m
        { u.module m with
          state := .faulted, timer := .stopped, releaseOnClose := false, assigned := none
          fault := some { origin := origin, code := code } }).lowerToAssigned (u.module m).assigned).placeOrder
            (.openContact m)).raisePark
        fun d => { d with faulted := d.faulted.set m.val true } := by
  simp only [State.faultModule, if_pos h]

end

/-- A module returned: its record and the field link change. -/
theorem returnModule_startTransmit (s : State) (m : ModuleNo) :
    (s.returnModule m).startTransmit =
      { s with
        modules := s.modules.set m.val
          { s.module m with
            state := .contactOpen, assigned := pedestalOf (s.module m).window.first
            timer := .running (s.now + s.params.contactMs), releaseOnClose := false, forced := false, fault := none }
        field := (s.placeOrder (.openContact m)).startTransmit.field } := by
  have hfield : ((s.setModule m
      { s.module m with fault := none, forced := false, assigned := pedestalOf (s.module m).window.first }).placeOrder
        (.openContact m)).field = (s.placeOrder (.openContact m)).field := field_replaceOrEnqueue_congr _ rfl
  rw [State.returnModule, openContactor_fields, hfield, module_setModule]
  simp only [State.setModule, Vector.set_set]
  exact startTransmit_congr rfl

/-- Settles O52: by the module's state, with the setpoint lowered where it was ASSIGNED. -/
theorem faultsTakeModulesOutOfService : Obligations.FaultsTakeModulesOutOfService := by
  refine ⟨fun s m => ?faults, fun s r h => ⟨fun hm => ?noModule, fun m hm => ⟨fun hstate => ?refused, fun hstate => ?returned⟩⟩⟩
  case faults =>
    intro r faulted
    have hfaulted (u : State) (hu : u.module m = r) (origin : FaultOrigin) (code : Byte) :
        .next (u.faultModule m origin code).startTransmit = faulted u origin code := by
      by_cases hstate : r.state = .assigned
      · rw [faultModule_of_assigned origin code (by rw [hu]; exact hstate), hu]
        cases hp : r.assigned with
        | none => simp only [faulted, hstate, hp]; rfl
        | some p => simp only [faulted, hstate, hp]; rfl
      · rw [faultModule_of_other origin code (by rw [hu]; exact hstate), hu]
        cases h : r.state
        case assigned => exact absurd h hstate
        all_goals
          simp only [faulted, h]
          rfl
    refine ⟨fun due hlive hdue => ⟨fun hstate => ?closing, fun hstate => ?opening⟩, fun time h => ⟨fun hstate => ?closed,
      fun hstate => ?opened, fun code => ⟨fun hstate => ?reported, fun hstate => ?ignored⟩⟩⟩
    case closing => exact (exec_contactTimerExpiry_of_closing hlive hstate hdue).trans (hfaulted (s.advance due) rfl _ _)
    case opening => exact (exec_contactTimerExpiry_of_opening hlive hstate hdue).trans (hfaulted (s.advance due) rfl _ _)
    all_goals have hmodule : (s.advance time).module m = r := rfl
    case closed =>
      have htake : (s.advance time).takeContact m .closed = (s.advance time).faultModule m .unexpectedClosed 0 := by
        rcases hstate with hstate | hstate <;> simp only [State.takeContact, hmodule, hstate]
      rw [exec_mdState time h, htake]
      exact hfaulted (s.advance time) rfl _ _
    case opened =>
      have htake : (s.advance time).takeContact m .opened = (s.advance time).faultModule m .unexpectedOpen 0 := by
        rcases hstate with hstate | hstate <;> simp only [State.takeContact, hmodule, hstate]
      rw [exec_mdState time h, htake]
      exact hfaulted (s.advance time) rfl _ _
    case reported =>
      have htake : (s.advance time).takeFault m code = (s.advance time).faultModule m .reported code := by
        have hinstalled : r.state ≠ .absent := h.2.2
        unfold State.takeFault
        rw [hmodule]
        cases hr : r.state <;> simp_all
      rw [exec_mdFault time h, htake]
      exact hfaulted (s.advance time) rfl _ _
    case ignored =>
      have htake : (s.advance time).takeFault m code = s.advance time := by simp only [State.takeFault, hmodule, hstate]
      rw [exec_mdFault time h, htake]
  case noModule => exact exec_command_of_refuse (k := .moduleReturn) h (by decide) (by simp only [RequestKind.owner, State.moduleReturn, hm])
  case refused =>
    have hstate' : ¬ (s.dropHead.module m).state = .faulted := hstate
    exact exec_command_of_refuse (k := .moduleReturn) h (by decide)
      (by simp only [RequestKind.owner, State.moduleReturn, hm, if_neg hstate'])
  case returned =>
    have hstate' : (s.dropHead.module m).state = .faulted := hstate
    have hportable : Portable (fun s => (s.returnModule m).startTransmit) s :=
      (portable_startTransmit _).comp (Portable.comp (f := fun s => s.setModule m
        { s.module m with fault := none, forced := false, assigned := pedestalOf (s.module m).window.first })
        (portable_openContactor _ m) (.of_quiet fun _ => rfl))
    have hexec := exec_command_of_portable (k := .moduleReturn) (fields := []) h hportable
      (by simp only [RequestKind.owner, State.moduleReturn, hm, if_pos hstate'])
    refine hexec.trans (congrArg Host.Outcome.next ?_)
    rw [returnModule_startTransmit]
    rfl

/-! ### The grid meter (R139 to R144) -/

section
variable {u : State}

/-- A reading with sag enable off (R141). -/
theorem takeVolts_of_disabled (reading : Nat) (h : u.params.sagEnable = false) : u.takeVolts reading = u := by
  simp [State.takeVolts, h]

/-- A reading while the monitor settles (R141). -/
theorem takeVolts_of_settling (reading : Nat) (h : u.params.sagEnable = true) (hsettling : 1 < u.prot.settling) :
    u.takeVolts reading = { u with prot := { u.prot with settling := u.prot.settling - 1 } } := by
  have hpos : 0 < u.prot.settling := by omega
  have hleft : ¬ u.prot.settling - 1 = 0 := by omega
  simp [State.takeVolts, h, hpos, hleft]

/-- The reading that settles the monitor (R141). -/
theorem takeVolts_of_settled (reading : Nat) (h : u.params.sagEnable = true) (hsettling : u.prot.settling = 1) :
    u.takeVolts reading =
      { u with prot := { u.prot with settling := 0, silence := some (u.now + u.params.reportTimeoutS * 1000) } } := by
  simp [State.takeVolts, h, hsettling, State.silenceTimer, State.after]

/-- The silence timer started with a reading (R141). -/
def State.timed (u : State) : State := { u with prot := { u.prot with silence := some (u.now + u.params.reportTimeoutS * 1000) } }

/-- A settled reading below the threshold (R142). -/
theorem takeVolts_of_low {reading : Nat} (h : u.params.sagEnable = true) (hsettling : u.prot.settling = 0)
    (hlow : reading < 800 + 10 * (u.params.sagIndex - 1)) : u.takeVolts reading = u.timed.lowReading := by
  have henabled : ¬ (!u.params.sagEnable) = true := by simp [h]
  have hsettled : ¬ 0 < u.prot.settling := by omega
  unfold State.takeVolts
  rw [if_neg henabled, if_neg hsettled]
  exact if_pos hlow

/-- A settled reading at or above the threshold (R143). -/
theorem takeVolts_of_normal {reading : Nat} (h : u.params.sagEnable = true) (hsettling : u.prot.settling = 0)
    (hhigh : 800 + 10 * (u.params.sagIndex - 1) ≤ reading) : u.takeVolts reading = u.timed.normalReading := by
  have henabled : ¬ (!u.params.sagEnable) = true := by simp [h]
  have hsettled : ¬ 0 < u.prot.settling := by omega
  unfold State.takeVolts
  rw [if_neg henabled, if_neg hsettled]
  exact if_neg (Nat.not_lt.2 hhigh)

/-- A reading that makes derate active, or finds it so (R142). -/
theorem lowReading_eq :
    u.lowReading =
      (let v : State := { u with prot := { u.prot with live := .sag, recoveryHold := none, derate := true } }
      if u.prot.derate = true then v
      else v.considerReduction.raisePark fun d => { d with sag := true }) := rfl

theorem exec_gmVolts (time : Nat) (reading : BitVec 16) (hlive : u.Live) (hcan : u.field.can = .onBus) :
    exec (.gmVolts time reading) u = .next ((u.advance time).takeVolts reading.toNat).startTransmit :=
  occur_of_some (f := fun s => s.receiveReport time (.volts reading.toNat)) hlive
    (receiveReport_of_heard (x := .volts reading.toNat) time hcan rfl)

theorem exec_recoveryHoldExpiry_of_due {due : Nat} (hlive : u.Live) (hdue : u.prot.recoveryHold = some due) :
    exec .recoveryHoldExpiry u = .next (u.advance due).recovered.startTransmit :=
  occur_of_some (f := fun s => match s.prot.recoveryHold with
    | some due => some (s.advance due).recovered
    | none => none) hlive (by simp [hdue])

theorem exec_recoveryHoldExpiry_of_stopped (h : u.prot.recoveryHold = none) : exec .recoveryHoldExpiry u = .next u :=
  occur_of_none (f := fun s => match s.prot.recoveryHold with
    | some due => some (s.advance due).recovered
    | none => none) (by simp [h])

theorem exec_silenceTimerExpiry_of_due {due : Nat} (hlive : u.Live) (hdue : u.prot.silence = some due) :
    exec .silenceTimerExpiry u = .next (u.advance due).meterSilent.startTransmit :=
  occur_of_some (f := fun s => match s.prot.silence with
    | some due => some (s.advance due).meterSilent
    | none => none) hlive (by simp [hdue])

theorem exec_silenceTimerExpiry_of_stopped (h : u.prot.silence = none) : exec .silenceTimerExpiry u = .next u :=
  occur_of_none (f := fun s => match s.prot.silence with
    | some due => some (s.advance due).meterSilent
    | none => none) (by simp [h])

end

/-- Settles O53: by the settling count and the threshold, and by the two timers. -/
theorem gridMeterReadingsDecideDerate : Obligations.GridMeterReadingsDecideDerate := by
  intro s hlive low
  have hlow (u : State) : u.lowReading = low u := rfl
  refine ⟨fun time reading hcan => ?reading, fun due hdue => exec_recoveryHoldExpiry_of_due hlive hdue,
    exec_recoveryHoldExpiry_of_stopped, fun due hdue => ?silent, exec_silenceTimerExpiry_of_stopped⟩
  case reading =>
    intro u timed result
    have hresult : result = .next (u.takeVolts reading.toNat).startTransmit := exec_gmVolts time reading hlive hcan
    rw [hresult]
    refine ⟨fun h => ?disabled, fun h hsettling => ?settling, fun h hsettling => ?settled, fun h hsettling =>
      ⟨fun hreading => ?low, fun hreading => ?normal⟩⟩
    case disabled => rw [takeVolts_of_disabled (u := u) _ h]
    case settling => rw [takeVolts_of_settling (u := u) _ h hsettling]
    case settled => rw [takeVolts_of_settled (u := u) _ h hsettling]
    case low => rw [takeVolts_of_low (u := u) h hsettling hreading, hlow]; rfl
    case normal =>
      rw [takeVolts_of_normal (u := u) h hsettling hreading]
      refine congrArg (fun t : State => Host.Outcome.next t.startTransmit) ?_
      cases hderate : s.prot.derate <;> cases hhold : s.prot.recoveryHold <;>
        simp [State.normalReading, State.timed, timed, u, State.advance, hderate, hhold, State.startWindow, State.after, State.params]
  case silent =>
    intro u v
    rw [exec_silenceTimerExpiry_of_due hlive hdue, ← hlow]
    rfl

/-! ### Discarded frames (R146, R152) -/

/-- No pedestal has the number 0 or a number above 16. -/
theorem pedestalOf_eq_none {n : Nat} (h : n = 0 ∨ 16 < n) : pedestalOf n = none := dif_neg (by omega)

/-- No module has the number 0 or a number above 32. -/
theorem moduleOf_eq_none {n : Nat} (h : n = 0 ∨ 32 < n) : moduleOf n = none := dif_neg (by omega)

/-- A pedestal's event that only a heard pedestal can have. -/
theorem occurAtPedestal_of_unheard {s : State} {n : Nat} {f : Pedestal → State → Option State} (hunheard : ∀ p, n = p.val + 1 → ¬ s.Hears p)
    (hf : ∀ p, ¬ (s.field.can = .onBus ∧ s.rating p ≠ 0) → f p s = none) : occurAtPedestal s n f = .next s := by
  by_cases hlive : s.Live
  · refine occur_of_none ?_
    cases hp : pedestalOf n with
    | none => rfl
    | some p => exact hf p fun h => hunheard p (pedestalOf_eq_some hp) ⟨hlive, h⟩
  · exact occur_of_dead _ hlive

/-- A module's event that only a heard module can have. -/
theorem occurAtModule_of_unheard {s : State} {n : Nat} {f : ModuleNo → State → Option State}
    (hunheard : ∀ m, n = m.val + 1 → ¬ s.HearsModule m)
    (hf : ∀ m, ¬ (s.field.can = .onBus ∧ (s.module m).state ≠ .absent) → f m s = none) : occurAtModule s n f = .next s := by
  by_cases hlive : s.Live
  · refine occur_of_none ?_
    cases hm : moduleOf n with
    | none => rfl
    | some m => exact hf m fun h => hunheard m (moduleOf_eq_some hm) ⟨hlive, h⟩
  · exact occur_of_dead _ hlive

/-- A report that is not heard is discarded. -/
theorem receiveReport_of_unheard {s : State} {x : Report} (time : Nat) (h : ¬ (s.field.can = .onBus ∧ s.hears x = true)) :
    s.receiveReport time x = none := if_neg h

/-- A pedestal's report of an unknown kind, or of too many bytes. -/
theorem pedestalReport_eq_none (p : Pedestal) {kind : Nat} {data : List Byte} (h : (kind < 7 ∨ 12 < kind) ∨ 8 < data.length) :
    pedestalReport p kind data = none := by
  unfold pedestalReport
  split
  case h_6 => exact if_neg (by omega)
  case h_7 => rfl
  all_goals omega

/-- A module's report of too many bytes. -/
theorem moduleReport_eq_none (m : ModuleNo) {kind : Nat} {data : List Byte} (h : 8 < data.length) : moduleReport m kind data = none := by
  unfold moduleReport
  split
  case h_3 => rfl
  all_goals omega

/-- Settles O56: by the conditions of the acceptance, one after another. -/
theorem unacceptedFramesChangeNothing : Obligations.UnacceptedFramesChangeNothing := by
  refine ⟨fun s time f hf => ?discarded, fun s time n h => ⟨fun b => ?plug, fun k => ?token, fun b kw => ?vehicle, fun w => ?meter,
    fun b => ?restarted, fun e c d => ?answer⟩, fun s time n h => ⟨fun c => ?contact, fun c => ?fault⟩, fun s time reading hcan => ?volts,
    fun f hf => ?frame⟩
  case discarded => exact occur_of_none (f := fun s => (frameReport f).bind fun r => s.receiveReport time r) (by simp [hf])
  case plug =>
    exact occurAtPedestal_of_unheard (f := fun p s => s.receiveReport time (.plug p b)) h
      fun p hp => receiveReport_of_unheard time (by simpa [State.hears] using hp)
  case token =>
    exact occurAtPedestal_of_unheard (f := fun p s => s.receiveReport time (.token p k)) h
      fun p hp => receiveReport_of_unheard time (by simpa [State.hears] using hp)
  case vehicle =>
    exact occurAtPedestal_of_unheard (f := fun p s => s.receiveReport time (.vehicle p b kw.toNat)) h
      fun p hp => receiveReport_of_unheard time (by simpa [State.hears] using hp)
  case meter =>
    exact occurAtPedestal_of_unheard (f := fun p s => s.receiveReport time (.meter p w.toNat)) h
      fun p hp => receiveReport_of_unheard time (by simpa [State.hears] using hp)
  case restarted =>
    exact occurAtPedestal_of_unheard (f := fun p s => s.receiveReport time (.restarted p b)) h
      fun p hp => receiveReport_of_unheard time (by simpa [State.hears] using hp)
  case answer =>
    refine occurAtPedestal_of_unheard (f := fun p s =>
      if d.length ≤ 6 then s.receiveReport time (.answer p e.toNat c d) else none) h fun p hp => ?_
    split
    · exact receiveReport_of_unheard time (by simpa [State.hears] using hp)
    · rfl
  case contact =>
    exact occurAtModule_of_unheard (f := fun m s => s.receiveReport time (.moduleState m c)) h
      fun m hm => receiveReport_of_unheard time (by simpa [State.hears] using hm)
  case fault =>
    exact occurAtModule_of_unheard (f := fun m s => s.receiveReport time (.moduleFault m c)) h
      fun m hm => receiveReport_of_unheard time (by simpa [State.hears] using hm)
  case volts =>
    exact occur_of_none (f := fun s => s.receiveReport time (.volts reading.toNat)) (receiveReport_of_unheard time (by simp [hcan]))
  case frame =>
    unfold frameReport
    split
    · rfl
    next hplain =>
      simp only [Bool.or_eq_true, not_or, Bool.not_eq_true] at hplain
      obtain ⟨hextended, hremote⟩ := hplain
      have hrest : 8 < f.data.length ∨ f.ident.toNat % 128 = 0 ∨ (16 < f.ident.toNat % 128 ∧ f.ident.toNat % 128 < 33) ∨
          (64 < f.ident.toNat % 128 ∧ f.ident.toNat % 128 ≠ 80) ∨
          (f.ident.toNat % 128 ≤ 16 ∧ (f.ident.toNat / 128 < 7 ∨ 12 < f.ident.toNat / 128)) := by
        simpa [hextended, hremote] using hf
      simp only []
      split
      next _ p hp =>
        have hnode := pedestalOf_eq_some hp
        exact pedestalReport_eq_none p (by omega)
      next m hp hm =>
        have hnode := moduleOf_eq_some hm
        exact moduleReport_eq_none m (by omega)
      next hp hm => exact if_neg (by omega)

end Sys2Proof.Machine
end

section
/-! # The safety lines and the cutoff (R30, R103, R124, R131, R134, R135)

A line's level is accepted by its latest samples, read bit by bit. The forced opening is a run over the modules, and the suspension that
follows it one over the pedestals: what each leaves is said of a part of the run, and kept by one visit more. -/

namespace Sys2Proof.Machine

/-! ### Samples (R131) -/

/-- A number whose low bits are all clear. -/
theorem mod_two_pow_eq_zero_iff (x n : Nat) : x % 2 ^ n = 0 ↔ ∀ i, i < n → x.testBit i = false := by
  constructor
  · intro h i hi
    have hbit := Nat.testBit_mod_two_pow x n i
    rw [h, Nat.zero_testBit] at hbit
    simpa [hi] using hbit.symm
  · intro h
    refine Nat.eq_of_testBit_eq fun i => ?_
    rw [Nat.testBit_mod_two_pow, Nat.zero_testBit]
    by_cases hi : i < n
    · simp [h i hi]
    · simp [hi]

/-- The most recent samples are all low. -/
theorem allLow_iff (x : BitVec 16) (n : Nat) : allLow x n = true ↔ ∀ i, i < n → x.getLsbD i = false := by
  rw [allLow, beq_iff_eq, mod_two_pow_eq_zero_iff]
  rfl

/-- The most recent samples are all high. -/
theorem allHigh_iff (x : BitVec 16) {n : Nat} (hn : n ≤ 16) : allHigh x n = true ↔ ∀ i, i < n → x.getLsbD i = true := by
  have hnot : allHigh x n = allLow (~~~x) n := rfl
  rw [hnot, allLow_iff]
  refine forall₂_congr fun i hi => ?_
  have h16 : i < 16 := by omega
  simp [h16]

section
variable {u : State} {line : SafetyLine} {n : Nat}

/-- Low samples that do not assert the line. -/
theorem sampleLow_of_not (h : (u.prot.filter line).asserted = true ∨ ¬ allLow (shiftLow (u.prot.filter line).samples n) u.params.filterLength = true) :
    u.sampleLow line n = u.setFilter line { u.prot.filter line with samples := shiftLow (u.prot.filter line).samples n } := by
  refine if_neg ?_
  rintro ⟨-, hclear, hlow⟩
  rcases h with h | h
  · simp [h] at hclear
  · exact h hlow

/-- Low samples that assert the line. -/
theorem sampleLow_of_asserts (hn : 1 ≤ n) (hclear : (u.prot.filter line).asserted = false)
    (hlow : allLow (shiftLow (u.prot.filter line).samples n) u.params.filterLength = true) :
    u.sampleLow line n = (u.setFilter line { samples := shiftLow (u.prot.filter line).samples n, asserted := true }).lineAsserted line :=
  if_pos ⟨hn, hclear, hlow⟩

/-- High samples that do not release the line. -/
theorem sampleHigh_of_not (h : (u.prot.filter line).asserted = false ∨ ¬ allHigh (shiftHigh (u.prot.filter line).samples n) u.params.filterLength = true) :
    u.sampleHigh line n = u.setFilter line { u.prot.filter line with samples := shiftHigh (u.prot.filter line).samples n } := by
  refine if_neg ?_
  rintro ⟨-, hset, hhigh⟩
  rcases h with h | h
  · simp [h] at hset
  · exact h hhigh

/-- High samples that release the line (R135). -/
theorem sampleHigh_of_releases (hn : 1 ≤ n) (hset : (u.prot.filter line).asserted = true)
    (hhigh : allHigh (shiftHigh (u.prot.filter line).samples n) u.params.filterLength = true) :
    u.sampleHigh line n = u.setFilter line { samples := shiftHigh (u.prot.filter line).samples n, asserted := false } :=
  if_pos ⟨hn, hset, hhigh⟩

variable (time : Nat) (hlive : u.Live) (hn : 1 ≤ n)
include hlive hn

theorem exec_lineAssertionAccepted :
    exec (.lineAssertionAccepted time line n) u = .next ((u.advance time).sampleLow line n).startTransmit := by
  have hne : ¬ n = 0 := by omega
  exact occur_of_some (f := fun s => if n = 0 then none else some ((s.advance time).sampleLow line n)) hlive (if_neg hne)

theorem exec_lineReleaseAccepted :
    exec (.lineReleaseAccepted time line n) u = .next ((u.advance time).sampleHigh line n).startTransmit := by
  have hne : ¬ n = 0 := by omega
  exact occur_of_some (f := fun s => if n = 0 then none else some ((s.advance time).sampleHigh line n)) hlive (if_neg hne)

end

/-! ### An accepted assertion (R134) -/

section
variable {u : State} {line : SafetyLine}

/-- The latch set with the line among its sources. -/
def State.sourced (u : State) (line : SafetyLine) : State :=
  { u with prot := { u.prot with latch := true, sources := u.prot.sources.add line } }

/-- An assertion that finds the latch set. -/
theorem lineAsserted_of_latched (h : u.prot.latch = true) :
    u.lineAsserted line = (u.sourced line).raisePark fun d => d.addSource line := by
  simp only [State.lineAsserted, h, if_true]
  rfl

/-- An assertion that sets the latch. -/
theorem lineAsserted_of_clear (h : u.prot.latch = false) :
    u.lineAsserted line = (u.sourced line).considerReduction.forceAll.addCutoff.raisePark fun d => d.addSource line := by
  simp only [State.lineAsserted, h, Bool.false_eq_true, if_false]
  rfl

/-- With the latch set the computed park power is 0. -/
theorem computedPower_sourced : (u.sourced line).computedPower = 0 := computedPower_of_off (Or.inr rfl)

/-- The reduction pass of a cutoff. -/
theorem considerReduction_sourced :
    (u.sourced line).considerReduction =
      if 0 < u.alloc.pAv then ((u.sourced line).setPower 0).reductionPass else u.sourced line := by
  rw [State.considerReduction, computedPower_sourced]
  rfl

end

/-- Settles O54: by the samples, the line's accepted level and the latch. -/
theorem linesAreFilteredAndSetTheLatch : Obligations.LinesAreFilteredAndSetTheLatch := by
  intro s time line n hlive hn u f lows highs allLow allHigh sourced parked asserted hlength
  have hlow : Machine.allLow (shiftLow (u.prot.filter line).samples n) u.params.filterLength = true ↔ allLow := allLow_iff _ _
  have hhigh : Machine.allHigh (shiftHigh (u.prot.filter line).samples n) u.params.filterLength = true ↔ allHigh := allHigh_iff _ hlength
  have hsourced (v : State) : v.sourced line = sourced v := by cases line <;> rfl
  have hparked (v : State) : (v.raisePark fun d => d.addSource line) = parked v := by cases line <;> rfl
  rw [exec_lineAssertionAccepted time hlive hn, exec_lineReleaseAccepted time hlive hn]
  refine ⟨fun h => ?notAsserted, fun hclear hall => ⟨fun hlatch => ?latched, fun hlatch => ?cut⟩, fun h => ?notReleased,
    fun hset hall => ?released⟩
  case notAsserted => rw [sampleLow_of_not (u := u) (by rw [hlow]; exact h)]; rfl
  case notReleased => rw [sampleHigh_of_not (u := u) (by rw [hhigh]; exact h)]; rfl
  case released => rw [sampleHigh_of_releases (u := u) hn hset (hhigh.2 hall)]; rfl
  case latched =>
    have hlatch' : (u.setFilter line { samples := lows, asserted := true }).prot.latch = true := by cases line <;> exact hlatch
    rw [sampleLow_of_asserts (u := u) hn hclear (hlow.2 hall), ← hparked]
    exact congrArg (fun t : State => Host.Outcome.next t.startTransmit)
      ((lineAsserted_of_latched hlatch').trans (congrArg (State.raisePark · _) (hsourced _)))
  case cut =>
    intro cut
    have hlatch' : (u.setFilter line { samples := lows, asserted := true }).prot.latch = false := by cases line <;> exact hlatch
    have hpower : (u.setFilter line { samples := lows, asserted := true }).alloc = s.alloc := by cases line <;> rfl
    have hcut : ((u.setFilter line { samples := lows, asserted := true }).sourced line).considerReduction = cut := by
      rw [considerReduction_sourced, hpower, hsourced]
    rw [sampleLow_of_asserts (u := u) hn hclear (hlow.2 hall), ← hparked]
    exact congrArg (fun t : State => Host.Outcome.next t.startTransmit)
      ((lineAsserted_of_clear hlatch').trans (congrArg (fun t : State => t.forceAll.addCutoff.raisePark fun d => d.addSource line) hcut))

end Sys2Proof.Machine
end

section
/-! # The cutoff's two runs: forced openings and suspensions (R30, R103, R124) -/

namespace Sys2Proof.Machine

/-! ### What a lowered setpoint leaves -/

section
variable (s : State) (p : Pedestal) (limit : Nat)

/-- A lowered setpoint is a rewriting of its allotment with its order. -/
theorem lowerSetpoint_eq :
    s.lowerSetpoint p limit =
      s.repowered (fun q => if q = p then { s.allot p with setpoint := min (s.allot p).setpoint limit } else s.allot q) s.module
        (s.setpointOrders p (min (s.allot p).setpoint limit)) :=
  orderSetpoint_eq_repowered s p _

/-- The lowered setpoint's allotment. -/
theorem allot_lowerSetpoint (q : Pedestal) :
    (s.lowerSetpoint p limit).allot q =
      if q = p then { s.allot p with setpoint := min (s.allot p).setpoint limit } else s.allot q := by
  rw [lowerSetpoint_eq, allot_repowered]

/-- The order of a lowered setpoint. -/
theorem unsentAt_lowerSetpoint (pl : Place) :
    (s.lowerSetpoint p limit).unsentAt pl =
      if pl = .setpoint p ∧ limit < (s.allot p).setpoint then some (.setpoint p limit) else s.unsentAt pl := by
  by_cases h : limit < (s.allot p).setpoint
  · rw [lowerSetpoint_of_gt s p h]
    refine (unsentAt_replaceOrEnqueue _ _ _).trans ?_
    by_cases hpl : pl = .setpoint p
    · subst hpl; simp [h, Order.place]
    · simp only [hpl, false_and, if_false]
      exact if_neg fun hplace => hpl hplace.symm
  · rw [lowerSetpoint_of_le s p (Nat.not_lt.1 h)]
    simp [h]

end

/-! ### The forced opening (R124) -/

/-- A switching module's record after its forced opening (R124). -/
def State.forcedRecord (s : State) (m : ModuleNo) : ModuleRecord :=
  { s.module m with
    state := .contactOpen, timer := .running (s.now + s.params.contactMs), releaseOnClose := false, forced := true }

/-- The module opened by force, before any setpoint is lowered. -/
def State.forced (s : State) (m : ModuleNo) : State :=
  s.reworked (fun k => if k = m then s.forcedRecord m else s.module k) [.openContact m]

section
variable {s : State} {m : ModuleNo}

/-- A module that does not switch is left alone. -/
theorem forceModule_of_idle (h : (s.module m).state.switching = false) : s.forceModule m = s := by
  unfold State.forceModule
  cases hstate : (s.module m).state <;> simp_all [ModuleState.switching]

/-- The opening with its mark. -/
theorem openContactor_forced :
    (s.openContactor m).setModule m { (s.openContactor m).module m with forced := true } = s.forced m := by
  rw [openContactor_eq, setModule_eq_reworked, reworked_reworked]
  simp only [module_reworked, if_true, State.forced, State.forcedRecord, List.append_nil]
  congr 1
  funext k
  split <;> rfl

/-- An ASSIGNED module is opened and its pedestal's setpoint lowered to what is left (R103). -/
theorem forceModule_of_assigned (h : (s.module m).state = .assigned) :
    s.forceModule m = (s.forced m).lowerToAssigned (s.module m).assigned := by
  simp only [State.forceModule, h]
  rw [openContactor_forced]

/-- Any other switching module is opened. -/
theorem forceModule_of_switching (h : (s.module m).state.switching = true) (hne : (s.module m).state ≠ .assigned) :
    s.forceModule m = s.forced m := by
  cases hstate : (s.module m).state <;> simp_all [ModuleState.switching, State.forceModule, openContactor_forced]

/-- A module serves a pedestal in ASSIGNED. -/
theorem serves_assigned_iff (r : ModuleRecord) (p : Pedestal) :
    r.serves p .assigned = true ↔ r.assigned = some p ∧ r.state = .assigned := by
  simp [ModuleRecord.serves]

/-- The modules assigned to a pedestal do not depend on one that does not serve it. -/
theorem assignedCount_eq_of_serves {t : State} {p : Pedestal}
    (h : ∀ k, (t.module k).serves p .assigned = (s.module k).serves p .assigned) : t.assignedCount p = s.assignedCount p :=
  congrArg List.length (List.filter_congr fun k _ => h k)

end

/-- What the forced openings of some modules, one after another, have done. -/
structure Forced (s t : State) (l : List ModuleNo) : Prop where
  rest : ∃ a g os, t = s.repowered a g os
  opened : ∀ m ∈ l, (s.module m).state.switching = true →
    t.module m = s.forcedRecord m ∧ t.unsentAt (.module m) = some (.openContact m)
  kept : ∀ m, m ∉ l ∨ (s.module m).state.switching = false →
    t.module m = s.module m ∧ t.unsentAt (.module m) = s.unsentAt (.module m)
  allot : ∀ p, t.allot p = { s.allot p with setpoint := (t.allot p).setpoint }
  low : ∀ p, (t.allot p).setpoint ≤ (s.allot p).setpoint
  untouched : ∀ p, (∀ m ∈ l, (s.module m).serves p .assigned = false) → (t.allot p).setpoint = (s.allot p).setpoint
  lowered : ∀ p, ∀ m ∈ l, (s.module m).serves p .assigned = true →
    (t.allot p).setpoint ≤ t.assignedCount p * s.control.record.rating
  ordered : ∀ p, t.unsentAt (.setpoint p) =
    if (t.allot p).setpoint = (s.allot p).setpoint then s.unsentAt (.setpoint p) else some (.setpoint p (t.allot p).setpoint)
  others : ∀ p, t.unsentAt (.other p) = s.unsentAt (.other p)

/-- The pedestal that loses an ASSIGNED module with a module. -/
def ModuleRecord.loses (r : ModuleRecord) : Option Pedestal := if r.state = .assigned then r.assigned else none

/-- A pedestal loses an ASSIGNED module exactly where the module serves it. -/
theorem loses_eq_some_iff (r : ModuleRecord) (p : Pedestal) : r.loses = some p ↔ r.serves p .assigned = true := by
  rw [serves_assigned_iff]
  by_cases h : r.state = .assigned <;> simp [ModuleRecord.loses, h]

section
variable {t : State} {m : ModuleNo}

/-- The forced opening of a switching module: the opening, and the setpoint of the pedestal that loses it. -/
theorem forceModule_eq (h : (t.module m).state.switching = true) :
    t.forceModule m = (t.forced m).lowerToAssigned (t.module m).loses := by
  by_cases hstate : (t.module m).state = .assigned
  · rw [forceModule_of_assigned hstate, ModuleRecord.loses, if_pos hstate]
  · rw [forceModule_of_switching h hstate, ModuleRecord.loses, if_neg hstate]
    rfl

variable (s : State) (o : Option Pedestal)

/-- A setpoint lowered for a lost module rewrites the allotments. -/
theorem lowerToAssigned_eq : ∃ a os, s.lowerToAssigned o = s.repowered a s.module os := by
  cases o with
  | none => exact ⟨s.allot, [], (repowered_self s).symm⟩
  | some p => exact ⟨_, _, lowerSetpoint_eq s p _⟩

/-- The pool does not change. -/
theorem module_lowerToAssigned (k : ModuleNo) : (s.lowerToAssigned o).module k = s.module k := by
  obtain ⟨a, os, h⟩ := lowerToAssigned_eq s o
  rw [h, module_repowered]

/-- The pedestal that has lost a module. -/
theorem allot_lowerToAssigned (p : Pedestal) :
    (s.lowerToAssigned o).allot p =
      if o = some p then
        { s.allot p with setpoint := min (s.allot p).setpoint (s.assignedCount p * s.control.record.rating) }
      else s.allot p := by
  cases o with
  | none => rfl
  | some q =>
    refine (allot_lowerSetpoint s q _ p).trans ?_
    by_cases h : p = q
    · subst h; simp [State.modulePower]
    · simp [h, Ne.symm h]

/-- The order of a lowered setpoint. -/
theorem unsentAt_setpoint_lowerToAssigned (p : Pedestal) :
    (s.lowerToAssigned o).unsentAt (.setpoint p) =
      if ((s.lowerToAssigned o).allot p).setpoint = (s.allot p).setpoint then s.unsentAt (.setpoint p)
      else some (.setpoint p ((s.lowerToAssigned o).allot p).setpoint) := by
  rw [allot_lowerToAssigned]
  cases o with
  | none => simp [State.lowerToAssigned]
  | some q =>
    refine (unsentAt_lowerSetpoint s q _ _).trans ?_
    by_cases h : p = q
    · subst h
      simp only [State.modulePower, true_and, if_true]
      by_cases hlt : s.assignedCount p * s.control.record.rating < (s.allot p).setpoint
      · have hmin : min (s.allot p).setpoint (s.assignedCount p * s.control.record.rating) = s.assignedCount p * s.control.record.rating :=
          Nat.min_eq_right (Nat.le_of_lt hlt)
        rw [if_pos hlt, hmin, if_neg (Nat.ne_of_lt hlt)]
      · rw [if_neg hlt, if_pos (Nat.min_eq_left (Nat.not_lt.1 hlt))]
    · have hplace : (Place.setpoint p = .setpoint q) = False := by simp [h]
      simp [hplace, Ne.symm h]

/-- The other places are as before. -/
theorem unsentAt_other_lowerToAssigned {pl : Place} (h : ∀ p, pl ≠ .setpoint p) : (s.lowerToAssigned o).unsentAt pl = s.unsentAt pl := by
  cases o with
  | none => rfl
  | some q =>
    refine (unsentAt_lowerSetpoint s q _ pl).trans (if_neg ?_)
    exact fun hpl => h q hpl.1

end

/-! ### One forced opening more -/

section
variable {t : State} {m : ModuleNo}

/-- The opening writes one record and places one order. -/
theorem forced_eq : t.forced m = t.repowered t.allot (fun k => if k = m then t.forcedRecord m else t.module k) [.openContact m] :=
  reworked_eq_repowered t _ _

theorem module_forced (k : ModuleNo) : (t.forced m).module k = if k = m then t.forcedRecord m else t.module k := module_reworked t _ _ k

theorem unsentAt_forced (pl : Place) :
    (t.forced m).unsentAt pl = if pl = .module m then some (.openContact m) else t.unsentAt pl := by
  refine (find_placed t.field.queue (.openContact m) pl).trans ?_
  change (if Place.module m = pl then some (Order.openContact m) else t.unsentAt pl) = _
  by_cases h : pl = .module m
  · subst h; simp
  · rw [if_neg (Ne.symm h), if_neg h]

theorem allot_forced (p : Pedestal) : (t.forced m).allot p = t.allot p := by simp [State.forced]

end

section
variable {s t : State} {l : List ModuleNo}

/-- Nothing has been forced yet. -/
theorem Forced.nil (s : State) : Forced s s [] where
  rest := ⟨_, _, _, (repowered_self s).symm⟩
  opened := fun m hm => absurd hm (by simp)
  kept := fun _ _ => ⟨rfl, rfl⟩
  allot := fun _ => rfl
  low := fun _ => Nat.le_refl _
  untouched := fun _ _ => rfl
  lowered := fun _ m hm => absurd hm (by simp)
  ordered := fun _ => by simp
  others := fun _ => rfl

/-- What the runs read stands still. -/
theorem Forced.frame (h : Forced s t l) : t.now = s.now ∧ t.params = s.params ∧ t.control = s.control := by
  obtain ⟨a, g, os, rfl⟩ := h.rest
  exact ⟨rfl, rfl, rfl⟩

/-- A module that does not switch any more leaves all as it is. -/
theorem Forced.step_idle (h : Forced s t l) {m : ModuleNo} (hidle : (t.module m).state.switching = false) : Forced s t (l ++ [m]) := by
  have hm : m ∈ l ∨ (s.module m).state.switching = false := by
    by_cases hl : m ∈ l
    · exact Or.inl hl
    · exact Or.inr (by rw [← (h.kept m (Or.inl hl)).1]; exact hidle)
  refine ⟨h.rest, fun k hk hswitch => ?_, fun k hk => ?_, h.allot, h.low, fun p hp => h.untouched p fun k hk => hp k (by simp [hk]),
    fun p k hk hserves => ?_, h.ordered, h.others⟩
  · rcases List.mem_append.1 hk with hk | hk
    · exact h.opened k hk hswitch
    · obtain rfl := List.mem_singleton.1 hk
      exact h.opened k (hm.resolve_right (by simp [hswitch])) hswitch
  · refine h.kept k (hk.imp_left fun hk hl => hk (by simp [hl]))
  · rcases List.mem_append.1 hk with hk | hk
    · exact h.lowered p k hk hserves
    · obtain rfl := List.mem_singleton.1 hk
      have hassigned := ((serves_assigned_iff _ _).1 hserves).2
      exact h.lowered p k (hm.resolve_right (by simp [hassigned, ModuleState.switching])) hserves

/-- A switching module is opened. -/
theorem Forced.step_switching (h : Forced s t l) {m : ModuleNo} (hswitch : (t.module m).state.switching = true) :
    Forced s (t.forceModule m) (l ++ [m]) := by
  obtain ⟨hnow, hparams, hcontrol⟩ := h.frame
  have hl : m ∉ l := fun hl => by
    have hidle : (s.module m).state.switching = false := by
      refine Classical.byContradiction fun hs => ?_
      rw [(h.opened m hl (by simpa using hs)).1] at hswitch
      simp [State.forcedRecord, ModuleState.switching] at hswitch
    rw [(h.kept m (Or.inr hidle)).1, hidle] at hswitch
    simp at hswitch
  obtain ⟨hsame, hunsame⟩ := h.kept m (Or.inl hl)
  have hrecord : t.forcedRecord m = s.forcedRecord m := by simp only [State.forcedRecord, hsame, hnow, hparams]
  rw [forceModule_eq hswitch, hsame]
  have hmodule (k : ModuleNo) : ((t.forced m).lowerToAssigned (s.module m).loses).module k =
      if k = m then s.forcedRecord m else t.module k := by
    rw [module_lowerToAssigned, module_forced, hrecord]
  have hplaced (k : ModuleNo) : ((t.forced m).lowerToAssigned (s.module m).loses).unsentAt (.module k) =
      if k = m then some (.openContact m) else t.unsentAt (.module k) := by
    rw [unsentAt_other_lowerToAssigned _ _ (by simp), unsentAt_forced]
    simp
  have hcount (p : Pedestal) : ((t.forced m).lowerToAssigned (s.module m).loses).assignedCount p = (t.forced m).assignedCount p :=
    assignedCount_congr (module_lowerToAssigned _ _)
  have hallot (p : Pedestal) : ((t.forced m).lowerToAssigned (s.module m).loses).allot p =
      if (s.module m).loses = some p then
        { t.allot p with setpoint := min (t.allot p).setpoint ((t.forced m).assignedCount p * s.control.record.rating) }
      else t.allot p := by
    have hrating : (t.forced m).control = s.control := by rw [State.forced]; simpa using hcontrol
    rw [allot_lowerToAssigned, allot_forced, hrating]
  refine ⟨?rest, fun k hk hs => ?opened, fun k hk => ?kept, fun p => ?allot, fun p => ?low, fun p hp => ?untouched,
    fun p k hk hserves => ?lowered, fun p => ?ordered, fun p => ?others⟩
  case rest =>
    obtain ⟨a, g, os, ht⟩ := h.rest
    obtain ⟨a', os', hlowered⟩ := lowerToAssigned_eq (t.forced m) (s.module m).loses
    refine ⟨a', fun k => (t.forced m).module k, os ++ [.openContact m] ++ os', ?_⟩
    rw [hlowered]
    conv => lhs; rw [forced_eq, repowered_repowered, ht, repowered_repowered]
    rw [List.append_assoc]
    refine congrArg (fun g => s.repowered a' g _) (funext fun k => ?_)
    rw [← ht, ← forced_eq]
  case opened =>
    rw [hmodule, hplaced]
    by_cases hkm : k = m
    · subst hkm
      exact ⟨if_pos rfl, if_pos rfl⟩
    · rw [if_neg hkm, if_neg hkm]
      exact h.opened k ((List.mem_append.1 hk).resolve_right (by simpa using hkm)) hs
  case kept =>
    have hkm : k ≠ m := by
      rintro rfl
      rcases hk with hk | hk
      · exact hk (by simp)
      · rw [hsame, hk] at hswitch
        simp at hswitch
    rw [hmodule, hplaced, if_neg hkm, if_neg hkm]
    exact h.kept k (hk.imp_left fun hk hl => hk (by simp [hl]))
  case allot =>
    rw [hallot]
    split
    · rw [h.allot p]
    · exact h.allot p
  case low =>
    rw [hallot]
    split
    · exact Nat.le_trans (Nat.min_le_left _ _) (h.low p)
    · exact h.low p
  case untouched =>
    have hloses : ¬ (s.module m).loses = some p := by
      rw [loses_eq_some_iff, hp m (by simp)]
      simp
    rw [hallot, if_neg hloses]
    exact h.untouched p fun k hk => hp k (by simp [hk])
  case lowered =>
    rw [hcount, hallot]
    by_cases hloses : (s.module m).loses = some p
    · rw [if_pos hloses]
      exact Nat.min_le_right _ _
    · rw [if_neg hloses]
      have hkm : k ≠ m := by
        rintro rfl
        exact hloses ((loses_eq_some_iff _ _).2 hserves)
      have hsamecount : (t.forced m).assignedCount p = t.assignedCount p := by
        refine assignedCount_eq_of_serves fun j => ?_
        rw [module_forced]
        split
        next hj =>
          subst hj
          have hnot : (t.module j).serves p .assigned = false := by
            rw [hsame, Bool.eq_false_iff, ne_eq, ← loses_eq_some_iff]
            exact hloses
          rw [hnot]
          simp [ModuleRecord.serves, State.forcedRecord]
        next => rfl
      rw [hsamecount]
      exact h.lowered p k ((List.mem_append.1 hk).resolve_right (by simpa using hkm)) hserves
  case ordered =>
    have hunsent : (t.forced m).unsentAt (.setpoint p) = t.unsentAt (.setpoint p) := by rw [unsentAt_forced]; simp
    rw [unsentAt_setpoint_lowerToAssigned, hunsent, h.ordered p, allot_forced]
    have hle : (((t.forced m).lowerToAssigned (s.module m).loses).allot p).setpoint ≤ (t.allot p).setpoint := by
      rw [hallot]
      split
      · exact Nat.min_le_left _ _
      · exact Nat.le_refl _
    have hlow := h.low p
    generalize (((t.forced m).lowerToAssigned (s.module m).loses).allot p).setpoint = new at hle ⊢
    by_cases hnew : new = (t.allot p).setpoint
    · rw [if_pos hnew, hnew]
    · have hchanged : ¬ new = (s.allot p).setpoint := by omega
      rw [if_neg hnew, if_neg hchanged]
  case others =>
    rw [unsentAt_other_lowerToAssigned _ _ (by simp), unsentAt_forced, if_neg (by simp)]
    exact h.others p

/-- The forced openings of a list of modules. -/
theorem forced_foldl (s : State) (l : List ModuleNo) : Forced s (l.foldl State.forceModule s) l := by
  induction l using snoc_induction with
  | nil => exact Forced.nil s
  | append_singleton l m ih =>
    rw [List.foldl_append, List.foldl_cons, List.foldl_nil]
    cases hswitch : ((l.foldl State.forceModule s).module m).state.switching with
    | true => exact ih.step_switching hswitch
    | false =>
      rw [forceModule_of_idle hswitch]
      exact ih.step_idle hswitch

end

/-! ### All modules forced -/

section
variable (s : State)

/-- The forced opening of every module. -/
theorem forced_forceAll : Forced s s.forceAll allModules := forced_foldl s allModules

/-- No module serves a pedestal in ASSIGNED any more. -/
theorem assignedCount_forceAll (p : Pedestal) : s.forceAll.assignedCount p = 0 := by
  rw [State.assignedCount, List.length_eq_zero_iff, List.filter_eq_nil_iff]
  intro m _ hserves
  obtain ⟨-, hassigned⟩ := (serves_assigned_iff _ _).1 hserves
  cases hswitch : (s.module m).state.switching with
  | true =>
    rw [((forced_forceAll s).opened m (mem_allModules m) hswitch).1] at hassigned
    simp [State.forcedRecord] at hassigned
  | false =>
    rw [((forced_forceAll s).kept m (Or.inr hswitch)).1] at hassigned
    simp [hassigned, ModuleState.switching] at hswitch

/-- A pedestal has ASSIGNED modules exactly where one serves it. -/
theorem assignedCount_pos_iff (p : Pedestal) : 0 < s.assignedCount p ↔ ∃ m, (s.module m).serves p .assigned = true := by
  rw [State.assignedCount, List.length_pos_iff_exists_mem]
  simp

/-- The setpoint of a pedestal once every module has been forced open. -/
theorem setpoint_forceAll (p : Pedestal) :
    (s.forceAll.allot p).setpoint = if 0 < s.assignedCount p then 0 else (s.allot p).setpoint := by
  split
  next hpos =>
    obtain ⟨m, hm⟩ := (assignedCount_pos_iff s p).1 hpos
    have hlow := (forced_forceAll s).lowered p m (mem_allModules m) hm
    rw [assignedCount_forceAll, Nat.zero_mul] at hlow
    exact Nat.le_zero.1 hlow
  next hzero =>
    refine (forced_forceAll s).untouched p fun m _ => ?_
    rw [Bool.eq_false_iff]
    exact fun hm => hzero ((assignedCount_pos_iff s p).2 ⟨m, hm⟩)

end

end Sys2Proof.Machine
end

section
/-! # The cutoff added to the sessions (R30, R100) -/

namespace Sys2Proof.Machine

/-! ### One session -/

/-- What the cutoff makes of a slot: a RUNNING session is suspended, a SUSPENDED one has the reason added (R25, R30). -/
def Slot.cutOff (x : Slot) (day minute : Nat) : Slot :=
  match x.state with
  | .running =>
    { x with state := .suspended, changed := true, session := x.session.map fun e => e.suspended .cutoff day minute }
  | .suspended => { x with session := x.session.map fun e => { e with reasons := e.reasons.add .cutoff } }
  | .vacant | .plugged | .starting | .finished | .waitUnplug => x

/-- The slot of a pedestal after the cutoff. -/
def State.cutSlot (s : State) (p : Pedestal) : Slot := (s.slot p).cutOff s.clock.day s.clock.minute

section
variable {s : State} {p : Pedestal}

/-- A RUNNING slot is suspended. -/
theorem cutSlot_of_running (h : (s.slot p).state = .running) :
    s.cutSlot p =
      { s.slot p with
        state := .suspended, changed := true
        session := (s.slot p).session.map fun e => e.suspended .cutoff s.clock.day s.clock.minute } := by
  simp [State.cutSlot, Slot.cutOff, h]

/-- A SUSPENDED slot has the reason added. -/
theorem cutSlot_of_suspended (h : (s.slot p).state = .suspended) :
    s.cutSlot p =
      { s.slot p with session := (s.slot p).session.map fun e => { e with reasons := e.reasons.add .cutoff } } := by
  simp [State.cutSlot, Slot.cutOff, h]

/-- A slot without a RUNNING or SUSPENDED session is as before. -/
theorem cutSlot_of_other (h : (s.slot p).state ≠ .running) (h' : (s.slot p).state ≠ .suspended) : s.cutSlot p = s.slot p := by
  unfold State.cutSlot Slot.cutOff
  split <;> simp_all

/-- A RUNNING slot is suspended, reported, and its power withdrawn. -/
theorem addCutoff_of_running (h : (s.slot p).state = .running) :
    s.addReason p .cutoff = ((s.setSlot p (s.cutSlot p)).raise .session).leaveRunning p := by
  rw [cutSlot_of_running h]
  cases hsession : (s.slot p).session with
  | some e => exact addReason_of_running .cutoff hsession h
  | none => simp [State.addReason, h, State.modifySession, hsession, goTo_eq, setSlot_raise]

/-- A slot in any other state has its reasons written alone. -/
theorem addCutoff_of_not_running (h : (s.slot p).state ≠ .running) : s.addReason p .cutoff = s.setSlot p (s.cutSlot p) := by
  by_cases hsuspended : (s.slot p).state = .suspended
  · rw [cutSlot_of_suspended hsuspended]
    simp [State.addReason, hsuspended, State.modifySession]
  · rw [addReason_of_other .cutoff h hsuspended, cutSlot_of_other h hsuspended, setSlot_slot]

end

/-! ### The sessions one after another -/

/-- What the cutoff added to the sessions of some pedestals, one after another, has done. -/
structure CutOff (s t : State) (l : List Pedestal) : Prop where
  clock : t.clock = s.clock
  cut : ∀ p ∈ l, t.slot p = s.cutSlot p
  kept : ∀ p, p ∉ l → t.slot p = s.slot p
  allot : ∀ p, t.allot p = if p ∈ l ∧ (s.slot p).state = .running then (s.allot p).withdrawn else s.allot p
  orders : ∀ p, t.unsentAt (.other p) = s.unsentAt (.other p) ∧
    ((s.slot p).state ≠ .running → t.unsentAt (.setpoint p) = s.unsentAt (.setpoint p))
  modules : ∀ m, (∀ p, (s.slot p).state = .running → (s.module m).heldFor p = false) →
    t.module m = s.module m ∧ t.unsentAt (.module m) = s.unsentAt (.module m)
  reported : (∃ p ∈ l, (s.slot p).state = .running) →
    t.host = s.emits (s.noticed .session) ∧ t.notices = (s.raise .session).notices
  silent : (∀ p ∈ l, (s.slot p).state ≠ .running) → t.host = s.host ∧ t.notices = s.notices

section
variable {s t : State} {p : Pedestal} {l : List Pedestal}

/-- Nothing has been cut off yet. -/
theorem CutOff.nil (s : State) : CutOff s s [] where
  clock := rfl
  cut := fun _ h => absurd h List.not_mem_nil
  kept := fun _ _ => rfl
  allot := fun _ => by simp
  orders := fun _ => ⟨rfl, fun _ => rfl⟩
  modules := fun _ _ => ⟨rfl, rfl⟩
  reported := fun h => absurd h (by simp)
  silent := fun _ => ⟨rfl, rfl⟩

/-- Another place than the pedestal's setpoint keeps its order where no module has it. -/
theorem unsentAt_leaveRunning_of_ne {pl : Place} (hmodule : ∀ m, pl ≠ .module m) (hsetpoint : pl ≠ .setpoint p) :
    (s.leaveRunning p).unsentAt pl = s.unsentAt pl := by
  rw [unsentAt_leaveRunning s p hmodule, State.zeroOrders]
  split
  · exact (find_placed _ _ _).trans (if_neg (Ne.symm hsetpoint))
  · rfl

/-- A session that does not run. -/
theorem CutOff.step_still (h : CutOff s t l) (hp : p ∉ l) (hstill : (s.slot p).state ≠ .running) :
    CutOff s (t.addReason p .cutoff) (l ++ [p]) := by
  have hslot := h.kept p hp
  have hcut : t.cutSlot p = s.cutSlot p := by rw [State.cutSlot, State.cutSlot, hslot, h.clock]
  rw [addCutoff_of_not_running (by rwa [hslot]), hcut]
  refine ⟨by simpa using h.clock, fun q hq => ?_, fun q hq => ?_, fun q => ?_, fun q => ?_, fun m hm => ?_, fun hrun => ?_, fun hquiet => ?_⟩
  · by_cases hqp : q = p
    · simp [hqp]
    · rw [slot_setSlot_ne _ _ hqp]
      exact h.cut q ((List.mem_append.1 hq).resolve_right (by simpa using hqp))
  · have hqp : q ≠ p := by rintro rfl; exact hq (by simp)
    rw [slot_setSlot_ne _ _ hqp]
    exact h.kept q fun hl => hq (by simp [hl])
  · have hiff : q ∈ l ++ [p] ∧ (s.slot q).state = .running ↔ q ∈ l ∧ (s.slot q).state = .running := by
      constructor
      · rintro ⟨hq, hrun⟩
        refine ⟨(List.mem_append.1 hq).resolve_right fun hqp => hstill ?_, hrun⟩
        rw [← List.mem_singleton.1 hqp]
        exact hrun
      · exact fun ⟨hq, hrun⟩ => ⟨List.mem_append_left _ hq, hrun⟩
    simp only [hiff]
    exact h.allot q
  · exact h.orders q
  · exact h.modules m hm
  · obtain ⟨q, hq, hrun⟩ := hrun
    refine h.reported ⟨q, (List.mem_append.1 hq).resolve_right fun hqp => hstill ?_, hrun⟩
    rw [← List.mem_singleton.1 hqp]
    exact hrun
  · exact h.silent fun q hq => hquiet q (by simp [hq])

/-- A RUNNING session. -/
theorem CutOff.step_running (h : CutOff s t l) (hp : p ∉ l) (hrun : (s.slot p).state = .running) :
    CutOff s (t.addReason p .cutoff) (l ++ [p]) := by
  have hslot := h.kept p hp
  have hcut : t.cutSlot p = s.cutSlot p := by rw [State.cutSlot, State.cutSlot, hslot, h.clock]
  have hnotices : (t.raise .session).host = s.emits (s.noticed .session) ∧ (t.raise .session).notices = (s.raise .session).notices := by
    by_cases hl : ∃ q ∈ l, (s.slot q).state = .running
    · have hsame : (t.raise .session).host = ((s.raise .session).raise .session).host ∧
          (t.raise .session).notices = ((s.raise .session).raise .session).notices :=
        signals_raise_congr .session (by rw [host_raise]; exact h.reported hl)
      rwa [raise_raise, host_raise s] at hsame
    · have hsame := signals_raise_congr .session (h.silent fun q hq hq' => hl ⟨q, hq, hq'⟩)
      rwa [host_raise s] at hsame
  rw [addCutoff_of_running (by rwa [hslot]), hcut]
  refine ⟨by simpa using h.clock, fun q hq => ?_, fun q hq => ?_, fun q => ?_, fun q => ⟨?_, fun hstill => ?_⟩, fun m hm => ?_,
    fun _ => ?_, fun hquiet => absurd hrun (hquiet p (by simp))⟩
  · by_cases hqp : q = p
    · simp [hqp]
    · have hql := (List.mem_append.1 hq).resolve_right (by simpa using hqp)
      simpa [hqp] using h.cut q hql
  · have hqp : q ≠ p := by rintro rfl; exact hq (by simp)
    simpa [hqp] using h.kept q fun hl => hq (by simp [hl])
  · by_cases hqp : q = p
    · subst hqp
      have hallot := h.allot q
      rw [if_neg fun hq => hp hq.1] at hallot
      simp [hrun, hallot]
    · have hallot := h.allot q
      simpa [hqp] using hallot
  · rw [unsentAt_leaveRunning_of_ne (by simp) (by simp)]
    simpa [State.unsentAt] using (h.orders q).1
  · have hqp : q ≠ p := by rintro rfl; exact hstill hrun
    rw [unsentAt_leaveRunning_of_ne (by simp) (by simpa using hqp)]
    simpa [State.unsentAt] using (h.orders q).2 hstill
  · obtain ⟨hmodule, hunsent⟩ := h.modules m hm
    have hheld : (t.module m).heldFor p ≠ true := by
      rw [hmodule, hm p hrun]
      simp
    rw [module_leaveRunning, unsentAt_module_leaveRunning]
    have hunsent' : ((t.setSlot p (s.cutSlot p)).raise .session).unsentAt (.module m) = t.unsentAt (.module m) := by simp [State.unsentAt]
    have hmodule' : ((t.setSlot p (s.cutSlot p)).raise .session).module m = t.module m := by simp
    rw [hmodule', hunsent', if_neg hheld, if_neg hheld]
    exact ⟨hmodule, hunsent⟩
  · obtain ⟨hhost, hsame⟩ := signals_setSlot_raise t p (s.cutSlot p)
    simp only [leaveRunning_frame]
    rw [hhost, hsame, ← host_raise]
    exact hnotices

/-- The cutoff added to the sessions of a list of pedestals. -/
theorem cutOff_foldl (s : State) (l : List Pedestal) (hl : l.Nodup) : CutOff s (l.foldl (fun s p => s.addReason p .cutoff) s) l := by
  induction l using snoc_induction with
  | nil => exact CutOff.nil s
  | append_singleton l p ih =>
    rw [List.foldl_append, List.foldl_cons, List.foldl_nil]
    obtain ⟨hnodup, -, hdisjoint⟩ := List.nodup_append.1 hl
    have hp : p ∉ l := fun hmem => hdisjoint p hmem p (by simp) rfl
    by_cases hrun : (s.slot p).state = .running
    · exact (ih hnodup).step_running hp hrun
    · exact (ih hnodup).step_still hp hrun

end

/-! ### All sessions -/

/-- The cutoff added to the session of every pedestal. -/
theorem cutOff_addCutoff (s : State) : CutOff s s.addCutoff allPedestals := cutOff_foldl s allPedestals allPedestals_nodup

/-- The tables, the queue, the notices and the output alone change. -/
theorem addCutoff_eq (s : State) :
    s.addCutoff =
      { s with
        slots := s.addCutoff.slots, alloc := { s.alloc with entries := s.addCutoff.alloc.entries }, modules := s.addCutoff.modules
        field := { s.field with queue := s.addCutoff.field.queue }, notices := s.addCutoff.notices, host := s.addCutoff.host } := by
  have h := addCutoff_frame s
  generalize s.addCutoff = t at h ⊢
  obtain ⟨pending, now, slots, next, exhausted, tariffs, settlements, ⟨pAv, budget, gridCap, staged, pointer, timer, entries⟩, modules, prot,
    ⟨can, queue, buffer, links, tx⟩, host, notices, clock, control⟩ := t
  simp_all

/-- Settles O55: the forced openings and the suspensions, each as a run over its list. -/
theorem cutoffOpensModulesAndSuspendsSessions : Obligations.CutoffOpensModulesAndSuspendsSessions := by
  refine ⟨?_, ?_⟩
  · intro s t
    have h : Forced s t allModules := forced_forceAll s
    refine ⟨fun m hm => h.opened m (mem_allModules m) hm, fun m hm => h.kept m (Or.inr hm), fun p => ?_,
      fun p => ⟨fun hpos hset => ?_, fun hzero => ?_, h.others p⟩, ?_⟩
    · rw [h.allot p, ← setpoint_forceAll]
    · have hsetpoint : (t.allot p).setpoint = 0 := by rw [setpoint_forceAll, if_pos hpos]
      rw [h.ordered p, hsetpoint, if_neg (Nat.ne_of_lt hset)]
    · have hsame : (t.allot p).setpoint = (s.allot p).setpoint := by
        rw [setpoint_forceAll]
        rcases hzero with hzero | hzero
        · rw [if_neg (by omega)]
        · rw [hzero, ite_self]
      rw [h.ordered p, if_pos hsame]
    · obtain ⟨a, g, os, ht⟩ := h.rest
      rw [ht]
      rfl
  · intro s
    have h := cutOff_addCutoff s
    have heq := addCutoff_eq s
    generalize s.addCutoff = t at h heq
    intro _
    refine ⟨fun p hrun hsusp => ?_, fun p e he hsusp => ?_, fun p e he hrun => ?_, fun p => ?_, h.orders, h.modules, fun hrun => ?_,
      fun hquiet => ?_, heq⟩
    · rw [h.cut p (mem_allPedestals p), cutSlot_of_other hrun hsusp]
    · have he' : (s.slot p).session = some e := he
      rw [h.cut p (mem_allPedestals p), cutSlot_of_suspended hsusp, he']
      rfl
    · have he' : (s.slot p).session = some e := he
      have hslot := (h.cut p (mem_allPedestals p)).trans (cutSlot_of_running hrun)
      rw [he'] at hslot
      refine ⟨by rw [hslot], e.suspended .cutoff s.clock.day s.clock.minute, congrArg Slot.session hslot, ?_, ?_⟩ <;>
        rw [Session.suspended_eq] <;> rfl
    · rw [h.allot p]
      simp only [mem_allPedestals, true_and]
      rfl
    · obtain ⟨p, hp⟩ := hrun
      exact (h.reported ⟨p, mem_allPedestals p, hp⟩).symm
    · exact (h.silent fun p _ => hquiet p).symm

end Sys2Proof.Machine
end

section
/-! # The park minute (R66, R67, R180) -/

namespace Sys2Proof.Machine

section
variable {s : State} {p : Pedestal} {e : Session}

/-- A RUNNING session with power has a charging minute (R66). -/
theorem chargeSession_of_running (he : s.Holds p e) (hrun : (s.slot p).state = .running) (hpower : 0 < (s.allot p).setpoint) :
    s.chargeSession p = (s.withAccrual p e (e.accrual.chargeMinute (s.tariff e.tariff).contents.timePrice)).compareHold p := by
  have he' : (s.slot p).session = some e := he
  simp only [State.chargeSession, he', hrun, if_pos hpower, modifyAccrual_eq he]

/-- A RUNNING session without power has none. -/
theorem chargeSession_of_unpowered (hrun : (s.slot p).state = .running) (hzero : (s.allot p).setpoint = 0) : s.chargeSession p = s := by
  unfold State.chargeSession
  split
  · rfl
  · simp [hrun, hzero]

/-- Nor has a session in STARTING or SUSPENDED. -/
theorem chargeSession_of_idle (hidle : (s.slot p).state = .starting ∨ (s.slot p).state = .suspended) : s.chargeSession p = s := by
  unfold State.chargeSession
  split
  · rfl
  · rcases hidle with h | h <;> simp [h]

/-- Nor has a FINISHED one while its link is down. -/
theorem chargeSession_of_down (hfin : (s.slot p).state = .finished) (hdown : (s.link p).state ≠ .up) : s.chargeSession p = s := by
  unfold State.chargeSession
  split
  · rfl
  · simp [hfin, hdown]

/-- A FINISHED session uses its grace first (R67). -/
theorem chargeSession_of_grace (he : s.Holds p e) (hfin : (s.slot p).state = .finished) (hup : (s.link p).state = .up)
    (hgrace : 0 < e.accrual.grace) : s.chargeSession p = s.withAccrual p e { e.accrual with grace := e.accrual.grace - 1 } := by
  have he' : (s.slot p).session = some e := he
  simp [State.chargeSession, he', hfin, hup, hgrace, modifyAccrual_eq he]

/-- Behind the grace and a hold that has been reached it is charged nothing. -/
theorem chargeSession_of_reached (he : s.Holds p e) (hfin : (s.slot p).state = .finished) (hup : (s.link p).state = .up)
    (hgrace : e.accrual.grace = 0) (hreached : e.accrual.holdReached = true) : s.chargeSession p = s := by
  have he' : (s.slot p).session = some e := he
  simp [State.chargeSession, he', hfin, hup, hgrace, hreached]

/-- Behind the grace it has an idle minute (R67). -/
theorem chargeSession_of_finished (he : s.Holds p e) (hfin : (s.slot p).state = .finished) (hup : (s.link p).state = .up)
    (hgrace : e.accrual.grace = 0) (hopen : e.accrual.holdReached = false) :
    s.chargeSession p = (s.withAccrual p e (e.accrual.chargeIdle (s.tariff e.tariff).contents.idlePrice)).compareHold p := by
  have he' : (s.slot p).session = some e := he
  simp [State.chargeSession, he', hfin, hup, hgrace, hopen, modifyAccrual_eq he]

end

/-- The minute and the day that follow (R180). -/
theorem nextMinute_eq (c : ParkClock) :
    c.nextMinute =
      { c with
        day := if c.minute < 1439 then c.day else (c.day + 1) % 65536
        minute := if c.minute < 1439 then c.minute + 1 else 0 } := by
  have hlast : c.minute + 1 < Config.minutesPerDay ↔ c.minute < 1439 := by
    rw [Config.minutesPerDay]
    omega
  simp only [ParkClock.nextMinute, hlast]
  split <;> rfl

/-- The park once the minute has advanced and, with the time valid, has been stamped (R180). -/
def State.atNextMinute (s : State) : State :=
  let c := s.clock.nextMinute
  { s with
    now := max s.now (s.clock.zeroAt + 60000)
    clock :=
      { s.clock with
        day := c.day, minute := c.minute, zeroAt := s.clock.zeroAt + 60000
        stampedDay := if s.clock.valid then c.day else s.clock.stampedDay
        stampedMinute := if s.clock.valid then c.minute else s.clock.stampedMinute } }

/-- The minute charges the open sessions as they are listed before it. -/
theorem minutePasses_eq (s : State) : s.minutePasses = s.openBySession.foldl State.chargeSession s.atNextMinute := by
  have hclock : s.clock.nextMinute.valid = s.clock.valid ∧ s.clock.nextMinute.stampedDay = s.clock.stampedDay ∧
      s.clock.nextMinute.stampedMinute = s.clock.stampedMinute := by simp [nextMinute_eq]
  obtain ⟨hvalid, hday, hminute⟩ := hclock
  have hlist : s.atNextMinute.openBySession = s.openBySession := rfl
  cases hv : s.clock.valid <;>
    simp [State.minutePasses, State.advance, hvalid, hv, State.stamp, ← hlist, State.atNextMinute, hday, hminute]

/-- A minute expiry. -/
theorem exec_minuteExpiry {s : State} (hlive : s.Live) : exec .minuteExpiry s = .next s.minutePasses.startTransmit :=
  occur_of_some (f := fun s => some s.minutePasses) hlive rfl

/-- Settles O58: the clock by its next minute, the charges by the list of open sessions and the slot's state. -/
theorem minuteExpiryChargesTheSessions : Obligations.MinuteExpiryChargesTheSessions := by
  refine ⟨?clock, ?order, ?charge⟩
  case clock =>
    intro s hlive now minute day v
    have hv : v = s.atNextMinute := by simp only [v, State.atNextMinute, nextMinute_eq]; rfl
    rw [exec_minuteExpiry hlive, minutePasses_eq, hv]
  case order =>
    refine fun s => ⟨fun p => ?_, openBySession_nodup s, ?_⟩
    · rw [mem_openBySession, Option.isSome_iff_ne_none]
    · rw [List.pairwise_map]
      exact openBySession_sorted s
  case charge =>
    intro s p e he a prices withAccrual
    exact ⟨fun hrun hpower => chargeSession_of_running he hrun hpower, chargeSession_of_unpowered, chargeSession_of_idle,
      chargeSession_of_down, fun hfin hup => ⟨chargeSession_of_grace he hfin hup, chargeSession_of_reached he hfin hup,
        chargeSession_of_finished he hfin hup⟩⟩

end Sys2Proof.Machine
end

section
/-! # Which restart the supplies and the reset line bring (R180, R182, R184) -/

namespace Sys2Proof.Machine

/-! ### The return of the main supply -/

/-- The part at the return of its main supply, the outage counted (R180, R182). -/
def State.powered (s : State) (outage : Nat) (backup : Bool) : State :=
  { s with
    now := s.now + outage
    clock := s.clock.afterOutage (s.now + outage)
    control := { s.control with mainPresent := true, backupPresent := backup, marker := s.control.marker && backup } }

section
variable {s : State} {outage : Nat} {straps : BitVec 2} {backup : Bool} {cut : Option Nat}

/-- No supply returns while it is present. -/
theorem exec_mainSupplyReturn_of_present (h : s.control.mainPresent = true) :
    exec (.mainSupplyReturn outage straps backup cut) s = .next s := if_pos h

/-- Without the marker or the backup supply the return is a cold start. -/
theorem exec_mainSupplyReturn_of_lost (h : s.control.mainPresent = false) (hlost : s.control.marker = false ∨ backup = false) :
    exec (.mainSupplyReturn outage straps backup cut) s = .next ((s.powered outage backup).coldStart straps cut) := by
  have hmarker : (s.control.marker && backup) = false := by rcases hlost with h | h <;> simp [h]
  refine (if_neg (by simp [h])).trans (congrArg Host.Outcome.next ?_)
  exact if_neg (by simp [hmarker])

/-- With both the return is a supply restart. -/
theorem exec_mainSupplyReturn_of_kept (h : s.control.mainPresent = false) (hmarker : s.control.marker = true) :
    exec (.mainSupplyReturn outage straps true cut) s = .next ((s.powered outage true).restart .supply straps cut) := by
  refine (if_neg (by simp [h])).trans (congrArg Host.Outcome.next ?_)
  exact if_pos (by simp [hmarker])

/-- A loss of the main supply. -/
theorem exec_mainSupplyLoss_of_present (loss : SupplyLoss) (h : s.control.mainPresent = true) :
    exec (.mainSupplyLoss loss) s = .next ((s.advance loss.time).supplyLost loss.backup) := if_pos h

theorem exec_mainSupplyLoss_of_absent (loss : SupplyLoss) (h : s.control.mainPresent = false) :
    exec (.mainSupplyLoss loss) s = .next s := if_neg (by simp [h])

/-- A pulse on the reset line. -/
theorem exec_resetLinePulse_of_present (time : Nat) (h : s.control.mainPresent = true) :
    exec (.resetLinePulse time straps cut) s = .next ((s.advance time).restart .commanded straps cut) := if_pos h

theorem exec_resetLinePulse_of_absent (time : Nat) (h : s.control.mainPresent = false) :
    exec (.resetLinePulse time straps cut) s = .next s := if_neg (by simp [h])

end

/-! ### A cold start that runs to its end -/

/-- What a cold start leaves (R184). -/
theorem coldStart_eq (s : State) (straps : BitVec 2) :
    s.coldStart straps none =
      { State.reset with
        pending := s.pending
        now := s.now
        clock := { State.reset.clock with zeroAt := s.now }
        control :=
          { State.reset.control with
            straps := straps, mainPresent := s.control.mainPresent, backupPresent := s.control.backupPresent } } := rfl

/-- Settles O5: each event by the condition it is taken under. -/
theorem suppliesAndResetLineDecideTheRestart : Obligations.SuppliesAndResetLineDecideTheRestart := by
  refine ⟨fun s outage straps backup hmain hlost => ?_, fun s outage straps cut hmain hmarker => ?_,
    fun s outage straps backup cut hmain => exec_mainSupplyReturn_of_present hmain,
    fun s time straps cut => ⟨exec_resetLinePulse_of_present time, exec_resetLinePulse_of_absent time⟩,
    fun s time backup => ⟨fun hmain => ⟨_, exec_mainSupplyLoss_of_present _ hmain, ?_⟩, exec_mainSupplyLoss_of_absent _⟩,
    fun s => rfl⟩
  · rw [exec_mainSupplyReturn_of_lost hmain hlost, coldStart_eq]
    rfl
  · intro minutes counted
    rw [exec_mainSupplyReturn_of_kept hmain hmarker]
    simp only [State.powered, hmarker]
    rfl
  · simp [State.supplyLost, State.advance, State.link, Link.cold]

end Sys2Proof.Machine
end

section
/-! # The restart sequence (R22, R184) -/

namespace Sys2Proof.Machine

/-! ### The closes of a restart (R22) -/

/-- The record that a restart's close appends (R22, R76). -/
def State.restartRecord (s : State) (p : Pedestal) (e : Session) : Settlement :=
  closingRecord p (s.slot p).token (e.closed s.clock.stampedDay s.clock.stampedMinute) .restart s.clock.stampedDay s.clock.stampedMinute

/-- The record of a pedestal at a restart, where a session is open. -/
def State.restartRecordAt (s : State) (p : Pedestal) : Option Settlement := (s.slot p).session.map (s.restartRecord p)

/-- The pedestal's session names the tariff slot. -/
def State.billedOn (s : State) (n : TariffNo) (p : Pedestal) : Bool := ((s.slot p).session.map Session.tariff) == some n

/-- What the closes of a restart have done at some pedestals. -/
structure RestartClosed (s t : State) (l : List Pedestal) : Prop where
  slot : ∀ p, t.slot p = if p ∈ l then (s.slot p).closed .restart else s.slot p
  settlements : t.settlements = s.settlements ++ l.filterMap s.restartRecordAt
  tariff : ∀ n, t.tariff n = { s.tariff n with references := (s.tariff n).references - (l.filter (s.billedOn n)).length }
  gridCap : t.alloc.gridCap = s.alloc.gridCap
  assigned : ∀ m, (t.module m).assigned = (s.module m).assigned
  links : t.field.links = s.field.links
  clock : t.clock = s.clock
  issued : t.nextSession = s.nextSession ∧ t.exhausted = s.exhausted
  control : t.control = s.control
  time : t.now = s.now ∧ t.pending = s.pending

section
variable {s t : State} {l : List Pedestal} {p : Pedestal} {e : Session}

/-- Nothing has been closed yet. -/
theorem RestartClosed.nil (s : State) : RestartClosed s s [] where
  slot := fun _ => by simp
  settlements := by simp
  tariff := fun _ => by simp
  gridCap := rfl
  assigned := fun _ => rfl
  links := rfl
  clock := rfl
  issued := ⟨rfl, rfl⟩
  control := rfl
  time := ⟨rfl, rfl⟩

/-- A release keeps the pedestal that the module names. -/
theorem assigned_leaveRunning (s : State) (p : Pedestal) (m : ModuleNo) :
    ((s.leaveRunning p).module m).assigned = (s.module m).assigned := by
  rw [module_leaveRunning]
  split
  · unfold State.releasedRecord
    split <;> rfl
  · rfl

/-- One close of a restart. -/
theorem restartClosed_closeSession (he : s.Holds p e) : RestartClosed s (s.closeSession p .restart) [p] := by
  have he' : (s.slot p).session = some e := he
  obtain ⟨hslots, hsettlements, htariffs, hclock, halloc, hmodules, hfield, -, -, hnext, hexhausted, -, hcontrol, hnow, hpending⟩ :=
    closeSettlesTheSession s p .restart e he
  refine ⟨fun q => ?_, ?_, fun n => ?_, by rw [halloc], fun m => ?_, by rw [hfield]; simp, ?_, ⟨hnext, hexhausted⟩, hcontrol, hnow, hpending⟩
  · by_cases hq : q = p
    · subst hq
      refine (slot_of_slots_set hslots).trans ?_
      simp [Slot.closed, PedestalMode.closed_eq]
    · have hval : p.val ≠ q.val := fun h => hq (Fin.ext h.symm)
      simp [State.slot, hslots, hval, hq]
  · simp only [List.filterMap_cons, List.filterMap_nil, State.restartRecordAt, he', Option.map_some]
    rw [State.restartRecord, closingRecord_closed]
    exact hsettlements
  · have hbilled : s.billedOn n p = decide (e.tariff = n) := by rw [Bool.eq_iff_iff]; simp [State.billedOn, he']
    by_cases hn : e.tariff = n
    · subst hn
      simp [State.tariff, htariffs, hbilled]
    · have hval : e.tariff.val ≠ n.val := fun h => hn (Fin.ext h)
      simp [State.tariff, htariffs, hbilled, hval, hn]
  · rw [State.module, hmodules]
    exact assigned_leaveRunning s p m
  · simpa using hclock

/-- One close more. -/
theorem RestartClosed.step (h : RestartClosed s t l) (hp : p ∉ l) (he : s.Holds p e) :
    RestartClosed s (t.closeSession p .restart) (l ++ [p]) := by
  have hslot : t.slot p = s.slot p := by rw [h.slot, if_neg hp]
  have he' : t.Holds p e := by rw [State.Holds, hslot]; exact he
  have hone := restartClosed_closeSession he'
  refine ⟨fun q => ?_, ?_, fun n => ?_, hone.gridCap.trans h.gridCap, fun m => (hone.assigned m).trans (h.assigned m),
    hone.links.trans h.links, hone.clock.trans h.clock,
    ⟨hone.issued.1.trans h.issued.1, hone.issued.2.trans h.issued.2⟩, hone.control.trans h.control,
    ⟨hone.time.1.trans h.time.1, hone.time.2.trans h.time.2⟩⟩
  · rw [hone.slot]
    by_cases hq : q = p
    · subst hq; simp [hslot]
    · simp [hq, h.slot]
  · have hrecord : t.restartRecordAt p = s.restartRecordAt p := by
      have hsame : t.restartRecord p = s.restartRecord p := by funext x; simp only [State.restartRecord, hslot, h.clock]
      rw [State.restartRecordAt, State.restartRecordAt, hslot, hsame]
    rw [hone.settlements, h.settlements, List.filterMap_append, List.append_assoc]
    simp only [List.filterMap_cons, hrecord, List.filterMap_nil]
  · have hbilled : t.billedOn n p = s.billedOn n p := by simp only [State.billedOn, hslot]
    rw [hone.tariff, h.tariff, List.filter_append, List.length_append, Nat.sub_add_eq]
    simp [hbilled, List.filter_cons]

/-- The closes of some pedestals' sessions. -/
theorem restartClosed_foldl (s : State) (l : List Pedestal) (hl : l.Nodup) (hopen : ∀ p ∈ l, (s.slot p).session.isSome = true) :
    RestartClosed s (l.foldl (fun s p => s.closeSession p .restart) s) l := by
  induction l using snoc_induction with
  | nil => exact RestartClosed.nil s
  | append_singleton l p ih =>
    rw [List.foldl_append, List.foldl_cons, List.foldl_nil]
    obtain ⟨hnodup, -, hdisjoint⟩ := List.nodup_append.1 hl
    obtain ⟨e, he⟩ := Option.isSome_iff_exists.1 (hopen p (by simp))
    exact (ih hnodup fun q hq => hopen q (by simp [hq])).step (fun hmem => hdisjoint p hmem p (by simp) rfl) he

end

/-! ### The steps behind the closes (R184) -/

/-- The orders that open the modules at a restart, in ascending number (R130). -/
def State.restartOpens (s : State) : List Order :=
  (allModules.filter fun m => decide ((s.restartedModule m).state = .contactOpen)).map .openContact

/-- The part behind the closes of a restart that runs to its end, before its first order is transmitted (R184). -/
def State.restarted (s : State) (kind : RestartKind) : State :=
  { s with
    slots := Vector.ofFn fun p => { Slot.cold with mode := (s.slot p).mode.closed }
    host := .cold
    field :=
      { FieldLink.cold with
        queue := s.restartOpens, links := Vector.ofFn fun p : Pedestal => { Link.cold with epoch := (s.link p).epoch + 1 } }
    modules := Vector.ofFn s.restartedModule
    alloc :=
      { Apportioner.cold with
        gridCap := s.alloc.gridCap, periodTimer := if s.control.commissioned then s.after s.params.periodMs else none }
    prot := .cold
    notices := restartedNotices kind (!s.settlements.isEmpty)
    control := { s.control with lastKind := kind, restarting := false } }

section
variable (s : State)

/-- An order for an empty place joins the queue. -/
theorem placed_of_free {q : List Order} {o : Order} (h : ∀ x ∈ q, x.place ≠ o.place) : placed q o = q ++ [o] := by
  have hnone : (q.find? fun x => x.place == o.place) = none := by
    rw [List.find?_eq_none]
    intro x hx
    simpa using h x hx
  rw [placed, hnone]

/-- The MD-OPEN orders of a restart follow one another. -/
theorem foldl_openAction (l : List ModuleNo) (hl : l.Nodup) (s : State) (hfree : ∀ m ∈ l, ∀ o ∈ s.field.queue, o.place ≠ .module m) :
    l.foldl openAction s =
      s.setQueue (s.field.queue ++ (l.filter fun m => decide ((s.module m).state = .contactOpen)).map .openContact) := by
  induction l generalizing s with
  | nil => simp [State.setQueue]
  | cons m l ih =>
    obtain ⟨hm, hl⟩ := List.nodup_cons.1 hl
    by_cases hopen : (s.module m).state = .contactOpen
    · have hstep : openAction s m = s.setQueue (s.field.queue ++ [.openContact m]) := by
        rw [openAction, if_pos hopen]
        exact (replaceOrEnqueue_eq s _).trans (congrArg s.setQueue (placed_of_free fun o ho => hfree m (by simp) o ho))
      rw [List.foldl_cons, hstep, ih hl]
      · simp [hopen, State.setQueue]
        rfl
      · intro k hk o ho
        rcases List.mem_append.1 ho with ho | ho
        · exact hfree k (by simp [hk]) o ho
        · rw [List.mem_singleton.1 ho]
          rintro hplace
          cases hplace
          exact hm hk
    · have hstep : openAction s m = s := if_neg hopen
      rw [List.foldl_cons, hstep, ih hl s fun k hk => hfree k (by simp [hk])]
      simp [hopen]

/-- The modules' step, from an empty queue. -/
theorem restartModules_eq (h : s.field.queue = []) :
    s.restartModules = ({ s with modules := Vector.ofFn s.restartedModule } : State).setQueue s.restartOpens := by
  rw [State.restartModules, foldl_openAction _ allModules_nodup _ (by simp [h])]
  simp [h, State.restartOpens, State.module]

/-- A module's restart is read off the pool, the record and running time. -/
theorem restartedModule_congr {t : State} (hmodules : t.modules = s.modules) (hcontrol : t.control = s.control) (hnow : t.now = s.now) :
    t.restartedModule = s.restartedModule := by
  funext m
  simp only [State.restartedModule, State.module, State.contactTimer, State.params, hmodules, hcontrol, hnow]

/-- So are the orders. -/
theorem restartOpens_congr {t : State} (hmodules : t.modules = s.modules) (hcontrol : t.control = s.control) (hnow : t.now = s.now) :
    t.restartOpens = s.restartOpens := by
  rw [State.restartOpens, restartedModule_congr s hmodules hcontrol hnow, State.restartOpens]

/-- The steps behind the closes. -/
theorem foldl_restartSteps (kind : RestartKind) : (restartSteps kind).foldl (fun s step => step s) s = (s.restarted kind).startTransmit := by
  have hmodules := restartModules_eq s.restartSlots.restartHost.restartField.restartLinks rfl
  have hsame : s.restartSlots.restartHost.restartField.restartLinks.modules = s.modules ∧
      s.restartSlots.restartHost.restartField.restartLinks.control = s.control ∧
      s.restartSlots.restartHost.restartField.restartLinks.now = s.now := by
    simp only [State.restartLinks, State.restartField, State.restartHost, State.restartSlots, and_self]
  obtain ⟨hpool, hcontrol, hnow⟩ := hsame
  rw [restartOpens_congr s hpool hcontrol hnow, restartedModule_congr s hpool hcontrol hnow] at hmodules
  simp only [restartSteps, List.foldl_cons, List.foldl_nil]
  rw [hmodules, State.endRestart, State.restarted]
  refine congrArg State.startTransmit ?_
  simp only [State.restartNotices, State.restartLatch, State.restartSag, State.restartApportioner, State.setQueue, State.restartLinks,
    State.restartField, State.restartHost, State.restartSlots]
  congr 1

/-- Transmission keeps the orders that wait and the one in the buffer, in their order. -/
theorem orders_startTransmit :
    s.startTransmit.field.buffer.toList ++ s.startTransmit.field.queue = s.field.buffer.toList ++ s.field.queue := by
  unfold State.startTransmit
  split
  next hcan hbuffer hqueue => simp [hbuffer, hqueue]
  next => rfl

end

end Sys2Proof.Machine
end

section
/-! # A restart that runs to its end (R22, R184) -/

namespace Sys2Proof.Machine

section
variable (s : State) (kind : RestartKind) (straps : BitVec 2)

/-- The part once the sessions have been closed by a restart. -/
def State.restartCloses : State := s.openBySession.foldl (fun s p => s.closeSession p .restart) (s.beginRestart straps)

/-- What the beginning of a sequence leaves. -/
theorem beginRestart_frame :
    (s.beginRestart straps).pending = s.pending ∧ (s.beginRestart straps).now = s.now ∧ (s.beginRestart straps).slots = s.slots ∧
    (s.beginRestart straps).nextSession = s.nextSession ∧ (s.beginRestart straps).exhausted = s.exhausted ∧
    (s.beginRestart straps).tariffs = s.tariffs ∧ (s.beginRestart straps).settlements = s.settlements ∧
    (s.beginRestart straps).alloc = s.alloc ∧ (s.beginRestart straps).modules = s.modules ∧ (s.beginRestart straps).prot = s.prot ∧
    (s.beginRestart straps).field = s.field ∧ (s.beginRestart straps).notices = s.notices ∧ (s.beginRestart straps).clock = s.clock ∧
    (s.beginRestart straps).control = { s.control with straps := straps, restarting := true } :=
  ⟨rfl, rfl, rfl, rfl, rfl, rfl, rfl, rfl, rfl, rfl, rfl, rfl, rfl, rfl⟩

/-- The closes, compared with the state before the restart. -/
theorem restartClosed_restartCloses : RestartClosed (s.beginRestart straps) (s.restartCloses straps) s.openBySession :=
  restartClosed_foldl _ _ (openBySession_nodup s) fun _ hp => (mem_openBySession s).1 hp

/-- A restart that runs to its end: the closes, the other steps and a transmission. -/
theorem restart_none : s.restart kind straps none = ((s.restartCloses straps).restarted kind).startTransmit := by
  have hlist : (s.beginRestart straps).openBySession = s.openBySession := rfl
  rw [State.restart, runSteps, hlist]
  refine (List.foldl_append ..).trans ?_
  rw [List.foldl_map, ← foldl_restartSteps]
  rfl

/-- What the other steps set, and what they keep, read off field by field. -/
theorem restarted_frame :
    (s.restarted kind).pending = s.pending ∧ (s.restarted kind).now = s.now ∧ (s.restarted kind).nextSession = s.nextSession ∧
    (s.restarted kind).exhausted = s.exhausted ∧ (s.restarted kind).settlements = s.settlements ∧
    (s.restarted kind).clock = s.clock ∧ (s.restarted kind).prot = .cold ∧ (s.restarted kind).host = .cold ∧
    (s.restarted kind).notices = restartedNotices kind (!s.settlements.isEmpty) ∧
    (s.restarted kind).control = { s.control with lastKind := kind, restarting := false } ∧
    (s.restarted kind).field.can = .onBus ∧ (s.restarted kind).field.buffer = none ∧
    (s.restarted kind).field.queue = s.restartOpens ∧
    (s.restarted kind).alloc =
      { Apportioner.cold with
        gridCap := s.alloc.gridCap, periodTimer := if s.control.commissioned then s.after s.params.periodMs else none } ∧
    (∀ n, (s.restarted kind).tariff n = s.tariff n) ∧ (∀ m, (s.restarted kind).module m = s.restartedModule m) ∧
    (∀ p, (s.restarted kind).slot p = { Slot.cold with mode := (s.slot p).mode.closed }) ∧
    ∀ p, (s.restarted kind).link p = { Link.cold with epoch := (s.link p).epoch + 1 } := by
  simp only [State.restarted, State.slot, State.link, State.module, State.tariff, Vector.getElem_ofFn, Fin.eta, FieldLink.cold,
    implies_true, and_self]

/-- The records of the closes are as many as the open sessions. -/
theorem length_filterMap_restartRecordAt : (s.openBySession.filterMap (s.beginRestart straps).restartRecordAt).length = s.openCount := by
  have hall : ∀ p ∈ s.openBySession, ((s.beginRestart straps).restartRecordAt p).isSome = true := fun p hp => by
    rw [State.restartRecordAt, Option.isSome_map]
    exact (mem_openBySession s).1 hp
  rw [List.length_filterMap_eq_countP, List.countP_eq_length.2 hall]
  exact (openBySession_perm s).length_eq

/-- The records of the closes are in ascending number. -/
theorem pairwise_restartRecordAt :
    ((s.openBySession.filterMap (s.beginRestart straps).restartRecordAt).map Settlement.number).Pairwise (· ≤ ·) := by
  have hnumber {p : Pedestal} {r : Settlement} (hr : (s.beginRestart straps).restartRecordAt p = some r) : r.number = s.numberAt p := by
    obtain ⟨e, he, rfl⟩ := Option.map_eq_some_iff.1 hr
    have he' : (s.slot p).session = some e := he
    simp [State.numberAt, he', State.restartRecord, closingRecord_closed]
  rw [List.pairwise_map, List.pairwise_filterMap]
  refine (openBySession_sorted s).imp fun {p q} hle r hr r' hr' => ?_
  rw [hnumber hr, hnumber hr']
  exact hle

/-- The tariff lets go of every session that names it. -/
theorem length_filter_billedOn (n : TariffNo) :
    (s.openBySession.filter ((s.beginRestart straps).billedOn n)).length = s.sessionsOn n := by
  have hopen : ((allPedestals.filter fun p => (s.slot p).session.isSome).filter ((s.beginRestart straps).billedOn n)) =
      allPedestals.filter ((s.beginRestart straps).billedOn n) := by
    rw [List.filter_filter]
    refine List.filter_congr fun p _ => ?_
    cases h : (s.slot p).session with
    | some e => simp
    | none =>
      have h' : ((s.beginRestart straps).slot p).session = none := h
      simp [State.billedOn, h']
  rw [((openBySession_perm s).filter _).length_eq, hopen]
  rfl

end

/-- A mode is closed once. -/
theorem PedestalMode.closed_closed (x : PedestalMode) : x.closed.closed = x.closed := by cases x <;> rfl

/-- Settles O59: by what the closes leave and what the other steps set. -/
theorem restartSettlesEverySession : Obligations.RestartSettlesEverySession := by
  intro s kind straps _ _ t opened
  have hclosed := restartClosed_restartCloses s straps
  have ht : t = ((s.restartCloses straps).restarted kind).startTransmit := restart_none s kind straps
  clear_value t
  generalize hv : s.restartCloses straps = v at hclosed ht
  subst ht
  obtain ⟨bpending, bnow, bslots, bnext, bexhausted, btariffs, bsettlements, balloc, bmodules, -, bfield, -, bclock, bcontrol⟩ :=
    beginRestart_frame s straps
  have hcontrol : v.control = { s.control with straps := straps, restarting := true } := hclosed.control
  have hnow : v.now = s.now := hclosed.time.1
  have hsettlements : v.settlements = s.settlements ++ s.openBySession.filterMap (s.beginRestart straps).restartRecordAt :=
    hclosed.settlements
  have htariff (n : TariffNo) : v.tariff n = { s.tariff n with references := (s.tariff n).references - s.sessionsOn n } :=
    (hclosed.tariff n).trans (by rw [length_filter_billedOn]; rfl)
  have hopened (m : ModuleNo) : (v.restartedModule m).state = .contactOpen ↔ opened m = true := by
    simp only [State.restartedModule, hcontrol, Window.usable, opened]
    split
    next h => simpa using h
    next h => simpa [ModuleRecord.cold] using h
  obtain ⟨rpending, rnow, rnext, rexhausted, rsettlements, rclock, rprot, rhost, rnotices, rcontrol, rcan, rbuffer, rqueue, ralloc,
    rtariff, rmodule, rslot, rlink⟩ := restarted_frame v kind
  generalize hu : v.restarted kind = u at *
  have hrecords : u.startTransmit.settlements = s.settlements ++ s.openBySession.filterMap (s.beginRestart straps).restartRecordAt := by
    simp only [startTransmit_frame, rsettlements, hsettlements]
  have hmodule (m : ModuleNo) : u.startTransmit.module m = v.restartedModule m := by simp only [startTransmit_frame, rmodule]
  have hallocs : u.startTransmit.alloc = { Apportioner.cold with
      gridCap := s.alloc.gridCap
      periodTimer := if s.control.commissioned then some (s.now + s.params.periodMs) else none } := by
    simp only [startTransmit_frame, ralloc, hclosed.gridCap, State.after, State.params, hnow, hcontrol, balloc]
  refine ⟨fun p => ?slot, ⟨_, hrecords, length_filterMap_restartRecordAt s straps, pairwise_restartRecordAt s straps, ?records⟩,
    ?next, ?exhausted, ?clock, ?now, ?pending, fun n => ?tariff, fun hsound n => ?references, hallocs, fun m hm => ?opened, fun m hm => ?shut,
    ?prot, ?can, ?orders, fun p => ?link, ?host, ?notices, ?control⟩
  case slot =>
    have hmode : (v.slot p).mode.closed = (s.slot p).mode.closed := by
      rw [hclosed.slot]
      split
      · exact PedestalMode.closed_closed _
      · rfl
    simp only [startTransmit_frame, rslot, hmode, PedestalMode.closed_eq, Slot.cold]
  case records =>
    intro r hr
    obtain ⟨p, -, hp⟩ := List.mem_filterMap.1 hr
    obtain ⟨e, he, rfl⟩ := Option.map_eq_some_iff.1 hp
    rw [State.restartRecord, closingRecord_closed]
    exact ⟨rfl, rfl, rfl, e, he, rfl, rfl⟩
  case next => simp only [startTransmit_frame, rnext, hclosed.issued, bnext]
  case exhausted => simp only [startTransmit_frame, rexhausted, hclosed.issued, bexhausted]
  case clock => simp only [startTransmit_frame, rclock, hclosed.clock, bclock]
  case now => simp only [startTransmit_frame, rnow, hnow]
  case pending => simp only [startTransmit_frame, rpending, hclosed.time, bpending]
  case tariff => simp only [startTransmit_frame, rtariff, htariff]
  case references =>
    obtain ⟨hcount, -⟩ := hsound n
    simp only [startTransmit_frame, rtariff, htariff, hcount, Nat.sub_self]
  case opened =>
    have husable : v.control.commissioned = true ∧ (v.control.record.windows[m.val]).usable = true := by
      simpa [opened, hcontrol, Window.usable] using hm
    have hrecord := hmodule m
    simp only [State.restartedModule, if_pos husable] at hrecord
    simp only [hrecord, hclosed.assigned, State.contactTimer, State.params, hnow, hcontrol]
    exact ⟨trivial, trivial, trivial, trivial, trivial, rfl⟩
  case shut =>
    have hshut : ¬ (v.control.commissioned = true ∧ (v.control.record.windows[m.val]).usable = true) := by
      simpa [opened, hcontrol, Window.usable] using hm
    have hrecord := hmodule m
    simp only [State.restartedModule, if_neg hshut] at hrecord
    simp only [hrecord, hcontrol]
  case prot => simp only [startTransmit_frame, rprot]
  case can => simp only [startTransmit_frame, rcan]
  case orders =>
    rw [orders_startTransmit, rbuffer, rqueue, State.restartOpens]
    simp only [hopened, Option.toList_none, List.nil_append, Bool.decide_eq_true]
  case link =>
    have hlink : v.link p = s.link p := by simp only [State.link, hclosed.links, bfield]
    simp only [startTransmit_frame, rlink, hlink]
  case host => simp only [startTransmit_frame, rhost]
  case notices =>
    have hempty : u.startTransmit.settlements = v.settlements := by simp only [startTransmit_frame, rsettlements]
    rw [hempty]
    simp only [startTransmit_frame, rnotices]
    rfl
  case control => simp only [startTransmit_frame, rcontrol, hcontrol]

end Sys2Proof.Machine
end

section
/-! # A restart abandoned at any point (R184, R185) -/

namespace Sys2Proof.Machine

/-! ### What every part of a restart keeps -/

/-- No session is lost between two states: each open one is still open or is recorded, and the laws of slots and numbers go on. -/
structure Settles (s t : State) : Prop where
  sum : t.openCount + t.settlements.length = s.openCount + s.settlements.length
  records : s.settlements <+: t.settlements
  settled : ∀ p e, s.Holds p e → t.Holds p e ∨ ∃ r ∈ t.settlements, r.number = e.number ∧ r.closeCause = .restart
  slots : s.SlotsSound → t.SlotsSound
  numbers : s.NumbersSound → t.NumbersSound

/-- Nor does the part take the supply for another or lose its marker. -/
structure Restarts (s t : State) : Prop extends Settles s t where
  supply : t.control.mainPresent = s.control.mainPresent ∧ t.control.marker = s.control.marker

/-- No session is open. -/
def State.AllClosed (s : State) : Prop := ∀ p, (s.slot p).session = none

section
variable {s t u : State}

theorem Settles.refl (s : State) : Settles s s := ⟨rfl, List.prefix_refl _, fun _ _ h => Or.inl h, id, id⟩

theorem Settles.trans (h : Settles s t) (h' : Settles t u) : Settles s u where
  sum := h'.sum.trans h.sum
  records := h.records.trans h'.records
  settled := fun p e he => by
    rcases h.settled p e he with he | ⟨r, hr, hrecord⟩
    · exact h'.settled p e he
    · exact Or.inr ⟨r, h'.records.subset hr, hrecord⟩
  slots := fun hs => h'.slots (h.slots hs)
  numbers := fun hs => h'.numbers (h.numbers hs)

theorem Restarts.refl (s : State) : Restarts s s := ⟨.refl s, rfl, rfl⟩

theorem Restarts.trans (h : Restarts s t) (h' : Restarts t u) : Restarts s u :=
  ⟨h.toSettles.trans h'.toSettles, h'.supply.1.trans h.supply.1, h'.supply.2.trans h.supply.2⟩

/-- The session numbers are read off the sessions, the records and the count. -/
theorem numbersSound_congr (hsession : ∀ p, (t.slot p).session = (s.slot p).session) (hsettlements : t.settlements = s.settlements)
    (hnext : t.nextSession = s.nextSession) (hexhausted : t.exhausted = s.exhausted) (h : s.NumbersSound) : t.NumbersSound := by
  simpa only [State.NumbersSound, State.Issued, State.Holds, hsession, hsettlements, hnext, hexhausted] using h

/-- Open sessions are counted off the slots. -/
theorem openCount_congr (hsession : ∀ p, (t.slot p).session = (s.slot p).session) : t.openCount = s.openCount := by
  simp only [State.openCount, hsession]

/-- Sessions and records that stay as they are. -/
theorem Settles.of_same (hsession : ∀ p, (t.slot p).session = (s.slot p).session) (hsettlements : t.settlements = s.settlements)
    (hissued : t.nextSession = s.nextSession ∧ t.exhausted = s.exhausted) (hslots : s.SlotsSound → t.SlotsSound) : Settles s t where
  sum := by rw [openCount_congr hsession, hsettlements]
  records := hsettlements ▸ List.prefix_rfl
  settled := fun p e he => Or.inl ((hsession p).trans he)
  slots := hslots
  numbers := numbersSound_congr hsession hsettlements hissued.1 hissued.2

/-- A slot's law is read off the slot and its power. -/
theorem slotSound_congr {p : Pedestal} (hslot : t.slot p = s.slot p)
    (hpower : (t.allot p).grant = (s.allot p).grant ∧ (t.allot p).setpoint = (s.allot p).setpoint) (h : s.SlotSound p) : t.SlotSound p := by
  simpa only [State.SlotSound, State.Holds, hslot, hpower] using h

/-- Slots that stay as they are, with their power or with none. -/
theorem slotsSound_of_power (hslot : ∀ p, t.slot p = s.slot p)
    (hpower : ∀ p, ((t.allot p).grant = (s.allot p).grant ∧ (t.allot p).setpoint = (s.allot p).setpoint) ∨
      ((t.allot p).grant = 0 ∧ (t.allot p).setpoint = 0)) (h : s.SlotsSound) : t.SlotsSound := by
  intro p
  rcases hpower p with hsame | hzero
  · exact slotSound_congr (hslot p) hsame (h p)
  · obtain ⟨hsession, hauth, -, hfits, hclosing, hout⟩ := h p
    simp only [State.SlotSound, State.Holds, hslot]
    exact ⟨hsession, hauth, fun _ => hzero, hfits, hclosing, hout⟩

/-- A step that leaves the slots, the records and the supply alone, and power where it is or nowhere. -/
theorem Restarts.of_same (hslot : ∀ p, t.slot p = s.slot p) (hsettlements : t.settlements = s.settlements)
    (hissued : t.nextSession = s.nextSession ∧ t.exhausted = s.exhausted)
    (hpower : ∀ p, ((t.allot p).grant = (s.allot p).grant ∧ (t.allot p).setpoint = (s.allot p).setpoint) ∨
      ((t.allot p).grant = 0 ∧ (t.allot p).setpoint = 0))
    (hsupply : t.control.mainPresent = s.control.mainPresent ∧ t.control.marker = s.control.marker) : Restarts s t :=
  ⟨.of_same (fun p => congrArg Slot.session (hslot p)) hsettlements hissued (slotsSound_of_power hslot hpower), hsupply⟩

/-- The same, where the allotments stay as they are. -/
theorem Restarts.of_quiet (hslots : t.slots = s.slots) (hsettlements : t.settlements = s.settlements)
    (hissued : t.nextSession = s.nextSession ∧ t.exhausted = s.exhausted) (hentries : t.alloc.entries = s.alloc.entries)
    (hsupply : t.control.mainPresent = s.control.mainPresent ∧ t.control.marker = s.control.marker) : Restarts s t :=
  .of_same (fun p => by simp only [State.slot, hslots]) hsettlements hissued
    (fun p => Or.inl (by simp only [State.allot, hentries, and_self])) hsupply

end

/-! ### The closes -/

section
variable {s : State} {p : Pedestal} {e : Session}

/-- One open session less. -/
theorem openCount_of_closed {t : State} (he : s.Holds p e) (hp : (t.slot p).session = none)
    (hne : ∀ q, q ≠ p → (t.slot q).session = (s.slot q).session) : t.openCount + 1 = s.openCount := by
  have he' : (s.slot p).session = some e := he
  exact length_filter_add_one allPedestals_nodup (mem_allPedestals p) (by simp [he']) (by simp [hp]) fun q hq => by rw [hne q hq]

/-- The numbers stay unique as a session becomes a record. -/
theorem numbersSound_closed {t : State} {r : Settlement} (he : s.Holds p e) (hp : (t.slot p).session = none)
    (hne : ∀ q, q ≠ p → (t.slot q).session = (s.slot q).session) (hsettlements : t.settlements = s.settlements ++ [r])
    (hnumber : r.number = e.number) (hnext : t.nextSession = s.nextSession) (hexhausted : t.exhausted = s.exhausted)
    (h : s.NumbersSound) : t.NumbersSound := by
  obtain ⟨hlow, hhigh, hissued, hunique, hrecords, hapart, hpairwise⟩ := h
  have hold {q : Pedestal} {f : Session} (hf : t.Holds q f) : q ≠ p ∧ s.Holds q f := by
    have hf' : (t.slot q).session = some f := hf
    have hq : q ≠ p := by rintro rfl; simp [hp] at hf'
    exact ⟨hq, (hne q hq).symm.trans hf'⟩
  have hsame (n : Nat) : t.Issued n ↔ s.Issued n := by simp only [State.Issued, hnext, hexhausted]
  refine ⟨hnext ▸ hlow, hnext ▸ hhigh, fun q f hf => (hsame _).2 (hissued q f (hold hf).2),
    fun q q' f f' hf hf' heq => hunique q q' f f' (hold hf).2 (hold hf').2 heq, fun x hx => ?_, fun x hx q f hf => ?_, ?_⟩
  · rw [hsettlements, List.mem_append, List.mem_singleton] at hx
    rcases hx with hx | rfl
    · exact (hsame _).2 (hrecords x hx)
    · exact (hsame _).2 (hnumber ▸ hissued p e he)
  · rw [hsettlements, List.mem_append, List.mem_singleton] at hx
    obtain ⟨hq, hf⟩ := hold hf
    rcases hx with hx | rfl
    · exact hapart x hx q f hf
    · rw [hnumber]
      exact fun heq => hq (hunique p q e f he hf heq).symm
  · rw [hsettlements, List.pairwise_append]
    refine ⟨hpairwise, List.pairwise_singleton _ _, fun x hx y hy => ?_⟩
    rw [List.mem_singleton.1 hy, hnumber]
    exact hapart x hx p e he

/-- A close leaves the slots sound. -/
theorem slotsSound_closeSession (cause : CloseCause) (he : s.Holds p e) (h : s.SlotsSound) : (s.closeSession p cause).SlotsSound := by
  obtain ⟨hslots, -, -, -, halloc, -⟩ := closeSettlesTheSession s p cause e he
  intro q
  by_cases hq : q = p
  · subst hq
    have hslot := slot_of_slots_set hslots
    have he' : (s.slot q).session = some e := he
    obtain ⟨hopen, hauth, -⟩ := h q
    have hstopped : (s.slot q).authWait = none := by
      refine Classical.byContradiction fun hsome => ?_
      rw [he', hauth (Option.isSome_iff_ne_none.2 hsome)] at hopen
      simp [SlotState.isOpen] at hopen
    simp only [State.SlotSound, State.Holds, hslot, hstopped, State.allot, halloc]
    by_cases hlost : cause = .linkLost <;> by_cases hmode : (s.slot q).mode = .closingDown <;> simp [hlost, hmode, SlotState.isOpen]
  · have hval : p.val ≠ q.val := fun hv => hq (Fin.ext hv.symm)
    refine slotSound_congr ?_ ?_ (h q)
    · simp [State.slot, hslots, hval]
    · simp [State.allot, halloc, hval]

/-- One close of a restart. -/
theorem restarts_closeSession (s : State) (p : Pedestal) : Restarts s (s.closeSession p .restart) := by
  cases hsession : (s.slot p).session with
  | none => rw [closeSession_of_none _ hsession]; exact .refl s
  | some e =>
    have he : s.Holds p e := hsession
    have hclosed := restartClosed_closeSession he
    have hp : ((s.closeSession p .restart).slot p).session = none := by rw [hclosed.slot]; simp [Slot.closed]
    have hne (q : Pedestal) (hq : q ≠ p) : (s.closeSession p .restart).slot q = s.slot q := by rw [hclosed.slot]; simp [hq]
    have hsettlements : (s.closeSession p .restart).settlements = s.settlements ++ [s.restartRecord p e] := by
      rw [hclosed.settlements]
      simp [State.restartRecordAt, hsession]
    have hnumber : (s.restartRecord p e).number = e.number := by rw [State.restartRecord, closingRecord_closed]
    have hcause : (s.restartRecord p e).closeCause = .restart := by rw [State.restartRecord, closingRecord_closed]
    refine ⟨⟨?_, ?_, fun q f hf => ?_, slotsSound_closeSession .restart he,
      numbersSound_closed he hp (fun q hq => by rw [hne q hq]) hsettlements hnumber hclosed.issued.1 hclosed.issued.2⟩, ?_⟩
    · have hcount := openCount_of_closed he hp fun q hq => by rw [hne q hq]
      rw [hsettlements, List.length_append, List.length_singleton]
      omega
    · rw [hsettlements]
      exact List.prefix_append _ _
    · by_cases hq : q = p
      · subst hq
        have hfe : f = e := Option.some.inj (hf.symm.trans hsession)
        rw [hfe]
        exact Or.inr ⟨_, by rw [hsettlements]; simp, hnumber, hcause⟩
      · exact Or.inl (by rw [State.Holds, hne q hq]; exact hf)
    · rw [hclosed.control]
      exact ⟨rfl, rfl⟩

/-- The closes of some sessions. -/
theorem restarts_foldl_closeSession (l : List Pedestal) (s : State) : Restarts s (l.foldl (fun s p => s.closeSession p .restart) s) := by
  induction l generalizing s with
  | nil => exact .refl s
  | cons p l ih => exact (restarts_closeSession s p).trans (ih _)

end

/-! ### The steps behind them -/

section
variable {s : State}

/-- The slots of a part without sessions. -/
theorem restarts_restartSlots (h : s.AllClosed) : Restarts s s.restartSlots := by
  have hslot (p : Pedestal) : s.restartSlots.slot p = { Slot.cold with mode := (s.slot p).mode.closed } := by
    simp only [State.restartSlots, State.slot, Vector.getElem_ofFn]
  refine ⟨.of_same (fun p => ?_) rfl ⟨rfl, rfl⟩ fun hsound p => ?_, rfl, rfl⟩
  · rw [hslot, h p]
    rfl
  · obtain ⟨hopen, -, hpower, -⟩ := hsound p
    have hstill : (s.slot p).state ≠ .running := by
      intro hrun
      rw [h p, hrun] at hopen
      simp [SlotState.isOpen] at hopen
    have hallot : s.restartSlots.allot p = s.allot p := by simp only [State.restartSlots, State.allot]
    simp only [State.SlotSound, State.Holds, hslot, hallot, hpower hstill]
    cases (s.slot p).mode <;> simp [Slot.cold, SlotState.isOpen, PedestalMode.closed]

/-- An MD-OPEN at a restart changes the queue alone. -/
theorem openAction_frame (s : State) (m : ModuleNo) :
    (openAction s m).slots = s.slots ∧ (openAction s m).settlements = s.settlements ∧ (openAction s m).nextSession = s.nextSession ∧
    (openAction s m).exhausted = s.exhausted ∧ (openAction s m).alloc = s.alloc ∧ (openAction s m).control = s.control := by
  unfold openAction
  split <;> simp

theorem foldl_openAction_frame (l : List ModuleNo) (s : State) :
    (l.foldl openAction s).slots = s.slots ∧ (l.foldl openAction s).settlements = s.settlements ∧
    (l.foldl openAction s).nextSession = s.nextSession ∧ (l.foldl openAction s).exhausted = s.exhausted ∧
    (l.foldl openAction s).alloc = s.alloc ∧ (l.foldl openAction s).control = s.control := by
  induction l generalizing s with
  | nil => exact ⟨rfl, rfl, rfl, rfl, rfl, rfl⟩
  | cons m l ih => simp only [List.foldl_cons, ih, openAction_frame, and_self]

/-- The modules' step. -/
theorem restarts_restartModules (s : State) : Restarts s s.restartModules := by
  obtain ⟨hslots, hsettlements, hnext, hexhausted, halloc, hcontrol⟩ :=
    foldl_openAction_frame allModules { s with modules := Vector.ofFn s.restartedModule }
  exact .of_quiet hslots hsettlements ⟨hnext, hexhausted⟩ (congrArg Apportioner.entries halloc)
    ⟨congrArg RestartControl.mainPresent hcontrol, congrArg RestartControl.marker hcontrol⟩

/-- The end of the sequence. -/
theorem restarts_endRestart (s : State) : Restarts s s.endRestart := by
  apply Restarts.of_quiet <;> simp [State.endRestart]

/-- Every step behind the closes keeps what a restart keeps, and opens no session. -/
theorem restarts_of_mem_restartSteps {kind : RestartKind} {step : State → State} (hstep : step ∈ restartSteps kind) (h : s.AllClosed) :
    Restarts s (step s) ∧ (step s).AllClosed := by
  have hclosed {t : State} (hslots : t.slots = s.slots) : t.AllClosed := fun p => by rw [State.slot, hslots]; exact h p
  simp only [restartSteps, List.mem_cons, List.not_mem_nil, or_false] at hstep
  rcases hstep with rfl | rfl | rfl | rfl | rfl | rfl | rfl | rfl | rfl | rfl
  · refine ⟨restarts_restartSlots h, fun p => ?_⟩
    simp only [State.restartSlots, State.slot, Vector.getElem_ofFn]
    rfl
  · exact ⟨.of_quiet rfl rfl ⟨rfl, rfl⟩ rfl ⟨rfl, rfl⟩, hclosed rfl⟩
  · exact ⟨.of_quiet rfl rfl ⟨rfl, rfl⟩ rfl ⟨rfl, rfl⟩, hclosed rfl⟩
  · refine ⟨?_, hclosed (by simp only [State.restartLinks])⟩
    apply Restarts.of_quiet <;> simp only [State.restartLinks, and_self]
  · exact ⟨restarts_restartModules s, hclosed (foldl_openAction_frame allModules _).1⟩
  · refine ⟨.of_same (fun _ => rfl) rfl ⟨rfl, rfl⟩ (fun p => Or.inr ?_) ⟨rfl, rfl⟩, hclosed rfl⟩
    simp [State.restartApportioner, State.allot, Apportioner.cold, Allotment.cold]
  · exact ⟨.of_quiet rfl rfl ⟨rfl, rfl⟩ rfl ⟨rfl, rfl⟩, hclosed rfl⟩
  · exact ⟨.of_quiet rfl rfl ⟨rfl, rfl⟩ rfl ⟨rfl, rfl⟩, hclosed rfl⟩
  · exact ⟨.of_quiet rfl rfl ⟨rfl, rfl⟩ rfl ⟨rfl, rfl⟩, hclosed rfl⟩
  · exact ⟨restarts_endRestart s, hclosed (by simp [State.endRestart])⟩

/-- Some of the steps behind the closes. -/
theorem restarts_foldl_steps {kind : RestartKind} {steps : List (State → State)} (hsteps : ∀ step ∈ steps, step ∈ restartSteps kind)
    (h : s.AllClosed) : Restarts s (steps.foldl (fun s step => step s) s) ∧ (steps.foldl (fun s step => step s) s).AllClosed := by
  induction steps generalizing s with
  | nil => exact ⟨.refl s, h⟩
  | cons step steps ih =>
    obtain ⟨hone, hclosed⟩ := restarts_of_mem_restartSteps (hsteps step (by simp)) h
    obtain ⟨hrest, hclosed'⟩ := ih (fun x hx => hsteps x (by simp [hx])) hclosed
    exact ⟨hone.trans hrest, hclosed'⟩

end

/-! ### The sequence, whole or abandoned -/

section
variable (s : State) (kind : RestartKind) (straps : BitVec 2)

/-- No session is open behind the closes. -/
theorem allClosed_restartCloses : (s.restartCloses straps).AllClosed := by
  intro p
  rw [(restartClosed_restartCloses s straps).slot]
  split
  · rfl
  next hp =>
    have hnone : (s.slot p).session = none := by simpa [mem_openBySession] using hp
    exact hnone

/-- The beginning of a sequence. -/
theorem restarts_beginRestart : Restarts s (s.beginRestart straps) := .of_quiet rfl rfl ⟨rfl, rfl⟩ rfl ⟨rfl, rfl⟩

/-- The closes of a restart, all of them. -/
theorem restarts_restartCloses : Restarts s (s.restartCloses straps) :=
  (restarts_beginRestart s straps).trans (restarts_foldl_closeSession _ _)

/-- A restart abandoned at any point (R185). -/
theorem restarts_restart_some (k : Nat) : Restarts s (s.restart kind straps (some k)) := by
  have hlist : (s.beginRestart straps).openBySession = s.openBySession := rfl
  rw [State.restart, runSteps, hlist]
  refine (restarts_beginRestart s straps).trans ?_
  have hcut : (s.openBySession.map closeAction ++ restartSteps kind).take k =
      (s.openBySession.take k).map closeAction ++ (restartSteps kind).take (k - s.openBySession.length) := by
    rw [List.take_append, List.map_take, List.length_map]
  simp only [hcut, List.foldl_append, List.foldl_map]
  rcases Nat.lt_or_ge s.openBySession.length k with hbehind | hwithin
  · rw [List.take_of_length_le (Nat.le_of_lt hbehind)]
    exact (restarts_foldl_closeSession _ _).trans
      (restarts_foldl_steps (fun x hx => List.mem_of_mem_take hx) (allClosed_restartCloses s straps)).1
  · rw [Nat.sub_eq_zero_of_le hwithin]
    exact restarts_foldl_closeSession _ _

/-- A restart that runs to its end leaves no session open. -/
theorem restarts_restart_none : Restarts s (s.restart kind straps none) ∧ (s.restart kind straps none).AllClosed := by
  obtain ⟨hsteps, hclosed⟩ := restarts_foldl_steps (kind := kind) (fun _ => id) (allClosed_restartCloses s straps)
  rw [foldl_restartSteps, ← restart_none] at hsteps hclosed
  exact ⟨(restarts_restartCloses s straps).trans hsteps, hclosed⟩

end

/-! ### What follows an abandoned sequence -/

section
variable {s t : State}

/-- Running time goes on. -/
theorem settles_advance (s : State) (time : Nat) : Settles s (s.advance time) := .of_same (fun _ => rfl) rfl ⟨rfl, rfl⟩ id

/-- A loss of the main supply keeps the store (R182). -/
theorem settles_supplyLost (s : State) (backup : Bool) : Settles s (s.supplyLost backup) := by
  refine .of_same (fun _ => rfl) rfl ⟨rfl, rfl⟩ (slotsSound_of_power (fun _ => rfl) fun p => Or.inr ?_)
  simp [State.supplyLost, State.allot, Apportioner.cold, Allotment.cold]

/-- The return of the main supply. -/
theorem settles_powered (s : State) (outage : Nat) (backup : Bool) : Settles s (s.powered outage backup) :=
  .of_same (fun _ => rfl) rfl ⟨rfl, rfl⟩ id

/-- Without an open session the count is 0. -/
theorem State.AllClosed.openCount (h : s.AllClosed) : s.openCount = 0 := by simp [State.openCount, h _]

/-- What a run to the end has settled. -/
theorem Settles.all_settled (h : Settles s t) (hclosed : t.AllClosed) (hnumbers : s.NumbersSound) :
    t.openCount = 0 ∧ t.settlements.length = s.openCount + s.settlements.length ∧ s.settlements <+: t.settlements ∧
      (∀ p e, s.Holds p e → ∃ r ∈ t.settlements, r.number = e.number ∧ r.closeCause = .restart) ∧ t.NumbersSound := by
  have hzero := hclosed.openCount
  refine ⟨hzero, by rw [← h.sum, hzero, Nat.zero_add], h.records, fun p e he => (h.settled p e he).resolve_left fun he' => ?_,
    h.numbers hnumbers⟩
  have hnone := hclosed p
  rw [show (t.slot p).session = some e from he'] at hnone
  cases hnone

end

/-! ### A cold start -/

/-- The part holds no session and no record, with its main supply present. -/
def State.Emptied (s : State) : Prop := s.AllClosed ∧ s.settlements = [] ∧ s.control.mainPresent = true

/-- Every step of a cold start leaves the part emptied. -/
theorem emptied_of_mem_coldSteps {s : State} {step : State → State} (hstep : step ∈ coldSteps) (h : s.Emptied) : (step s).Emptied := by
  simp only [coldSteps, List.mem_cons, List.not_mem_nil, or_false] at hstep
  rcases hstep with rfl | rfl | rfl | rfl | rfl <;> exact h

/-- A cold start, abandoned at any point or not, leaves the part emptied (R184). -/
theorem emptied_coldStart {s : State} (straps : BitVec 2) (cut : Option Nat) (h : s.control.mainPresent = true) :
    (s.coldStart straps cut).Emptied := by
  have hrun (steps : List (State → State)) (hsteps : ∀ step ∈ steps, step ∈ coldSteps) (u : State) (hu : u.Emptied) :
      (steps.foldl (fun s step => step s) u).Emptied := by
    induction steps generalizing u with
    | nil => exact hu
    | cons step steps ih =>
      exact ih (fun x hx => hsteps x (by simp [hx])) _ (emptied_of_mem_coldSteps (hsteps step (by simp)) hu)
  have hstore : (s.beginRestart straps).coldStore.Emptied :=
    ⟨fun p => by simp [State.coldStore, State.reset, State.slot, Slot.cold], rfl, h⟩
  cases cut with
  | none => exact hrun coldSteps (fun _ => id) _ hstore
  | some k => exact hrun (coldSteps.take k) (fun _ hx => List.mem_of_mem_take hx) _ hstore

/-- Settles O60: every part of a sequence keeps the sessions and records, and a run to the end leaves no session open. -/
theorem abandonedRestartSettlesOnce : Obligations.AbandonedRestartSettlesOnce := by
  refine ⟨fun s kind straps k hslots hnumbers => ?_, fun s outage time straps straps' backup cut hmain hlost => ?_⟩
  · intro a settled
    have ha : Restarts s a := restarts_restart_some s kind straps k
    clear_value a
    have hend {t : State} (h : Settles a t) (hclosed : t.AllClosed) : settled t := (ha.toSettles.trans h).all_settled hclosed hnumbers
    refine ⟨⟨ha.sum, ha.slots hslots, ha.numbers hnumbers⟩, fun hmain time straps' => ?_, fun hmain hmarker time outage straps' => ?_⟩
    · obtain ⟨hrestart, hclosed⟩ := restarts_restart_none (a.advance time) .commanded straps'
      exact ⟨_, exec_resetLinePulse_of_present time (ha.supply.1.trans hmain),
        hend ((settles_advance a time).trans hrestart.toSettles) hclosed⟩
    · obtain ⟨hrestart, hclosed⟩ := restarts_restart_none (((a.advance time).supplyLost true).powered outage true) .supply straps'
      have hmarker' : ((a.advance time).supplyLost true).control.marker = true := by
        simpa [State.supplyLost, State.advance] using ha.supply.2.trans hmarker
      exact ⟨_, _, exec_mainSupplyLoss_of_present _ (ha.supply.1.trans hmain), exec_mainSupplyReturn_of_kept rfl hmarker',
        hend ((settles_advance a time).trans ((settles_supplyLost _ true).trans ((settles_powered _ outage true).trans hrestart.toSettles)))
          hclosed⟩
  · obtain ⟨hclosed, hsettlements, hpresent⟩ := emptied_coldStart (s := s.powered outage backup) straps cut rfl
    obtain ⟨hrestart, -⟩ := restarts_restart_none (((s.powered outage backup).coldStart straps cut).advance time) .commanded straps'
    have hsum := ((settles_advance _ time).trans hrestart.toSettles).sum
    rw [hclosed.openCount, hsettlements, List.length_nil] at hsum
    obtain ⟨hcount, hlength⟩ := Nat.add_eq_zero_iff.1 hsum
    exact ⟨_, _, exec_mainSupplyReturn_of_lost hmain hlost, hclosed.openCount, hsettlements, exec_resetLinePulse_of_present time hpresent,
      hcount, List.length_eq_zero_iff.1 hlength⟩

end Sys2Proof.Machine
end

section
/-! # The receiver (R163, R164, R165) -/

namespace Sys2Proof.Machine

/-! ### The fuel is enough

Each step that does not take a byte in for good drops a sync, so the steps left are at most the square of the bytes in hand. -/

/-- A bound on the steps that a receiver takes for a run of bytes. -/
def Receiver.need : Receiver → List RxByte → Nat
  | .hunting, bs => bs.length * bs.length
  | .collecting _ got, bs => bs.length + (got.length + bs.length) * (got.length + bs.length)

/-- No byte, no step. -/
theorem receiveLoop_nil (fuel : Nat) (r : Receiver) : receiveLoop fuel r [] = (r, []) := by cases fuel <;> rfl

/-- One byte in HUNTING. -/
theorem receiveLoop_hunting (fuel : Nat) (b : RxByte) (bs : List RxByte) :
    receiveLoop (fuel + 1) .hunting (b :: bs) =
      if !b.framingError && b.value == Config.syncByte then receiveLoop fuel (.collecting b.time []) bs
      else receiveLoop fuel .hunting bs := rfl

section
variable {fuel : Nat} {t : Nat} {got : List RxByte} {b : RxByte} {bs : List RxByte}

/-- One byte in COLLECTING, with the frame not complete. -/
theorem receiveLoop_of_incomplete (h : frameVerdict t (got ++ [b]) = none) :
    receiveLoop (fuel + 1) (.collecting t got) (b :: bs) = receiveLoop fuel (.collecting t (got ++ [b])) bs := by
  simp only [receiveLoop, h]

/-- One byte in COLLECTING, with the frame bad. -/
theorem receiveLoop_of_bad (h : frameVerdict t (got ++ [b]) = some false) :
    receiveLoop (fuel + 1) (.collecting t got) (b :: bs) = receiveLoop fuel .hunting (got ++ b :: bs) := by
  simp only [receiveLoop, h, List.append_assoc, List.singleton_append]

/-- One byte in COLLECTING, with the frame good. -/
theorem receiveLoop_of_good (h : frameVerdict t (got ++ [b]) = some true) :
    receiveLoop (fuel + 1) (.collecting t got) (b :: bs) =
      ((receiveLoop fuel .hunting bs).1, recordOf (got ++ [b]) :: (receiveLoop fuel .hunting bs).2) := by
  simp only [receiveLoop, h]

end

/-- A step of HUNTING lowers the bound. -/
theorem need_hunting (b : RxByte) (bs : List RxByte) (time : Nat) :
    Receiver.need (.collecting time []) bs + 1 ≤ Receiver.need .hunting (b :: bs) ∧
      Receiver.need .hunting bs + 1 ≤ Receiver.need .hunting (b :: bs) := by
  simp only [Receiver.need, List.length_cons, List.length_nil, Nat.zero_add, Nat.add_mul, Nat.mul_add]
  constructor <;> omega

/-- A step of COLLECTING lowers the bound. -/
theorem need_collecting (t : Nat) (got : List RxByte) (b : RxByte) (bs : List RxByte) :
    Receiver.need (.collecting t (got ++ [b])) bs + 1 ≤ Receiver.need (.collecting t got) (b :: bs) ∧
      Receiver.need .hunting (got ++ b :: bs) + 1 ≤ Receiver.need (.collecting t got) (b :: bs) ∧
      Receiver.need .hunting bs + 1 ≤ Receiver.need (.collecting t got) (b :: bs) := by
  have hlength : got.length + (0 + 1) + bs.length = got.length + (bs.length + 1) := by omega
  have hsquare : bs.length * bs.length ≤ (got.length + (bs.length + 1)) * (got.length + (bs.length + 1)) :=
    Nat.mul_le_mul (by omega) (by omega)
  simp only [Receiver.need, List.length_cons, List.length_append, List.length_nil, hlength]
  refine ⟨?_, ?_, ?_⟩ <;> omega

/-- Above the bound, more fuel changes nothing. -/
theorem receiveLoop_of_need (fuel fuel' : Nat) (r : Receiver) (bs : List RxByte) (h : r.need bs ≤ fuel) (h' : r.need bs ≤ fuel') :
    receiveLoop fuel r bs = receiveLoop fuel' r bs := by
  induction fuel generalizing fuel' r bs with
  | zero =>
    have hnil : bs = [] := by
      cases bs with
      | nil => rfl
      | cons b bs =>
        cases r with
        | hunting => exact absurd (need_hunting b bs 0).2 (by omega)
        | collecting t got => exact absurd (need_collecting t got b bs).1 (by omega)
    rw [hnil, receiveLoop_nil, receiveLoop_nil]
  | succ fuel ih =>
    cases bs with
    | nil => rw [receiveLoop_nil, receiveLoop_nil]
    | cons b bs =>
      cases r with
      | hunting =>
        obtain ⟨hcollect, hhunt⟩ := need_hunting b bs b.time
        obtain ⟨k, rfl⟩ : ∃ k, fuel' = k + 1 := ⟨fuel' - 1, by omega⟩
        rw [receiveLoop_hunting, receiveLoop_hunting]
        split
        · exact ih _ _ _ (by omega) (by omega)
        · exact ih _ _ _ (by omega) (by omega)
      | collecting t got =>
        obtain ⟨hmore, hbad, hgood⟩ := need_collecting t got b bs
        obtain ⟨k, rfl⟩ : ∃ k, fuel' = k + 1 := ⟨fuel' - 1, by omega⟩
        cases hverdict : frameVerdict t (got ++ [b]) with
        | none =>
          rw [receiveLoop_of_incomplete hverdict, receiveLoop_of_incomplete hverdict]
          exact ih _ _ _ (by omega) (by omega)
        | some good =>
          cases good with
          | false =>
            rw [receiveLoop_of_bad hverdict, receiveLoop_of_bad hverdict]
            exact ih _ _ _ (by omega) (by omega)
          | true => rw [receiveLoop_of_good hverdict, receiveLoop_of_good hverdict, ih k .hunting bs (by omega) (by omega)]

/-- A run of bytes is received with any fuel above the bound. -/
theorem receiveLoop_eq_receive {fuel : Nat} {r : Receiver} {bs : List RxByte} (h : r.need bs ≤ fuel) :
    receiveLoop fuel r bs = receive r bs := by
  refine receiveLoop_of_need _ _ r bs h ?_
  cases r with
  | hunting =>
    simp only [Receiver.need, Receiver.held]
    exact Nat.mul_le_mul (by omega) (by omega)
  | collecting t got =>
    simp only [Receiver.need, Receiver.held, Nat.mul_succ, Nat.succ_mul]
    omega

/-! ### The receiver, byte by byte (R164) -/

/-- No byte changes nothing. -/
theorem receive_nil (r : Receiver) : receive r [] = (r, []) := receiveLoop_nil _ r

section
variable {t : Nat} {got : List RxByte} {b : RxByte} {bs : List RxByte}

/-- A sync starts a frame. -/
theorem receive_hunting_sync (hvalue : b.value = 0xA5) (herror : b.framingError = false) :
    receive .hunting (b :: bs) = receive (.collecting b.time []) bs := by
  obtain ⟨hcollect, hhunt⟩ := need_hunting b bs b.time
  rw [← receiveLoop_eq_receive (fuel := Receiver.need .hunting (b :: bs) + 1) (Nat.le_succ _), receiveLoop_hunting,
    if_pos (by simp [hvalue, herror, Config.syncByte]), receiveLoop_eq_receive (by omega)]

/-- Any other byte is passed over. -/
theorem receive_hunting_other (h : b.value ≠ 0xA5 ∨ b.framingError = true) : receive .hunting (b :: bs) = receive .hunting bs := by
  obtain ⟨hcollect, hhunt⟩ := need_hunting b bs b.time
  have hnot : ¬ (!b.framingError && b.value == Config.syncByte) = true := by
    rcases h with h | h
    · have hvalue : (b.value == Config.syncByte) = false := beq_eq_false_iff_ne.2 h
      simp [hvalue]
    · simp [h]
  rw [← receiveLoop_eq_receive (fuel := Receiver.need .hunting (b :: bs) + 1) (Nat.le_succ _), receiveLoop_hunting, if_neg hnot,
    receiveLoop_eq_receive (by omega)]

/-- A frame that is not complete goes on. -/
theorem receive_of_incomplete (h : frameVerdict t (got ++ [b]) = none) :
    receive (.collecting t got) (b :: bs) = receive (.collecting t (got ++ [b])) bs := by
  obtain ⟨hmore, -, -⟩ := need_collecting t got b bs
  rw [← receiveLoop_eq_receive (fuel := Receiver.need (.collecting t got) (b :: bs) + 1) (Nat.le_succ _), receiveLoop_of_incomplete h,
    receiveLoop_eq_receive (by omega)]

/-- The bytes behind the sync of a bad frame are examined again. -/
theorem receive_of_bad (h : frameVerdict t (got ++ [b]) = some false) :
    receive (.collecting t got) (b :: bs) = receive .hunting (got ++ b :: bs) := by
  obtain ⟨-, hbad, -⟩ := need_collecting t got b bs
  rw [← receiveLoop_eq_receive (fuel := Receiver.need (.collecting t got) (b :: bs) + 1) (Nat.le_succ _), receiveLoop_of_bad h,
    receiveLoop_eq_receive (by omega)]

/-- A good frame is handed over. -/
theorem receive_of_good (h : frameVerdict t (got ++ [b]) = some true) :
    receive (.collecting t got) (b :: bs) = ((receive .hunting bs).1, recordOf (got ++ [b]) :: (receive .hunting bs).2) := by
  obtain ⟨-, -, hgood⟩ := need_collecting t got b bs
  rw [← receiveLoop_eq_receive (fuel := Receiver.need (.collecting t got) (b :: bs) + 1) (Nat.le_succ _), receiveLoop_of_good h,
    receiveLoop_eq_receive (by omega)]

/-- Bytes without a sync are passed over. -/
theorem receive_hunting_of_no_sync {before : List RxByte} (h : ∀ b ∈ before, b.value ≠ 0xA5 ∨ b.framingError = true) (bs : List RxByte) :
    receive .hunting (before ++ bs) = receive .hunting bs := by
  induction before with
  | nil => rfl
  | cons b before ih =>
    rw [List.cons_append, receive_hunting_other (h b (by simp)), ih fun x hx => h x (by simp [hx])]

end

/-! ### The verdict on a frame -/

/-- The length that the first byte behind the sync names. -/
def frameLength (got : List RxByte) (b : RxByte) : Nat := (got ++ [b]).head?.elim 0 fun first => first.value.toNat

/-- The CRC of a frame matches its last two bytes. -/
def FrameMatches (length : Nat) (bytes : List Byte) : Prop :=
  crc16 (bytes.take (length + 1)) = BitVec.ofNat 16 (ofLe (bytes.drop (length + 1)))

section
variable {t : Nat} {got : List RxByte} {b : RxByte}

/-- The verdict, by the first byte and the latest. -/
theorem frameVerdict_append (t : Nat) (got : List RxByte) (b : RxByte) :
    frameVerdict t (got ++ [b]) =
      if b.framingError = true ∨ t + 20 < b.time ∨ frameLength got b < 2 ∨ 248 < frameLength got b then some false
      else if frameLength got b + 3 ≤ got.length + 1 then
        some (crc16 (((got ++ [b]).map RxByte.value).take (frameLength got b + 1)) ==
          BitVec.ofNat 16 (ofLe (((got ++ [b]).map RxByte.value).drop (frameLength got b + 1))))
      else none := by
  obtain ⟨first, hfirst⟩ : ∃ first, (got ++ [b]).head? = some first := by cases got <;> exact ⟨_, rfl⟩
  have hlength : frameLength got b = first.value.toNat := by rw [frameLength, hfirst]; rfl
  have hlast : (got ++ [b]).getLast? = some b := by simp
  rw [frameVerdict, hfirst, hlast, hlength]
  have hjudged : (b.framingError || decide (t + Config.frameMs < b.time)) = true ↔ b.framingError = true ∨ t + 20 < b.time := by
    rw [Bool.or_eq_true, decide_eq_true_eq]
    exact Iff.rfl
  simp only [hjudged, List.length_append, List.length_singleton]
  simp only [Bool.or_eq_true, decide_eq_true_eq]
  generalize first.value.toNat = length
  by_cases hlate : b.framingError = true ∨ t + 20 < b.time
  · have hbroken : b.framingError = true ∨ t + 20 < b.time ∨ length < 2 ∨ 248 < length := by grind
    rw [if_pos hlate, if_pos hbroken]
  · by_cases hrange : length < 2 ∨ 248 < length
    · have hbroken : b.framingError = true ∨ t + 20 < b.time ∨ length < 2 ∨ 248 < length := by grind
      rw [if_neg hlate, if_pos hrange, if_pos hbroken]
    · have hwhole : ¬ (b.framingError = true ∨ t + 20 < b.time ∨ length < 2 ∨ 248 < length) := by grind
      rw [if_neg hlate, if_neg hrange, if_neg hwhole]
      by_cases hfull : length + 3 ≤ got.length + 1
      · have hnot : ¬ got.length + 1 < length + 3 := by omega
        rw [if_neg hnot, if_pos hfull]
      · have hshort : got.length + 1 < length + 3 := by omega
        rw [if_pos hshort, if_neg hfull]

/-- A broken frame, or a full one that does not match, is bad. -/
theorem frameVerdict_bad
    (h : (b.framingError = true ∨ t + 20 < b.time ∨ frameLength got b < 2 ∨ 248 < frameLength got b) ∨
      (frameLength got b + 3 ≤ got.length + 1 ∧ ¬ FrameMatches (frameLength got b) ((got ++ [b]).map RxByte.value))) :
    frameVerdict t (got ++ [b]) = some false := by
  rw [frameVerdict_append]
  split
  next => rfl
  next hbroken =>
    obtain ⟨hfull, hmatch⟩ := h.resolve_left hbroken
    rw [if_pos hfull]
    simpa [FrameMatches] using hmatch

/-- A full frame that matches is good. -/
theorem frameVerdict_good (hbroken : ¬ (b.framingError = true ∨ t + 20 < b.time ∨ frameLength got b < 2 ∨ 248 < frameLength got b))
    (hfull : frameLength got b + 3 ≤ got.length + 1) (hmatch : FrameMatches (frameLength got b) ((got ++ [b]).map RxByte.value)) :
    frameVerdict t (got ++ [b]) = some true := by
  rw [frameVerdict_append, if_neg hbroken, if_pos hfull]
  simpa [FrameMatches] using hmatch

/-- A frame that is neither is not complete. -/
theorem frameVerdict_incomplete (hbroken : ¬ (b.framingError = true ∨ t + 20 < b.time ∨ frameLength got b < 2 ∨ 248 < frameLength got b))
    (hfull : ¬ frameLength got b + 3 ≤ got.length + 1) : frameVerdict t (got ++ [b]) = none := by
  rw [frameVerdict_append, if_neg hbroken, if_neg hfull]

end

end Sys2Proof.Machine
end

section
/-! # Host frames and their arrival (R163, R164, R165) -/

namespace Sys2Proof.Machine

/-! ### The bytes of a record (R163) -/

/-- The bytes of a record between the sync and the CRC. -/
def HostRecord.covered (r : HostRecord) : List Byte := BitVec.ofNat 8 (r.body.length + 2) :: r.kind :: r.tag :: r.body

/-- The bytes of a record behind the sync. -/
def HostRecord.behindSync (r : HostRecord) : List Byte := r.covered ++ leBytes 2 (crc16 r.covered).toNat

section
variable {r : HostRecord}

/-- A record on the wire. -/
theorem wire_eq (r : HostRecord) : r.wire = 0xA5 :: r.behindSync := rfl

/-- Two bytes spell the number they carry. -/
theorem ofLe_leBytes_two {n : Nat} (h : n < 65536) : ofLe (leBytes 2 n) = n := by
  simp only [leBytes, ofLe, BitVec.toNat_ofNat]
  omega

/-- The CRC at the end matches. -/
theorem frameMatches_behindSync (r : HostRecord) : FrameMatches (r.body.length + 2) r.behindSync := by
  have hlength : r.covered.length = r.body.length + 2 + 1 := by simp [HostRecord.covered]
  rw [FrameMatches, HostRecord.behindSync, List.take_left' hlength, List.drop_left' hlength, ofLe_leBytes_two (crc16 r.covered).isLt,
    BitVec.ofNat_toNat, BitVec.setWidth_eq]

/-- The record is read back. -/
theorem recordOf_of_behindSync {got : List RxByte} (h : got.map RxByte.value = r.behindSync) : recordOf got = r := by
  have hlength : r.behindSync.length - 5 = r.body.length := by simp [HostRecord.behindSync, HostRecord.covered, leBytes]
  rw [recordOf, h]
  simp only [hlength]
  simp [HostRecord.behindSync, HostRecord.covered]

end

/-! ### A good frame is collected (R164) -/

/-- The bytes of a good frame, taken one after another. -/
theorem receive_collecting_frame {r : HostRecord} {t : Nat} (hbody : r.body.length ≤ 246) (rest got : List RxByte) (hrest : rest ≠ [])
    (hbytes : (got ++ rest).map RxByte.value = r.behindSync) (hclean : ∀ b ∈ rest, b.framingError = false ∧ b.time ≤ t + 20) :
    receive (.collecting t got) rest = (.hunting, [r]) := by
  induction rest generalizing got with
  | nil => exact absurd rfl hrest
  | cons b rest ih =>
    have hlength : frameLength got b = r.body.length + 2 := by
      have hfirst : ((got ++ [b]).map RxByte.value).head? = some (BitVec.ofNat 8 (r.body.length + 2)) := by
        have hhead : ((got ++ b :: rest).map RxByte.value).head? = some (BitVec.ofNat 8 (r.body.length + 2)) := by rw [hbytes]; rfl
        cases got <;> exact hhead
      rw [List.head?_map, Option.map_eq_some_iff] at hfirst
      obtain ⟨first, hfirst, hvalue⟩ := hfirst
      rw [frameLength, hfirst]
      simp only [Option.elim_some, hvalue, BitVec.toNat_ofNat]
      omega
    have hcount : got.length + (rest.length + 1) = r.body.length + 2 + 3 := by
      have hlen := congrArg List.length hbytes
      simpa [HostRecord.behindSync, HostRecord.covered, leBytes] using hlen
    obtain ⟨hframing, htime⟩ := hclean b (by simp)
    have hbroken : ¬ (b.framingError = true ∨ t + 20 < b.time ∨ frameLength got b < 2 ∨ 248 < frameLength got b) := by
      rw [hlength, hframing]
      simp only [Bool.false_eq_true, false_or]
      omega
    cases rest with
    | nil =>
      have hbytes' : (got ++ [b]).map RxByte.value = r.behindSync := hbytes
      have hgood : frameVerdict t (got ++ [b]) = some true :=
        frameVerdict_good hbroken (by rw [hlength]; simp at hcount; omega) (by rw [hlength, hbytes']; exact frameMatches_behindSync r)
      rw [receive_of_good hgood, receive_nil, recordOf_of_behindSync hbytes']
    | cons b' rest =>
      rw [receive_of_incomplete (frameVerdict_incomplete hbroken (by rw [hlength]; simp at hcount; omega))]
      exact ih (got ++ [b]) (by simp) (by simpa using hbytes) fun x hx => hclean x (by simp [hx])

/-- A good frame received in HUNTING. -/
theorem receive_frame {r : HostRecord} {bytes : List RxByte} {first : RxByte} (hbody : r.body.length ≤ 246)
    (hbytes : bytes.map RxByte.value = r.wire) (hclean : ∀ b ∈ bytes, b.framingError = false) (hfirst : bytes.head? = some first)
    (htimes : ∀ b ∈ bytes, b.time ≤ first.time + 20) : receive .hunting bytes = (.hunting, [r]) := by
  cases bytes with
  | nil => cases hfirst
  | cons b rest =>
    obtain rfl : b = first := Option.some.inj hfirst
    rw [wire_eq, List.map_cons, List.cons.injEq] at hbytes
    obtain ⟨hsync, hbehind⟩ := hbytes
    rw [receive_hunting_sync hsync (hclean b (by simp))]
    refine receive_collecting_frame hbody rest [] ?_ hbehind fun x hx => ⟨hclean x (by simp [hx]), htimes x (by simp [hx])⟩
    rintro rfl
    cases hbehind

/-! ### Arrival (R165) -/

section
variable {s : State} {r : HostRecord}

/-- A kind in 0x7F to 0xFF is no request. -/
theorem arrive_of_no_request (h : 0x7F ≤ r.kind.toNat) : s.arrive r = s := if_pos h

/-- A request joins the queue below its places. -/
theorem arrive_of_room (h : r.kind.toNat < 0x7F) (hroom : s.host.requests.length < 4) :
    s.arrive r = { s with host := { s.host with requests := s.host.requests ++ [r] } } := by
  rw [State.arrive, if_neg (by omega)]
  exact if_pos hroom

/-- At a full queue it is answered BUSY below the output's gate. -/
theorem arrive_of_busy (h : r.kind.toNat < 0x7F) (hfull : 4 ≤ s.host.requests.length) (hgate : s.host.output.length < 16)
    (hrestart : s.host.restartAfter = none) : s.arrive r = { s with host := s.emits [replyTo r .busy []] } := by
  rw [State.arrive, if_neg (by omega)]
  exact (if_neg (Nat.not_lt.2 hfull)).trans (if_pos ⟨hgate, hrestart⟩)

/-- At a full queue and a full output, or behind a RESTART, it is dropped. -/
theorem arrive_of_full (h : r.kind.toNat < 0x7F) (hfull : 4 ≤ s.host.requests.length)
    (hclosed : 16 ≤ s.host.output.length ∨ s.host.restartAfter ≠ none) : s.arrive r = s := by
  rw [State.arrive, if_neg (by omega)]
  exact (if_neg (Nat.not_lt.2 hfull)).trans (if_neg fun hopen => hclosed.elim (Nat.not_le.2 hopen.1) fun hne => hne hopen.2)

end

/-! ### The events -/

section
variable {s : State}

/-- A run of bytes reaches the receiver. -/
theorem exec_hostFrameReceived {bytes : List RxByte} {last : RxByte} (hlive : s.Live) (hlast : bytes.getLast? = some last) :
    exec (.hostFrameReceived bytes) s = .next ((s.advance last.time).takeBytes s.host.receiver bytes).startTransmit :=
  occur_of_some (f := fun s => match bytes.getLast? with
    | none => none
    | some latest => some ((s.advance latest.time).takeBytes s.host.receiver bytes)) hlive (by simp [hlast])

/-- A sync reaches the receiver. -/
theorem exec_frameSyncReceived (time : Nat) (hlive : s.Live) :
    exec (.frameSyncReceived time) s =
      .next ((s.advance time).takeBytes s.host.receiver [{ value := 0xA5, framingError := false, time := time }]).startTransmit :=
  occur_of_some (f := fun s => some
    ((s.advance time).takeBytes s.host.receiver [{ value := Config.syncByte, framingError := false, time := time }])) hlive rfl

/-- The frame timer expires in COLLECTING. -/
theorem exec_frameTimerExpiry_of_collecting {t : Nat} {got : List RxByte} (hlive : s.Live) (h : s.host.receiver = .collecting t got) :
    exec .frameTimerExpiry s = .next ((s.advance (t + 20)).takeBytes .hunting got).startTransmit :=
  occur_of_some (f := fun s => match s.host.receiver with
    | .hunting => none
    | .collecting t got => some ((s.advance (t + Config.frameMs)).takeBytes .hunting got)) hlive (by simp only [h]; rfl)

/-- The timer does not run in HUNTING. -/
theorem exec_frameTimerExpiry_of_hunting (h : s.host.receiver = .hunting) : exec .frameTimerExpiry s = .next s :=
  occur_of_none (f := fun s => match s.host.receiver with
    | .hunting => none
    | .collecting t got => some ((s.advance (t + Config.frameMs)).takeBytes .hunting got)) (by simp only [h])

/-- Bytes that leave the receiver in a state and complete frames. -/
theorem takeBytes_eq {start r : Receiver} {bytes : List RxByte} {frames : List HostRecord} (h : receive start bytes = (r, frames)) :
    s.takeBytes start bytes = frames.foldl State.arrive { s with host := { s.host with receiver := r } } := by
  rw [State.takeBytes, h]

/-- A good frame received in HUNTING arrives. -/
theorem exec_hostFrameReceived_frame {r : HostRecord} {bytes : List RxByte} {first last : RxByte} (hlive : s.Live)
    (hhunting : s.host.receiver = .hunting) (hbody : r.body.length ≤ 246) (hbytes : bytes.map RxByte.value = r.wire)
    (hclean : ∀ b ∈ bytes, b.framingError = false) (hfirst : bytes.head? = some first) (hlast : bytes.getLast? = some last)
    (htimes : ∀ b ∈ bytes, b.time ≤ first.time + 20) :
    exec (.hostFrameReceived bytes) s = .next ((s.advance last.time).arrive r).startTransmit := by
  have hsame : ({ s.advance last.time with host := { (s.advance last.time).host with receiver := .hunting } } : State) = s.advance last.time := by
    rw [← hhunting]
    rfl
  rw [exec_hostFrameReceived hlive hlast, hhunting, takeBytes_eq (receive_frame hbody hbytes hclean hfirst htimes), hsame]
  rfl

end

/-- Settles O44: by the receiver's equations, byte by byte, and the arrival of the frames it completes. -/
theorem hostFramesAreCollectedAndArrive : Obligations.HostFramesAreCollectedAndArrive := by
  refine ⟨?frame, ⟨receive_nil, fun b bs => ⟨receive_hunting_sync, receive_hunting_other⟩, ?collecting⟩, ⟨?run, ?sync, ?timer⟩,
    ?syncHunting, ?timerNone, ?timerSync, fun s => exec_frameTimerExpiry_of_hunting⟩
  case frame =>
    intro s r bytes first last hlive hhunting hbody hbytes hclean hfirst hlast htimes u
    have hexec : exec (.hostFrameReceived bytes) s = .next (u.arrive r).startTransmit :=
      exec_hostFrameReceived_frame hlive hhunting hbody hbytes hclean hfirst hlast htimes
    refine ⟨fun hkind => ?_, fun hkind => ⟨fun hroom => ?_, fun hfull hgate hrestart => ?_, fun hfull hclosed => ?_⟩⟩ <;> rw [hexec]
    · rw [arrive_of_no_request hkind]
    · rw [arrive_of_room (s := u) hkind hroom]
    · rw [arrive_of_busy (s := u) hkind hfull hgate hrestart]
    · rw [arrive_of_full (s := u) hkind hfull hclosed]
  case collecting =>
    intro t got b bs length bytes matched broken full
    have hlength : frameLength got b = length := by cases got <;> rfl
    have hmatched : FrameMatches (frameLength got b) bytes ↔ matched := by rw [hlength]; exact Iff.rfl
    refine ⟨fun h => receive_of_bad (frameVerdict_bad ?_), fun hbroken hfull hmatch => receive_of_good (frameVerdict_good ?_ ?_ ?_),
      fun hbroken hfull => receive_of_incomplete (frameVerdict_incomplete ?_ ?_)⟩
    · rw [hmatched, hlength]
      exact h
    · rw [hlength]
      exact hbroken
    · rw [hlength]
      exact hfull
    · exact hmatched.2 hmatch
    · rw [hlength]
      exact hbroken
    · rw [hlength]
      exact hfull
  case run =>
    intro s bytes last hlive hlast got u v
    have hexec := exec_hostFrameReceived hlive hlast
    refine ⟨hexec, fun hnone => hexec.trans ?_⟩
    rw [takeBytes_eq (r := got.1) (frames := []) (Prod.ext rfl hnone)]
    rfl
  case sync =>
    intro s time hlive
    rw [exec_frameSyncReceived time hlive,
      exec_hostFrameReceived (last := { value := 0xA5, framingError := false, time := time }) hlive rfl]
  case timer =>
    intro s t bytes hlive h got u
    exact exec_frameTimerExpiry_of_collecting hlive h
  case syncHunting =>
    intro s time hlive hhunting u
    have hreceive : receive .hunting [{ value := 0xA5, framingError := false, time := time }] = (.collecting time [], []) := by
      rw [receive_hunting_sync rfl rfl, receive_nil]
    rw [exec_frameSyncReceived time hlive, hhunting, takeBytes_eq hreceive]
    rfl
  case timerNone =>
    intro s t got hlive h hno u
    have hreceive : receive .hunting got = (.hunting, []) := by
      have hpassed := receive_hunting_of_no_sync hno []
      rwa [List.append_nil, receive_nil] at hpassed
    rw [exec_frameTimerExpiry_of_collecting hlive h, takeBytes_eq hreceive]
    rfl
  case timerSync =>
    intro s t sync before hlive h hno hvalue herror u
    have hreceive : receive .hunting (before ++ [sync]) = (.collecting sync.time [], []) := by
      rw [receive_hunting_of_no_sync hno, receive_hunting_sync hvalue herror, receive_nil]
    rw [exec_frameTimerExpiry_of_collecting hlive h, takeBytes_eq hreceive]
    rfl

end Sys2Proof.Machine
end

section
/-! # Layouts (R186) -/

namespace Sys2Proof.Machine

/-! ### Sets as bitmaps -/

/-- The bits of a set are its members. -/
theorem testBit_bitmapOf (l : List Bool) (i : Nat) : (bitmapOf l).testBit i = l.getD i false := by
  induction l generalizing i with
  | nil => simp [bitmapOf]
  | cons b l ih =>
    cases i with
    | zero => cases b <;> simp [bitmapOf, Nat.testBit_zero]
    | succ i =>
      rw [Nat.testBit_succ, List.getD_cons_succ, ← ih i]
      congr 1
      rw [bitmapOf]
      split <;> omega

/-! ### Numbers as bytes -/

/-- A number takes its width. -/
@[simp] theorem length_leBytes (width n : Nat) : (leBytes width n).length = width := by
  induction width generalizing n with
  | zero => rfl
  | succ width ih => simp [leBytes, ih]

/-- The bytes of a number spell it, modulo their width. -/
theorem ofLe_leBytes (width n : Nat) : ofLe (leBytes width n) = n % 256 ^ width := by
  induction width generalizing n with
  | zero => simp [leBytes, ofLe, Nat.mod_one]
  | succ width ih =>
    have hpow : 256 ^ (width + 1) = 256 * 256 ^ width := Nat.pow_succ'
    rw [leBytes, ofLe, ih, BitVec.toNat_ofNat, hpow, Nat.mod_mul]

/-- A byte is the number it spells. -/
theorem leBytes_toNat (b : Byte) : leBytes 1 b.toNat = [b] := by
  simp [leBytes]

/-- A flag is its number. -/
theorem flagByte_eq (b : Bool) : flagByte b = leBytes 1 b.toNat := by cases b <;> rfl

/-! ### Fields one after another -/

/-- The widths of some fields together. -/
def widths (fields : List (Nat × Nat)) : Nat := (fields.map Prod.fst).sum

section
variable (fields fields' : List (Nat × Nat))

theorem laid_nil : laid [] = [] := rfl

theorem laid_cons (f : Nat × Nat) : laid (f :: fields) = leBytes f.1 f.2 ++ laid fields := rfl

theorem laid_append : laid (fields ++ fields') = laid fields ++ laid fields' := List.flatMap_append

/-- Fields of one width. -/
theorem laid_map {α : Type} (width : Nat) (f : α → Nat) (l : List α) :
    laid (l.map fun a => (width, f a)) = l.flatMap fun a => leBytes width (f a) := List.flatMap_map ..

/-- Numbers of one width. -/
theorem laid_numbers (width : Nat) (l : List Nat) : laid (l.map fun n => (width, n)) = l.flatMap (leBytes width) := laid_map width id l

/-- Groups of fields. -/
theorem laid_flatMap {α : Type} (f : α → List (Nat × Nat)) (l : List α) : laid (l.flatMap f) = l.flatMap fun a => laid (f a) :=
  List.flatMap_assoc

/-- An optional field. -/
theorem laid_presence {α : Type} (f : α → List (Nat × Nat)) (o : Option α) :
    laid (presence (o.map f)) = optField (fun a => laid (f a)) o := by
  cases o <;> simp [presence, optField, laid_cons, laid_nil]

/-- The bytes are as many as the widths say. -/
theorem length_laid : (laid fields).length = widths fields := by
  induction fields with
  | nil => rfl
  | cons f fields ih => simp [laid_cons, ih, widths]

/-- Each field stands at the sum of the widths before it. -/
theorem fieldAt_laid (width n : Nat) : fieldAt (laid (fields ++ (width, n) :: fields')) (widths fields) width = n % 256 ^ width := by
  rw [fieldAt, laid_append, laid_cons, List.drop_left' (length_laid fields), List.take_left' (length_leBytes width n), ofLe_leBytes]

theorem widths_nil : widths [] = 0 := rfl

theorem widths_cons (f : Nat × Nat) : widths (f :: fields) = f.1 + widths fields := by simp [widths]

theorem widths_append : widths (fields ++ fields') = widths fields + widths fields' := by simp [widths]

/-- Fields of one width. -/
theorem widths_map {α : Type} (width : Nat) (f : α → Nat) (l : List α) : widths (l.map fun a => (width, f a)) = l.length * width := by
  induction l with
  | nil => simp [widths]
  | cons a l ih => simp only [List.map_cons, widths_cons, ih, List.length_cons, Nat.succ_mul]; omega

/-- Groups of bounded width. -/
theorem widths_flatMap_le {α : Type} {f : α → List (Nat × Nat)} {width : Nat} (h : ∀ a, widths (f a) ≤ width) (l : List α) :
    widths (l.flatMap f) ≤ l.length * width := by
  induction l with
  | nil => simp [widths]
  | cons a l ih =>
    have ha := h a
    simp only [List.flatMap_cons, widths_append, List.length_cons, Nat.succ_mul]
    omega

/-- Groups of one width. -/
theorem widths_flatMap {α : Type} {f : α → List (Nat × Nat)} {width : Nat} (h : ∀ a, widths (f a) = width) (l : List α) :
    widths (l.flatMap f) = l.length * width := by
  induction l with
  | nil => simp [widths]
  | cons a l ih =>
    have ha := h a
    simp only [List.flatMap_cons, widths_append, List.length_cons, Nat.succ_mul]
    omega

/-- An optional field of a bounded width. -/
theorem widths_presence_le {α : Type} {f : α → List (Nat × Nat)} {width : Nat} {o : Option α} (h : ∀ a, o = some a → widths (f a) ≤ width) :
    widths (presence (o.map f)) ≤ 1 + width := by
  cases o with
  | none => simp [presence, widths]
  | some a =>
    have ha := h a rfl
    simp only [Option.map_some, presence, widths_cons]
    omega

end

end Sys2Proof.Machine
end

section
/-! # The replies, laid out (R186, R189) -/

namespace Sys2Proof.Machine

/-! ### The fields of each reply, a width and a number each -/

/-- The whole seconds left of a timer (R21). -/
def State.secondsLeft (s : State) (t : Timer) : Nat := match t with
  | some due => (due - s.now + 999) / 1000
  | none => 0

/-- The time since the last accepted frame, 0 where there was none (R160). -/
def State.arrivalAge (s : State) (l : Link) : Nat := match l.lastArrival with
  | some t => min 4294967295 (s.now - t)
  | none => 0

/-- The time left of a sequence timer (R126). -/
def State.timerMs (s : State) (t : SeqTimer) : Nat := match t with
  | .running due => due - s.now
  | .stopped | .awaitingSend => 0

/-- The flags of the classes, as a bitmap. -/
def NoticeUnit.classBits (n : NoticeUnit) (f : ClassFlags → Bool) : Nat := bitmapOf [f n.session, f n.settle, f n.hold, f n.park, f n.field]

/-- Notice status (R173). -/
def State.noticeFields (s : State) : List (Nat × Nat) :=
  [(1, s.notices.classBits ClassFlags.latch), (1, s.notices.classBits ClassFlags.masked), (1, s.notices.classBits ClassFlags.pending),
    (2, bitmapOf (allPedestals.map fun p => (s.slot p).changed)), (2, bitmapOf s.notices.holdDetail.toList),
    (1, bitmapOf [s.notices.parkDetail.estop, s.notices.parkDetail.trip]), (1, s.notices.parkDetail.sag.toNat),
    (4, bitmapOf s.notices.parkDetail.faulted.toList), (1, restartCode s.notices.parkDetail.restart)] ++
    (s.notices.fieldDetail.conditions.toList.map fun c => (1, bitmapOf [c.silence, c.restart, c.meterFault, c.overdraw])) ++
    [(1, s.notices.fieldDetail.meterSilent.toNat), (1, s.notices.fieldDetail.busOff.toNat)]

/-- A pedestal's items of park status (R160). -/
def State.linkFields (s : State) (p : Pedestal) : List (Nat × Nat) :=
  [(1, (s.link p).state.code), (1, (s.link p).epoch.toNat)] ++ presence ((s.link p).register.map fun w => [(4, w)]) ++
    [(1, (s.link p).fresh.toNat),
     (4, s.arrivalAge (s.link p)),
     (1, (s.link p).query.isSome.toNat)]

/-- Park status (R175). -/
def State.parkFields (s : State) : List (Nat × Nat) :=
  [(1, s.control.commissioned.toNat), (1, s.clock.valid.toNat), (2, s.clock.day), (2, s.clock.minute), (1, s.openCount),
    (1, s.settlements.length), (2, s.alloc.pAv), (1, s.alloc.budget), (2, s.alloc.gridCap)] ++
    presence (s.alloc.stagedGridCap.map fun kw => [(2, kw)]) ++
    [(1, s.alloc.pointer.val + 1), (1, s.prot.latch.toNat),
     (1, bitmapOf [s.prot.sources.estop, s.prot.sources.trip, s.prot.sources.restart]),
     (1, bitmapOf [s.prot.estop.asserted, s.prot.trip.asserted]), (1, s.params.sagEnable.toNat), (1, s.prot.settling),
     (1, s.prot.live.code), (1, s.prot.derate.toNat), (2, s.secondsLeft s.prot.recoveryHold), (2, s.secondsLeft s.prot.silence),
     (1, if s.field.can = .busOff then 1 else 0), (1, s.field.queue.length)] ++
    allPedestals.flatMap s.linkFields ++ [(1, s.host.requests.length), (1, s.host.output.length)]

/-- A cap's number: 0xFFFF for none (R186). -/
def capNumber (c : Cap) : Nat := match c with
  | some n => n
  | none => 0xFFFF

/-- An interruption entry of the snapshot (R21). -/
def Interruption.snapshotFields (i : Interruption) : List (Nat × Nat) :=
  [(1, i.reason.code), (2, i.startDay), (2, i.startMinute)] ++ presence (i.duration.map fun n => [(2, n)])

/-- The accrual record (R21). -/
def Accrual.fields (c : Accrual) : List (Nat × Nat) :=
  presence (c.base.map fun w => [(4, w)]) ++ [(4, c.last), (4, c.energy)] ++ c.buckets.toList.map (fun n => (4, n)) ++
    [(8, c.energyAmount), (8, c.timeAmount), (8, c.idleAmount), (2, c.fee), (4, c.chargingMinutes), (4, c.idleMinutes),
     (1, c.grace), (4, c.hold), (1, c.topUps), (1, bitmapOf [c.topUpRequested, c.holdReached]), (1, c.strikes)]

/-- An open session (R21). -/
def State.sessionFields (s : State) (e : Session) : List (Nat × Nat) :=
  [(4, e.number), (1, e.tariff.val + 1), (2, e.version.toNat), (2, e.startDay), (2, e.startMinute)] ++
    presence (e.request.map fun n => [(2, n)]) ++ [(1, bitmapOf [e.reasons.link, e.reasons.cutoff, e.reasons.hold])] ++
    presence (e.finishCause.map fun c => [(1, c.code)]) ++
    [(1, e.endOrdered.toNat), (2, s.secondsLeft e.startWait), (2, s.secondsLeft e.resumeWindow),
     (2, s.secondsLeft e.extensionWindow), (1, e.interruptions.length)] ++ e.interruptions.flatMap Interruption.snapshotFields ++
    [(1, e.overflow)] ++ e.accrual.fields

/-- The session snapshot (R21). -/
def State.snapshotFields (s : State) (p : Pedestal) : List (Nat × Nat) :=
  [(1, (s.slot p).state.code), (1, (s.slot p).mode.code), (1, (s.slot p).changed.toNat)] ++
    presence ((s.slot p).token.map fun k => [(8, k.toNat)]) ++ [(2, s.secondsLeft (s.slot p).authWait)] ++
    presence ((s.slot p).session.map s.sessionFields) ++
    [(1, (s.allot p).grant), (2, (s.allot p).setpoint), (2, capNumber (s.allot p).cap)] ++
    presence ((s.allot p).stagedCap.map fun c => [(2, capNumber c)])

/-- An interruption entry of a settlement record (R76). -/
def Interruption.recordFields (i : Interruption) : List (Nat × Nat) :=
  [(1, i.reason.code), (2, i.startDay), (2, i.startMinute), (2, i.duration.getD 0)]

/-- A settlement record (R76). -/
def Settlement.fields (r : Settlement) : List (Nat × Nat) :=
  [(4, r.number), (1, r.pedestal.val + 1), (1, r.tariff.val + 1), (2, r.version.toNat)] ++
    presence (r.token.map fun k => [(8, k.toNat)]) ++
    [(2, r.startDay), (2, r.startMinute), (2, r.endDay), (2, r.endMinute)] ++
    presence (r.finishCause.map fun c => [(1, c.code)]) ++ [(1, r.closeCause.code), (4, r.energy)] ++
    r.buckets.toList.map (fun n => (4, n)) ++
    [(4, r.chargingMinutes), (4, r.idleMinutes), (2, r.fee), (8, r.energyAmount), (8, r.timeAmount), (8, r.idleAmount),
     (4, r.total)] ++ presence (r.waived.map fun n => [(8, n)]) ++
    [(4, r.hold), (1, r.topUps), (1, r.interruptions.length)] ++ r.interruptions.flatMap Interruption.recordFields ++
    [(1, r.overflow)]

/-- A module record (R126). -/
def State.moduleFields (s : State) (m : ModuleNo) : List (Nat × Nat) :=
  [(1, (s.module m).state.code), (1, (s.module m).window.first), (1, (s.module m).window.last)] ++
    presence ((s.module m).assigned.map fun p => [(1, p.val + 1)]) ++
    [(2, s.timerMs (s.module m).timer), (1, if (s.module m).timer = .awaitingSend then 1 else 0), (1, bitmapOf [(s.module m).releaseOnClose, (s.module m).forced])] ++
    presence ((s.module m).fault.map fun f => [(1, f.origin.code), (1, f.code.toNat)])

/-- The tariff contents (R48). -/
def TariffContents.fields (c : TariffContents) : List (Nat × Nat) :=
  [(2, c.fee), (2, c.basePrice), (2, c.timePrice), (2, c.idlePrice), (1, c.grace)] ++
    c.bands.toList.flatMap fun b => [(2, b.start), (2, b.stop), (2, b.price)]

/-! ### Each reply is its fields -/

section
variable (s : State)

theorem remainingS_eq (t : Timer) : s.remainingS t = s.secondsLeft t := by
  cases t <;> simp [State.remainingS, State.remainingMs, State.secondsLeft]

theorem sinceArrival_eq (l : Link) : s.sinceArrival l = s.arrivalAge l := by
  unfold State.sinceArrival State.arrivalAge
  cases l.lastArrival <;> rfl

theorem sequenceMs_eq (t : SeqTimer) : s.sequenceMs t = s.timerMs t := by cases t <;> rfl

theorem tokenBytes_eq : tokenBytes = fun k => leBytes 8 k.toNat := by
  funext k
  rw [tokenBytes]

theorem capCode_eq (c : Cap) : capCode c = capNumber c := by cases c <;> rfl

theorem noticeBytes_eq : s.noticeBytes = laid s.noticeFields := by
  simp only [State.noticeFields, laid_append, laid_cons, laid_nil, laid_map, List.append_nil, List.append_assoc, State.noticeBytes,
    flagByte_eq]
  rfl

theorem linkBytes_eq (p : Pedestal) : s.linkBytes p = laid (s.linkFields p) := by
  simp only [State.linkFields, laid_append, laid_cons, laid_nil, laid_presence, List.append_nil, List.append_assoc, State.linkBytes,
    flagByte_eq, sinceArrival_eq]

theorem parkBytes_eq : s.parkBytes = laid s.parkFields := by
  have hlinks : s.linkBytes = fun p => laid (s.linkFields p) := funext (linkBytes_eq s)
  have hbus : (s.field.can == .busOff).toNat = if s.field.can = .busOff then 1 else 0 := by cases s.field.can <;> rfl
  simp only [State.parkFields, laid_append, laid_cons, laid_nil, laid_presence, laid_flatMap, List.append_nil, List.append_assoc,
    State.parkBytes, State.partBytes, Apportioner.bytes, State.protectionBytes, State.fieldBytes, flagByte_eq, hlinks, hbus, remainingS_eq,
    SourceSet.code, numberOf]

theorem snapshotInterruption_eq (i : Interruption) : i.snapshotBytes = laid i.snapshotFields := by
  simp only [Interruption.snapshotFields, laid_append, laid_cons, laid_nil, laid_presence, List.append_nil, List.append_assoc,
    Interruption.snapshotBytes]

theorem accrualBytes_eq (a : Accrual) : a.bytes = laid a.fields := by
  simp only [Accrual.fields, laid_append, laid_cons, laid_nil, laid_presence, laid_numbers, List.append_nil, List.append_assoc, Accrual.bytes]

theorem sessionBytes_eq (e : Session) : s.sessionBytes e = laid (s.sessionFields e) := by
  have hentries : Interruption.snapshotBytes = fun i => laid i.snapshotFields := funext snapshotInterruption_eq
  simp only [State.sessionFields, laid_append, laid_cons, laid_nil, laid_presence, laid_flatMap, List.append_nil, List.append_assoc,
    State.sessionBytes, hentries, accrualBytes_eq, remainingS_eq, flagByte_eq, ReasonSet.code, numberOf]

theorem snapshotBytes_eq (p : Pedestal) : s.snapshotBytes p = laid (s.snapshotFields p) := by
  have hsession : s.sessionBytes = fun e => laid (s.sessionFields e) := funext (sessionBytes_eq s)
  simp only [State.snapshotFields, laid_append, laid_cons, laid_nil, laid_presence, List.append_nil, List.append_assoc,
    State.snapshotBytes, hsession, tokenBytes_eq, remainingS_eq, flagByte_eq, Allotment.bytes, capCode_eq]

theorem recordInterruption_eq : Interruption.recordBytes = fun i => laid i.recordFields := by
  funext i
  simp only [Interruption.recordFields, laid_cons, laid_nil, List.append_nil, List.append_assoc, Interruption.recordBytes]

theorem settlementBytes_eq (r : Settlement) : r.bytes = laid r.fields := by
  unfold Settlement.bytes
  simp only [Settlement.fields, laid_append, laid_cons, laid_nil, laid_presence, laid_numbers, laid_flatMap, List.append_nil,
    List.append_assoc, recordInterruption_eq, tokenBytes_eq, numberOf]

theorem moduleBytes_eq (m : ModuleNo) : s.moduleBytes m = laid (s.moduleFields m) := by
  have hawaiting : flagByte ((s.module m).timer == .awaitingSend) = leBytes 1 (if (s.module m).timer = .awaitingSend then 1 else 0) := by
    cases (s.module m).timer <;> simp [flagByte]
  simp only [State.moduleFields, laid_append, laid_cons, laid_nil, laid_presence, List.append_nil, List.append_assoc, State.moduleBytes,
    sequenceMs_eq, hawaiting, numberOf, leBytes_toNat]

theorem tariffBytes_eq (c : TariffContents) : c.bytes = laid c.fields := by
  have hband : Band.bytes = fun b => laid [(2, b.start), (2, b.stop), (2, b.price)] := by
    funext b
    simp only [laid_cons, laid_nil, List.append_nil, List.append_assoc, Band.bytes]
  simp only [TariffContents.fields, laid_append, laid_cons, laid_nil, laid_flatMap, List.append_nil, List.append_assoc,
    TariffContents.bytes, hband]

end

/-! ### Their lengths -/

section
variable (s : State)

theorem widths_noticeFields : widths s.noticeFields = 32 := by
  simp only [State.noticeFields, widths_append, widths_cons, widths_nil, widths_map, Vector.length_toList]

/-- A pedestal's items of park status take 13 bytes at most. -/
theorem widths_linkFields_le (p : Pedestal) : widths (s.linkFields p) ≤ 13 := by
  have hregister : widths (presence ((s.link p).register.map fun w => [(4, w)])) ≤ 1 + 4 := widths_presence_le fun _ _ => Nat.le_refl 4
  simp only [State.linkFields, widths_append, widths_cons, widths_nil]
  omega

theorem widths_parkFields_le : widths s.parkFields ≤ 240 := by
  have hstaged : widths (presence (s.alloc.stagedGridCap.map fun kw => [(2, kw)])) ≤ 1 + 2 := widths_presence_le fun _ _ => Nat.le_refl 2
  have hlinks : widths (allPedestals.flatMap s.linkFields) ≤ 16 * 13 := widths_flatMap_le (widths_linkFields_le s) allPedestals
  simp only [State.parkFields, widths_append, widths_cons, widths_nil]
  omega

/-- An interruption entry of the snapshot takes 8 bytes at most. -/
theorem widths_snapshotFields_interruption_le (i : Interruption) : widths i.snapshotFields ≤ 8 := by
  have hduration : widths (presence (i.duration.map fun n => [(2, n)])) ≤ 1 + 2 := widths_presence_le fun _ _ => Nat.le_refl 2
  simp only [Interruption.snapshotFields, widths_append, widths_cons, widths_nil]
  omega

theorem widths_accrualFields_le (a : Accrual) : widths a.fields ≤ 75 := by
  have hbase : widths (presence (a.base.map fun w => [(4, w)])) ≤ 1 + 4 := widths_presence_le fun _ _ => Nat.le_refl 4
  have hbuckets : widths (a.buckets.toList.map fun n => (4, n)) = 5 * 4 := by rw [widths_map 4 (fun n => n), Vector.length_toList]
  simp only [Accrual.fields, widths_append, widths_cons, widths_nil, hbuckets]
  omega

theorem widths_sessionFields_le {e : Session} (h : e.interruptions.length ≤ 4) : widths (s.sessionFields e) ≤ 133 := by
  have hrequest : widths (presence (e.request.map fun n => [(2, n)])) ≤ 1 + 2 := widths_presence_le fun _ _ => Nat.le_refl 2
  have hcause : widths (presence (e.finishCause.map fun c => [(1, c.code)])) ≤ 1 + 1 := widths_presence_le fun _ _ => Nat.le_refl 1
  have hentries : widths (e.interruptions.flatMap Interruption.snapshotFields) ≤ e.interruptions.length * 8 :=
    widths_flatMap_le widths_snapshotFields_interruption_le _
  have haccrual := widths_accrualFields_le e.accrual
  simp only [State.sessionFields, widths_append, widths_cons, widths_nil]
  omega

theorem widths_snapshotFields_le {p : Pedestal} (h : ∀ e, s.Holds p e → e.interruptions.length ≤ 4) :
    widths (s.snapshotFields p) ≤ 156 := by
  have htoken : widths (presence ((s.slot p).token.map fun k => [(8, k.toNat)])) ≤ 1 + 8 := widths_presence_le fun _ _ => Nat.le_refl 8
  have hsession : widths (presence ((s.slot p).session.map s.sessionFields)) ≤ 1 + 133 :=
    widths_presence_le fun e he => widths_sessionFields_le s (h e he)
  have hcap : widths (presence ((s.allot p).stagedCap.map fun c => [(2, capNumber c)])) ≤ 1 + 2 := widths_presence_le fun _ _ => Nat.le_refl 2
  simp only [State.snapshotFields, widths_append, widths_cons, widths_nil]
  omega

theorem widths_settlementFields_le {r : Settlement} (h : r.interruptions.length ≤ 4) : widths r.fields ≤ 134 := by
  have htoken : widths (presence (r.token.map fun k => [(8, k.toNat)])) ≤ 1 + 8 := widths_presence_le fun _ _ => Nat.le_refl 8
  have hcause : widths (presence (r.finishCause.map fun c => [(1, c.code)])) ≤ 1 + 1 := widths_presence_le fun _ _ => Nat.le_refl 1
  have hbuckets : widths (r.buckets.toList.map fun n => (4, n)) = 5 * 4 := by rw [widths_map 4 (fun n => n), Vector.length_toList]
  have hwaived : widths (presence (r.waived.map fun n => [(8, n)])) ≤ 1 + 8 := widths_presence_le fun _ _ => Nat.le_refl 8
  have hentries : widths (r.interruptions.flatMap Interruption.recordFields) = r.interruptions.length * 7 :=
    widths_flatMap (f := Interruption.recordFields) (width := 7) (fun _ => rfl) _
  simp only [Settlement.fields, widths_append, widths_cons, widths_nil, hbuckets, hentries]
  omega

theorem widths_tariffFields (c : TariffContents) : widths c.fields = 33 := by
  have hbands : widths (c.bands.toList.flatMap fun b => [(2, b.start), (2, b.stop), (2, b.price)]) = 4 * 6 := by
    rw [widths_flatMap (width := 6) (fun _ => rfl), Vector.length_toList]
  simp only [TariffContents.fields, widths_append, widths_cons, widths_nil, hbands]

end

/-- Settles O30: each reply is its fields, laid one after another, and as long as their widths. -/
theorem repliesAreLaidOutAsChapterTwelveSays : Obligations.RepliesAreLaidOutAsChapterTwelveSays := by
  refine ⟨by decide, ⟨testBit_bitmapOf, fun before after width n => fieldAt_laid before after width n, length_laid⟩,
    fun s => ⟨noticeBytes_eq s, ?_⟩, fun s => ⟨parkBytes_eq s, ?_⟩, fun s p => ⟨snapshotBytes_eq s p, fun h => ?_⟩,
    fun r => ⟨settlementBytes_eq r, fun h => ?_⟩, moduleBytes_eq, fun c => ⟨tariffBytes_eq c, ?_⟩⟩
  · rw [noticeBytes_eq, length_laid, widths_noticeFields]
  · rw [parkBytes_eq, length_laid]
    exact widths_parkFields_le s
  · rw [snapshotBytes_eq, length_laid]
    exact widths_snapshotFields_le s h
  · rw [settlementBytes_eq, length_laid]
    exact widths_settlementFields_le h
  · rw [tariffBytes_eq, length_laid, widths_tariffFields]

end Sys2Proof.Machine
end

section
/-! # What a step keeps: the port, the ledger and the power side

The laws of `Safety` read three parts of the state that hardly touch one another: the queues and the notice unit; the sessions' numbers,
tariffs and accrual records with the settlement records; and the power, from the allotments to the modules. For each part there is a
relation between two states that says that the laws of this part go on from the one to the other. The relations are reflexive and
transitive, so an operation keeps the laws where each of its writes does. -/

namespace Sys2Proof.Machine

/-! ### The queues and the notice unit (R149, R165, R170) -/

/-- The commands that wait are the same, and the laws of the queues and of the notice unit go on. -/
structure PortKeeps (s t : State) : Prop where
  pending : t.pending = s.pending
  queue : s.OnePerPlace → t.OnePerPlace
  requests : s.RequestsBounded → t.RequestsBounded
  flags : s.PendingSound → t.PendingSound

/-- What these laws read is the same. -/
structure PortSame (s t : State) : Prop where
  pending : t.pending = s.pending
  queue : t.field.queue = s.field.queue
  requests : t.host.requests = s.host.requests
  flags : ∀ c, t.notices.flags c = s.notices.flags c

section
variable {s t u : State}

theorem PortKeeps.refl (s : State) : PortKeeps s s := ⟨rfl, id, id, id⟩

theorem PortKeeps.trans (h : PortKeeps s t) (h' : PortKeeps t u) : PortKeeps s u :=
  ⟨h'.pending.trans h.pending, fun hs => h'.queue (h.queue hs), fun hs => h'.requests (h.requests hs), fun hs => h'.flags (h.flags hs)⟩

/-- A queue that is changed, and nothing else of this part. -/
theorem PortKeeps.of_queue (hpending : t.pending = s.pending) (hqueue : s.OnePerPlace → t.OnePerPlace)
    (hrequests : t.host.requests = s.host.requests) (hflags : ∀ c, t.notices.flags c = s.notices.flags c) : PortKeeps s t where
  pending := hpending
  queue := hqueue
  requests := by rw [State.RequestsBounded, State.RequestsBounded, hrequests]; exact id
  flags := by simp only [State.PendingSound, hflags]; exact id

theorem PortKeeps.of_same (h : PortSame s t) : PortKeeps s t :=
  .of_queue h.pending (by rw [State.OnePerPlace, State.OnePerPlace, h.queue]; exact id) h.requests h.flags

/-- A notice unit whose classes stay sound, and nothing else of this part. -/
theorem PortKeeps.of_flags (hpending : t.pending = s.pending) (hqueue : t.field.queue = s.field.queue)
    (hrequests : t.host.requests = s.host.requests) (hflags : s.PendingSound → t.PendingSound) : PortKeeps s t where
  pending := hpending
  queue := by rw [State.OnePerPlace, State.OnePerPlace, hqueue]; exact id
  requests := by rw [State.RequestsBounded, State.RequestsBounded, hrequests]; exact id
  flags := hflags

/-- A class whose flags are written soundly leaves the notice unit sound. -/
theorem pendingSound_setFlags {c : NoticeClass} {f : ClassFlags} (hf : f.pending = true → f.masked = true ∧ f.latch = true)
    (h : s.PendingSound) : (s.setFlags c f).PendingSound := by
  intro d
  by_cases hd : d = c
  · subst hd
    rw [flags_setFlags]
    exact hf
  · rw [flags_setFlags_ne _ _ hd]
    exact h d

/-- A status is set (R170). -/
theorem portKeeps_raise (s : State) (c : NoticeClass) : PortKeeps s (s.raise c) := by
  refine .of_flags (by simp) (by simp) (by simp) fun h => ?_
  unfold State.raise
  simp only []
  split
  · exact h
  · split
    next hmasked => exact pendingSound_setFlags (fun _ => ⟨hmasked, rfl⟩) h
    next hmasked =>
      have hnot : ¬ (s.notices.flags c).pending = true := fun hpending => hmasked (h c hpending).1
      exact pendingSound_setFlags (f := { s.notices.flags c with latch := true }) (fun hpending => absurd hpending hnot) h

/-- One more order in the queue, or another in its place. -/
theorem onePerPlace_placed {q : List Order} (o : Order) (h : q.Pairwise fun a b => a.place ≠ b.place) :
    (placed q o).Pairwise fun a b => a.place ≠ b.place := by
  unfold placed
  split
  next hnone =>
    rw [List.pairwise_append]
    refine ⟨h, List.pairwise_singleton _ _, fun a ha b hb => ?_⟩
    rw [List.mem_singleton.1 hb]
    simpa using List.find?_eq_none.1 hnone a ha
  next =>
    have hplace (x : Order) : (if x.place == o.place then o else x).place = x.place := by
      split
      next hx => exact (beq_iff_eq.1 hx).symm
      next => rfl
    rw [List.pairwise_map]
    simpa only [hplace] using h

/-- The orders of a batch, one after another. -/
theorem onePerPlace_foldl_placed (os : List Order) {q : List Order} (h : q.Pairwise fun a b => a.place ≠ b.place) :
    (os.foldl placed q).Pairwise fun a b => a.place ≠ b.place := by
  induction os generalizing q with
  | nil => exact h
  | cons o os ih => exact ih (onePerPlace_placed o h)

/-- A queue replaced by one that has an order at most in each place. -/
theorem portKeeps_setQueue {q : List Order} (h : s.OnePerPlace → q.Pairwise fun a b => a.place ≠ b.place) : PortKeeps s (s.setQueue q) :=
  .of_queue rfl h rfl fun _ => rfl

/-- An order in its place. -/
theorem portKeeps_replaceOrEnqueue (s : State) (o : Order) : PortKeeps s (s.replaceOrEnqueue o) := by
  rw [replaceOrEnqueue_eq]
  exact portKeeps_setQueue (onePerPlace_placed o)

/-- The orders of a pedestal are dropped. -/
theorem portKeeps_dropOrders (s : State) (p : Pedestal) : PortKeeps s (s.dropOrders p) :=
  portKeeps_setQueue fun h => h.sublist List.filter_sublist

/-- A record at the tail of the output, or a link written, is none of the port's laws. -/
theorem portKeeps_pushOutput (s : State) (r : HostRecord) : PortKeeps s (s.pushOutput r) := .of_same ⟨rfl, rfl, rfl, fun _ => rfl⟩

theorem portKeeps_setLink (s : State) (p : Pedestal) (x : Link) : PortKeeps s (s.setLink p x) := .of_same ⟨rfl, rfl, rfl, fun _ => rfl⟩

/-- A query that ends. -/
theorem portKeeps_endQuery (s : State) (p : Pedestal) (code : ResultCode) (data : List Byte) : PortKeeps s (s.endQuery p code data) := by
  unfold State.endQuery
  split
  · exact .refl s
  · exact (portKeeps_setLink s p _).trans (portKeeps_pushOutput _ _)

/-- An order for an empty place. -/
theorem portKeeps_enqueue {o : Order} (h : s.unsentAt o.place = none) : PortKeeps s (s.enqueue o) := by
  refine portKeeps_setQueue fun hqueue => ?_
  rw [← placed_of_free (unsentAt_eq_none.1 h)]
  exact onePerPlace_placed o hqueue

/-- An order over what its place holds. -/
theorem portKeeps_replaceOrder {o : Order} (h : s.unsentAt o.place ≠ none) : PortKeeps s (s.replaceOrder o) := by
  have htaken : s.replaceOrEnqueue o = s.replaceOrder o := by
    unfold State.replaceOrEnqueue
    split
    next hnone => exact absurd hnone h
    next => rfl
  rw [← htaken]
  exact portKeeps_replaceOrEnqueue s o

/-- A session order (R150). -/
theorem portKeeps_placeSessionOrder {p : Pedestal} {o : Order} (hplace : o.place = .other p) : PortKeeps s (s.placeSessionOrder p o) := by
  unfold State.placeSessionOrder
  split
  next hempty => exact portKeeps_enqueue (hplace ▸ hempty)
  next => exact .refl s
  next hquery => exact (portKeeps_replaceOrder (by rw [hplace, hquery]; simp)).trans (portKeeps_endQuery _ _ _ _)
  next hsome => exact portKeeps_replaceOrder (by rw [hplace, hsome]; simp)

/-- A PD-RESET, behind the orders it drops (R156). -/
theorem portKeeps_placeReset (s : State) (p : Pedestal) : PortKeeps s (s.placeOrder (.reset p)) := by
  refine (portKeeps_dropOrders s p).trans (portKeeps_enqueue ?_)
  rw [unsentAt_eq_none]
  intro o ho
  have hkept := (List.mem_filter.1 ho).2
  simp only [Bool.and_eq_true, bne_iff_ne] at hkept
  exact hkept.2

/-- Any order but a PD-QUERY. -/
theorem portKeeps_placeOrder (s : State) {o : Order} (h : ∀ p e c, o ≠ .query p e c) : PortKeeps s (s.placeOrder o) := by
  cases o with
  | setpoint p kw => exact portKeeps_replaceOrEnqueue s _
  | beginSession p n => exact portKeeps_placeSessionOrder rfl
  | endSession p => exact portKeeps_placeSessionOrder rfl
  | refuse p => exact portKeeps_placeSessionOrder rfl
  | reset p => exact portKeeps_placeReset s p
  | query p e c => exact absurd rfl (h p e c)
  | precharge m p => exact portKeeps_replaceOrEnqueue s _
  | close m => exact portKeeps_replaceOrEnqueue s _
  | ramp m => exact portKeeps_replaceOrEnqueue s _
  | openContact m => exact portKeeps_replaceOrEnqueue s _

/-- A batch of orders, with the allotments and the pool written. -/
theorem portKeeps_repowered (s : State) (a : Pedestal → Allotment) (g : ModuleNo → ModuleRecord) (os : List Order) :
    PortKeeps s (s.repowered a g os) := .of_queue rfl (onePerPlace_foldl_placed os) rfl fun _ => rfl

/-- A detail of a class written, and its status set. -/
theorem portKeeps_raise_of_details {c : NoticeClass} (h : PortSame s t) : PortKeeps s (t.raise c) :=
  (PortKeeps.of_same h).trans (portKeeps_raise t c)

/-- The head of the queue moves into the buffer. -/
theorem portKeeps_startTransmit (s : State) : PortKeeps s s.startTransmit := by
  refine .of_queue (by simp) (fun h => ?_) (by simp) (by simp)
  unfold State.startTransmit
  split
  next hcan hbuffer hqueue =>
    rw [State.OnePerPlace, hqueue] at h
    exact (List.pairwise_cons.1 h).2
  next => exact h

end

/-! ### The sessions and the records (R9, R44, R56, R77, R80) -/

/-- A session is still the same one: its number, its tariff and the version, with an accrual record that sums where it did. -/
def Session.Alike (e e' : Session) : Prop :=
  e'.number = e.number ∧ e'.tariff = e.tariff ∧ e'.version = e.version ∧ (e.accrual.Sums → e'.accrual.Sums)

/-- The laws of sessions and records go on; those of the reference counts under a condition. -/
structure LedgerKeeps (G : Prop) (s t : State) : Prop where
  places : s.PlacesBounded → t.PlacesBounded
  money : s.MoneySound → t.MoneySound
  numbers : s.NumbersSound → t.NumbersSound
  references : G → s.ReferencesSound → t.ReferencesSound

/-- The same sessions are open, and the records, the numbers issued and the tariffs are as they were. -/
structure LedgerSame (s t : State) : Prop where
  sessions : ∀ p, Option.Rel Session.Alike (s.slot p).session (t.slot p).session
  settlements : t.settlements = s.settlements
  issued : t.nextSession = s.nextSession ∧ t.exhausted = s.exhausted
  tariffs : ∀ n, t.tariff n = s.tariff n

section
variable {G : Prop} {s t u : State}

theorem Session.Alike.refl (e : Session) : e.Alike e := ⟨rfl, rfl, rfl, id⟩

/-- A slot's session, whether open or not, is like itself. -/
theorem alike_refl (x : Option Session) : Option.Rel Session.Alike x x := by
  cases x with
  | none => exact .none
  | some e => exact .some (.refl e)

/-- A session changed in a way that keeps it the same one. -/
theorem alike_map {f : Session → Session} (hf : ∀ e : Session, e.Alike (f e)) (x : Option Session) : Option.Rel Session.Alike x (x.map f) := by
  cases x with
  | none => exact .none
  | some e => exact .some (hf e)

theorem LedgerKeeps.refl (s : State) : LedgerKeeps G s s := ⟨id, id, id, fun _ => id⟩

theorem LedgerKeeps.trans (h : LedgerKeeps G s t) (h' : LedgerKeeps G t u) : LedgerKeeps G s u :=
  ⟨fun hs => h'.places (h.places hs), fun hs => h'.money (h.money hs), fun hs => h'.numbers (h.numbers hs),
    fun g hs => h'.references g (h.references g hs)⟩

section
variable (h : LedgerSame s t)
include h

/-- A session of the later state was open in the earlier one. -/
theorem LedgerSame.holds {p : Pedestal} {e' : Session} (he' : t.Holds p e') : ∃ e : Session, s.Holds p e ∧ e.Alike e' := by
  have hrel := h.sessions p
  rw [show (t.slot p).session = some e' from he'] at hrel
  generalize hx : (s.slot p).session = x at hrel
  cases hrel with
  | some halike => exact ⟨_, hx, halike⟩

theorem LedgerSame.isSome (p : Pedestal) : (t.slot p).session.isSome = (s.slot p).session.isSome := by
  have hrel := h.sessions p
  generalize (s.slot p).session = x, (t.slot p).session = y at hrel
  cases hrel <;> rfl

theorem LedgerSame.tariffOf (p : Pedestal) : (t.slot p).session.map Session.tariff = (s.slot p).session.map Session.tariff := by
  have hrel := h.sessions p
  generalize (s.slot p).session = x, (t.slot p).session = y at hrel
  cases hrel with
  | none => rfl
  | some halike => exact congrArg some halike.2.1

theorem LedgerSame.numbers (hs : s.NumbersSound) : t.NumbersSound := by
  obtain ⟨hlow, hhigh, hissued, hunique, hrecords, hapart, hpairwise⟩ := hs
  have hsame (n : Nat) : t.Issued n ↔ s.Issued n := by simp only [State.Issued, h.issued]
  have hnumber {p : Pedestal} {e' : Session} (he' : t.Holds p e') : ∃ e, s.Holds p e ∧ e'.number = e.number := by
    obtain ⟨e, he, halike⟩ := h.holds he'
    exact ⟨e, he, halike.1⟩
  refine ⟨h.issued.1 ▸ hlow, h.issued.1 ▸ hhigh, fun p e he => ?_, fun p q e f he hf heq => ?_, fun r hr => ?_, fun r hr p e he => ?_, ?_⟩
  · obtain ⟨e₀, he₀, hn⟩ := hnumber he
    rw [hsame, hn]
    exact hissued p e₀ he₀
  · obtain ⟨e₀, he₀, hn⟩ := hnumber he
    obtain ⟨f₀, hf₀, hm⟩ := hnumber hf
    exact hunique p q e₀ f₀ he₀ hf₀ (hn.symm.trans (heq.trans hm))
  · rw [h.settlements] at hr
    exact (hsame _).2 (hrecords r hr)
  · rw [h.settlements] at hr
    obtain ⟨e₀, he₀, hn⟩ := hnumber he
    rw [hn]
    exact hapart r hr p e₀ he₀
  · rw [h.settlements]
    exact hpairwise

/-- The laws of this part where nothing of it changes. -/
theorem LedgerKeeps.of_same : LedgerKeeps G s t where
  places := by
    simp only [State.PlacesBounded, State.openCount, h.isSome, h.settlements]
    exact id
  money := fun ⟨hsums, hsound⟩ => by
    refine ⟨fun p e' he' => ?_, fun r hr => hsound r (h.settlements ▸ hr)⟩
    obtain ⟨e, he, halike⟩ := h.holds he'
    exact halike.2.2.2 (hsums p e he)
  numbers := h.numbers
  references := fun _ hs n => by
    obtain ⟨hcount, hversion⟩ := hs n
    refine ⟨?_, fun p e' he' htariff => ?_⟩
    · simp only [h.tariffs, State.sessionsOn, h.tariffOf]
      exact hcount
    · obtain ⟨e, he, -, htariff', hversion', -⟩ := h.holds he'
      rw [h.tariffs, hversion']
      exact hversion p e he (htariff'.symm.trans htariff)

end

/-- Slots whose sessions stay as they are. -/
theorem LedgerSame.of_slots (hsession : ∀ p, (t.slot p).session = (s.slot p).session) (hsettlements : t.settlements = s.settlements)
    (hissued : t.nextSession = s.nextSession ∧ t.exhausted = s.exhausted) (htariffs : ∀ n, t.tariff n = s.tariff n) : LedgerSame s t :=
  ⟨fun p => by rw [hsession]; exact alike_refl _, hsettlements, hissued, htariffs⟩

/-- A slot written with a session like the one it holds. -/
theorem ledgerSame_setSlot {p : Pedestal} {x : Slot} (h : Option.Rel Session.Alike (s.slot p).session x.session) : LedgerSame s (s.setSlot p x) := by
  refine ⟨fun q => ?_, rfl, ⟨rfl, rfl⟩, fun _ => rfl⟩
  by_cases hq : q = p
  · subst hq
    rwa [slot_setSlot]
  · rw [slot_setSlot_ne _ _ hq]
    exact alike_refl _

end

end Sys2Proof.Machine
end

section
/-! # The ledger at the opening and the close of a session (R8, R17) -/

namespace Sys2Proof.Machine

/-! ### Counting pedestals -/

/-- A pedestal fewer. -/
theorem length_filter_of_dropped {f g : Pedestal → Bool} {p : Pedestal} (hf : f p = true) (hg : g p = false)
    (hne : ∀ q, q ≠ p → g q = f q) : (allPedestals.filter g).length + 1 = (allPedestals.filter f).length :=
  length_filter_add_one allPedestals_nodup (mem_allPedestals p) hf hg hne

section
variable {G : Prop} {s t : State} {p : Pedestal} {e : Session}

/-! ### A close -/

/-- The record of a close is sound where the accrual record sums (R73, R74). -/
theorem sound_closingRecord (token : Option Token) (cause : CloseCause) (day minute : Nat) (h : e.accrual.Sums) :
    (closingRecord p token (e.closed day minute) cause day minute).Sound := by
  rw [closingRecord_closed]
  refine ⟨Nat.min_le_right _ _, ?_, h⟩
  have hsum : e.accrual.componentSum = e.accrual.fee + (e.accrual.energyAmount + 500) / 1000 + (e.accrual.timeAmount + 500) / 1000 +
      (e.accrual.idleAmount + 500) / 1000 := rfl
  simp only [hsum]
  split
  next hle => simp only [Option.getD_none]; omega
  next hlt => simp only [Option.getD_some]; omega

/-- The ledger goes on as an open session becomes a sound record and lets its tariff go. -/
theorem ledgerKeeps_of_closed {r : Settlement} (he : s.Holds p e) (hp : (t.slot p).session = none)
    (hne : ∀ q, q ≠ p → (t.slot q).session = (s.slot q).session) (hsettlements : t.settlements = s.settlements ++ [r])
    (hnumber : r.number = e.number) (hsound : e.accrual.Sums → r.Sound)
    (hissued : t.nextSession = s.nextSession ∧ t.exhausted = s.exhausted)
    (htariffs : t.tariffs = s.tariffs.set e.tariff.val { s.tariff e.tariff with references := (s.tariff e.tariff).references - 1 }) :
    LedgerKeeps G s t := by
  have he' : (s.slot p).session = some e := he
  have hold {q : Pedestal} {f : Session} (hf : t.Holds q f) : s.Holds q f := by
    have hf' : (t.slot q).session = some f := hf
    have hq : q ≠ p := by rintro rfl; simp [hp] at hf'
    exact (hne q hq).symm.trans hf'
  refine ⟨fun h => ?_, fun ⟨hsums, hrecords⟩ => ⟨fun q f hf => hsums q f (hold hf), fun x hx => ?_⟩,
    numbersSound_closed he hp hne hsettlements hnumber hissued.1 hissued.2, fun _ h n => ?_⟩
  · have hcount := openCount_of_closed he hp hne
    rw [State.PlacesBounded, hsettlements, List.length_append, List.length_singleton]
    rw [State.PlacesBounded] at h
    omega
  · rw [hsettlements, List.mem_append, List.mem_singleton] at hx
    rcases hx with hx | rfl
    · exact hrecords x hx
    · exact hsound (hsums p e he)
  · obtain ⟨hcount, hversion⟩ := h n
    by_cases hn : n = e.tariff
    · subst hn
      have htariff : t.tariff e.tariff = { s.tariff e.tariff with references := (s.tariff e.tariff).references - 1 } := by
        simp [State.tariff, htariffs]
      have hdropped : t.sessionsOn e.tariff + 1 = s.sessionsOn e.tariff :=
        length_filter_of_dropped (f := fun q => ((s.slot q).session.map Session.tariff) == some e.tariff) (p := p) (by simp [he'])
          (by simp [hp]) fun q hq => by rw [hne q hq]
      rw [htariff]
      exact ⟨by simp only; omega, fun q f hf => hversion q f (hold hf)⟩
    · have hval : e.tariff.val ≠ n.val := fun hv => hn (Fin.ext hv.symm)
      have htariff : t.tariff n = s.tariff n := by simp [State.tariff, htariffs, hval]
      have hsame : t.sessionsOn n = s.sessionsOn n := by
        refine congrArg List.length (List.filter_congr fun q _ => ?_)
        by_cases hq : q = p
        · subst hq
          simp [hp, he', Ne.symm hn]
        · rw [hne q hq]
      rw [htariff, hsame]
      exact ⟨hcount, fun q f hf => hversion q f (hold hf)⟩

/-- A close (R17). -/
theorem ledgerKeeps_closeSession (s : State) (p : Pedestal) (cause : CloseCause) : LedgerKeeps G s (s.closeSession p cause) := by
  cases hsession : (s.slot p).session with
  | none => rw [closeSession_of_none _ hsession]; exact .refl s
  | some e =>
    obtain ⟨hslots, hsettlements, htariffs, -, -, -, -, -, -, hnext, hexhausted, -, -, -, -⟩ :=
      closeSettlesTheSession s p cause e hsession
    refine ledgerKeeps_of_closed hsession ?_ (fun q hq => ?_) hsettlements rfl (fun hsums => ?_) ⟨hnext, hexhausted⟩ htariffs
    · rw [slot_of_slots_set hslots]
    · have hval : p.val ≠ q.val := fun hv => hq (Fin.ext hv.symm)
      simp [State.slot, hslots, hval]
    · have hsound := sound_closingRecord (p := p) (s.slot p).token cause
        (if cause = .restart then s.clock.stampedDay else s.clock.day)
        (if cause = .restart then s.clock.stampedMinute else s.clock.minute) hsums
      rw [closingRecord_closed] at hsound
      exact hsound

/-! ### An opening -/

/-- The ledger goes on as a session is opened with the next number on an ACTIVE tariff slot. -/
theorem ledgerKeeps_of_opened {n : TariffNo} (hsession : (t.slot p).session = some e)
    (hne : ∀ q, q ≠ p → (t.slot q).session = (s.slot q).session) (hsettlements : t.settlements = s.settlements)
    (hnumber : e.number = s.nextSession) (hsums : e.accrual.Sums) (htariff : e.tariff = n) (hversion : e.version = (s.tariff n).version)
    (hopen : s.exhausted = false)
    (hnext : t.nextSession = if s.nextSession < 4294967295 then s.nextSession + 1 else s.nextSession)
    (hexhausted : t.exhausted = decide (4294967295 ≤ s.nextSession))
    (htariffs : t.tariffs = s.tariffs.set n.val { s.tariff n with references := (s.tariff n).references + 1 })
    (hactive : (s.tariff n).state = .active) (hroom : s.openCount + s.settlements.length < 24)
    (hfree : G → (s.slot p).session = none) : LedgerKeeps G s t := by
  have hsame {q : Pedestal} {f : Session} (hq : q ≠ p) (hf : t.Holds q f) : s.Holds q f := (hne q hq).symm.trans hf
  have hnew {f : Session} (hf : t.Holds p f) : f = e := Option.some.inj (hf.symm.trans hsession)
  refine ⟨fun _ => ?_, fun ⟨hall, hrecords⟩ => ⟨fun q f hf => ?_, by rwa [hsettlements]⟩, fun h => ?_, fun g h k => ?_⟩
  · have hcount : t.openCount ≤ s.openCount + 1 := by
      cases hp : (s.slot p).session with
      | none =>
        have hgrown : s.openCount + 1 = t.openCount :=
          length_filter_of_dropped (f := fun q => (t.slot q).session.isSome) (p := p) (by simp [hsession]) (by simp [hp])
            fun q hq => by rw [hne q hq]
        omega
      | some f =>
        have hequal : t.openCount = s.openCount := by
          refine congrArg List.length (List.filter_congr fun q _ => ?_)
          by_cases hq : q = p
          · subst hq; simp [hp, hsession]
          · rw [hne q hq]
        omega
    rw [State.PlacesBounded, hsettlements]
    omega
  · by_cases hq : q = p
    · subst hq
      rw [hnew hf]
      exact hsums
    · exact hall q f (hsame hq hf)
  · obtain ⟨hlow, hhigh, hissued, hunique, hrecords, hapart, hpairwise⟩ := h
    have hbelow {k : Nat} (hk : s.Issued k) : 1 ≤ k ∧ k < s.nextSession := by
      obtain ⟨hk1, hk | ⟨hk, -⟩⟩ := hk
      · exact ⟨hk1, hk⟩
      · rw [hopen] at hk
        cases hk
    have hgrown {k : Nat} (hk1 : 1 ≤ k) (hk : k ≤ s.nextSession) : t.Issued k := by
      refine ⟨hk1, ?_⟩
      rw [hnext, hexhausted, decide_eq_true_eq]
      split <;> omega
    refine ⟨by rw [hnext]; split <;> omega, by rw [hnext]; split <;> omega, fun q f hf => ?_, fun q q' f f' hf hf' heq => ?_,
      fun r hr => ?_, fun r hr q f hf => ?_, by rwa [hsettlements]⟩
    · by_cases hq : q = p
      · subst hq
        rw [hnew hf, hnumber]
        exact hgrown hlow (Nat.le_refl _)
      · obtain ⟨hk1, hk⟩ := hbelow (hissued q f (hsame hq hf))
        exact hgrown hk1 (Nat.le_of_lt hk)
    · by_cases hq : q = p <;> by_cases hq' : q' = p
      · rw [hq, hq']
      · subst hq
        have hk := (hbelow (hissued q' f' (hsame hq' hf'))).2
        rw [← heq, hnew hf, hnumber] at hk
        omega
      · subst hq'
        have hk := (hbelow (hissued q f (hsame hq hf))).2
        rw [heq, hnew hf', hnumber] at hk
        omega
      · exact hunique q q' f f' (hsame hq hf) (hsame hq' hf') heq
    · obtain ⟨hk1, hk⟩ := hbelow (hrecords r (hsettlements ▸ hr))
      exact hgrown hk1 (Nat.le_of_lt hk)
    · rw [hsettlements] at hr
      by_cases hq : q = p
      · subst hq
        rw [hnew hf, hnumber]
        exact Nat.ne_of_lt (hbelow (hrecords r hr)).2
      · exact hapart r hr q f (hsame hq hf)
  · obtain ⟨hcount, hrecorded⟩ := h k
    have hp := hfree g
    by_cases hk : k = n
    · subst hk
      have hk : t.tariff k = { s.tariff k with references := (s.tariff k).references + 1 } := by simp [State.tariff, htariffs]
      have hgrown : s.sessionsOn k + 1 = t.sessionsOn k :=
        length_filter_of_dropped (f := fun q => ((t.slot q).session.map Session.tariff) == some k) (p := p) (by simp [hsession, htariff])
          (by simp [hp]) fun q hq => by rw [hne q hq]
      rw [hk]
      refine ⟨by simp only; omega, fun q f hf hfk => ?_⟩
      by_cases hq : q = p
      · subst hq
        rw [hnew hf]
        exact ⟨by simp [hactive], hversion.symm⟩
      · exact hrecorded q f (hsame hq hf) hfk
    · have hval : n.val ≠ k.val := fun hv => hk (Fin.ext hv.symm)
      have hkeep : t.tariff k = s.tariff k := by simp [State.tariff, htariffs, hval]
      have hsessions : t.sessionsOn k = s.sessionsOn k := by
        refine congrArg List.length (List.filter_congr fun q _ => ?_)
        by_cases hq : q = p
        · subst hq
          simp [hsession, hp, htariff, Ne.symm hk]
        · rw [hne q hq]
      rw [hkeep, hsessions]
      refine ⟨hcount, fun q f hf hfk => ?_⟩
      by_cases hq : q = p
      · subst hq
        rw [hnew hf, htariff] at hfk
        exact absurd hfk.symm hk
      · exact hrecorded q f (hsame hq hf) hfk

/-- The new session (R8, R55). -/
theorem sums_openedAccrual (base : Option Nat) (hold : Nat) : (openedAccrual base hold).Sums := by
  simp [Accrual.Sums, openedAccrual]

/-- An AUTHORISE opens a session (R8). -/
theorem ledgerKeeps_openSession {n : TariffNo} {hold : Nat} {cap : Cap} (hopen : s.exhausted = false)
    (hactive : (s.tariff n).state = .active) (hroom : s.openCount + s.settlements.length < 24)
    (hfree : G → (s.slot p).session = none) : LedgerKeeps G s (s.openSession p n hold cap) := by
  have hopening := opening_eq (p := p) (n := n) (hold := hold) (cap := cap) hopen
  have hkeep : (s.openSession p n hold cap) = ((s.opening p n hold cap).goTo p .starting).placeOrder (.beginSession p (s.nextSession % 65536)) := rfl
  rw [hkeep]
  refine ledgerKeeps_of_opened (p := p) (e := s.openedSession p n hold) (n := n) ?_ (fun q hq => ?_) ?_ rfl (sums_openedAccrual _ _) rfl rfl hopen
    ?_ ?_ ?_ hactive hroom hfree
  · have hslot := slot_of_slots_set (congrArg State.slots hopening)
    simp [goTo_eq, hslot]
  · have hval : p.val ≠ q.val := fun hv => hq (Fin.ext hv.symm)
    have hslot : (s.opening p n hold cap).slot q = s.slot q := by simp [State.slot, hopening, hval]
    simp [goTo_eq, hslot, hq]
  · simp [hopening]
  · simp [hopening]
  · simp [hopening]
  · simp [hopening]

end

end Sys2Proof.Machine
end

section
/-! # Module records stay sound (R110 to R112) -/

namespace Sys2Proof.Machine

/-- A module lasts: its record stays sound, its window stays, and an ABSENT one stays ABSENT. -/
structure ModuleRecord.Lasts (r r' : ModuleRecord) : Prop where
  sound : r.Sound → r'.Sound
  window : r'.window = r.window
  present : r'.state ≠ .absent → r.state ≠ .absent

/-- A module goes on: it lasts, and it is switched onto a pedestal only where it was before. -/
structure ModuleRecord.Goes (r r' : ModuleRecord) : Prop extends r.Lasts r' where
  switching : r'.state.switching = true → r.state.switching = true

section
variable {r r' r'' : ModuleRecord}

theorem ModuleRecord.Goes.refl (r : ModuleRecord) : r.Goes r := ⟨⟨id, rfl, id⟩, id⟩

theorem ModuleRecord.Goes.trans (h : r.Goes r') (h' : r'.Goes r'') : r.Goes r'' :=
  ⟨⟨fun hr => h'.sound (h.sound hr), h'.window.trans h.window, fun hr => h.present (h'.present hr)⟩, fun hr => h.switching (h'.switching hr)⟩

/-- A module that is not switched onto a pedestal does not come to be. -/
theorem ModuleRecord.Goes.off (h : r.Goes r') (hoff : r.state.switching = false) : r'.state.switching = false := by
  rw [← Bool.not_eq_true] at hoff ⊢
  exact fun hswitch => hoff (h.switching hswitch)

/-- A state that names a pedestal or is not switched is no ABSENT one. -/
theorem present_of_state {st : ModuleState} (h : st.names = true ∨ st = .free ∨ st = .faulted) : st ≠ .absent := by
  rintro rfl
  simp [ModuleState.names] at h

/-- A module in another present state lasts where the record is sound for it. -/
theorem ModuleRecord.Goes.of_present (hpresent : r.state ≠ .absent) (hwindow : r'.window = r.window)
    (hswitching : r'.state.switching = true → r.state.switching = true) (hsound : r.Sound → r'.Sound) : r.Goes r' :=
  ⟨⟨hsound, hwindow, fun _ => hpresent⟩, hswitching⟩

/-- A module that names a pedestal is opened (R115, R118, R119, R124). -/
theorem goes_opened (hnames : r.state.names = true) (due : Nat) (mark : Bool) :
    r.Goes { r with state := .contactOpen, timer := .running due, releaseOnClose := false, forced := mark } := by
  refine .of_present (present_of_state (Or.inl hnames)) rfl (by simp [ModuleState.switching]) ?_
  rintro ⟨hassigned, hreach, hfault, hcode, -, -, -, -, hpresent, hwindow⟩
  have hnone : r.fault.isSome ≠ true := fun hsome => by simp [hfault.1 hsome, ModuleState.names] at hnames
  have husable := hpresent (present_of_state (Or.inl hnames))
  simp_all [ModuleRecord.Sound, ModuleState.names]

/-- An open module is FREE (R120). -/
theorem goes_freed (hstate : r.state = .contactOpen) :
    r.Goes { r with state := .free, timer := .stopped, assigned := none, forced := false } := by
  refine .of_present (by simp [hstate]) rfl (by simp [ModuleState.switching]) ?_
  rintro ⟨-, -, hfault, hcode, hmark, -, -, -, hpresent, hwindow⟩
  simp_all [ModuleRecord.Sound, ModuleState.names]

/-- A module whose contactor has closed (R116). -/
theorem goes_closed (hstate : r.state = .contactClose) (hmark : r.releaseOnClose = false) :
    r.Goes { r with state := .assigned, timer := .stopped } := by
  refine .of_present (by simp [hstate]) rfl (by simp [ModuleState.switching, hstate]) ?_
  rintro ⟨hassigned, hreach, hfault, hcode, -, hforced, -, -, hpresent, hwindow⟩
  simp_all [ModuleRecord.Sound, ModuleState.names]

/-- A module that is to be released once it has closed (R118). -/
theorem goes_marked (hstate : r.state = .contactClose) : r.Goes { r with releaseOnClose := true } := by
  refine .of_present (by simp [hstate]) rfl id ?_
  rintro ⟨hassigned, hreach, hfault, hcode, -, hforced, htimer, hsend, hpresent, hwindow⟩
  simp_all [ModuleRecord.Sound, ModuleState.names]

/-- A module that ramps down (R116, R118). -/
theorem goes_ramped (hstate : r.state = .contactClose ∨ r.state = .assigned) (due : Nat) :
    r.Goes { r with state := .rampDown, timer := .running due, releaseOnClose := false } := by
  have hnames : r.state.names = true := by rcases hstate with h | h <;> simp [h, ModuleState.names]
  refine .of_present (present_of_state (Or.inl hnames)) rfl (fun _ => by rcases hstate with h | h <;> simp [h, ModuleState.switching]) ?_
  rintro ⟨hassigned, hreach, hfault, hcode, -, hforced, -, -, hpresent, hwindow⟩
  have hnone : r.fault.isSome ≠ true := fun hsome => by simp [hfault.1 hsome] at hstate
  have hunforced : r.forced ≠ true := fun h => by rcases hforced h with h | h <;> simp [h] at hstate
  have husable := hpresent (present_of_state (Or.inl hnames))
  simp_all [ModuleRecord.Sound, ModuleState.names]

/-- A module behind its precharge wait (R115). -/
theorem goes_closing (hstate : r.state = .precharge) (due : Nat) :
    r.Goes { r with state := .contactClose, timer := .running due, releaseOnClose := false } := by
  refine .of_present (by simp [hstate]) rfl (by simp [hstate, ModuleState.switching]) ?_
  rintro ⟨hassigned, hreach, hfault, hcode, -, hforced, -, -, hpresent, hwindow⟩
  simp_all [ModuleRecord.Sound, ModuleState.names]

/-- A module whose precharge order has gone (R114). -/
theorem goes_timed (hstate : r.state = .precharge) (due : Nat) : r.Goes { r with timer := .running due } := by
  refine .of_present (by simp [hstate]) rfl id ?_
  rintro ⟨hassigned, hreach, hfault, hcode, hmark, hforced, -, -, hpresent, hwindow⟩
  simp_all [ModuleRecord.Sound, ModuleState.names]

/-- A module that becomes FAULTED (R123). -/
theorem goes_faulted (hpresent : r.state ≠ .absent) {origin : FaultOrigin} {code : Byte} (hcode : origin ≠ .reported → code = 0) :
    r.Goes
      { r with
        state := .faulted, timer := .stopped, releaseOnClose := false, assigned := none
        fault := some { origin := origin, code := code } } := by
  refine .of_present hpresent rfl (by simp [ModuleState.switching]) ?_
  rintro ⟨-, -, -, -, -, -, -, -, husable, hwindow⟩
  simp_all [ModuleRecord.Sound, ModuleState.names]

/-- The first pedestal of a usable window (R112). -/
theorem exists_pedestalOf_first {w : Window} (hsound : w.Sound) (husable : w.first ≤ w.last) :
    ∃ p : Pedestal, pedestalOf w.first = some p ∧ p.val + 1 = w.first := by
  obtain ⟨hfirst, -, hone⟩ := hsound
  have hlow := hone husable
  exact ⟨⟨w.first - 1, by omega⟩, dif_pos ⟨hlow, hfirst⟩, by simp only; omega⟩

/-- A FAULTED module that is returned names the first pedestal of its window (R125). -/
theorem goes_returned (hstate : r.state = .faulted) (due : Nat) :
    r.Goes
      { r with
        state := .contactOpen, assigned := pedestalOf r.window.first, timer := .running due, releaseOnClose := false
        forced := false, fault := none } := by
  refine .of_present (by simp [hstate]) rfl (by simp [ModuleState.switching]) ?_
  rintro ⟨-, -, -, -, -, -, -, -, hpresent, hwindow⟩
  have husable := hpresent (by simp [hstate])
  obtain ⟨p, hpedestal, hp⟩ := exists_pedestalOf_first hwindow husable
  have hlast : p.val < r.window.last := by omega
  simp [ModuleRecord.Sound, ModuleState.names, hpedestal, hp, hlast, husable, hwindow]

/-- A FREE module that is assigned to a pedestal of its window (R114). -/
theorem lasts_assigned (hstate : r.state = .free) {p : Pedestal} (hreach : r.window.contains p = true) :
    r.Lasts { r with state := .precharge, assigned := some p, timer := .awaitingSend } := by
  refine ⟨?_, rfl, fun _ => by simp [hstate]⟩
  rintro ⟨-, -, hfault, hcode, hmark, hforced, -, -, hpresent, hwindow⟩
  have hin := (Window.contains_iff _ p).1 hreach
  simp_all [ModuleRecord.Sound, ModuleState.names]

/-- A held module that is released (R118). -/
theorem goes_releasedRecord {s : State} {m : ModuleNo} {p : Pedestal} (hheld : (s.module m).heldFor p = true) :
    (s.module m).Goes (s.releasedRecord m) := by
  simp only [ModuleRecord.heldFor, Bool.and_eq_true, Bool.or_eq_true, beq_iff_eq] at hheld
  obtain ⟨-, (hstate | hstate) | ⟨hstate, -⟩⟩ := hheld
  · simp only [State.releasedRecord, hstate]
    exact goes_opened (by simp [hstate, ModuleState.names]) _ _
  · simp only [State.releasedRecord, hstate]
    exact goes_ramped (Or.inr hstate) _
  · have hgoes := goes_marked hstate
    simp only [State.releasedRecord, hstate] at hgoes ⊢
    exact hgoes

end

end Sys2Proof.Machine
end

section
/-! # What an operation keeps of the power side (R88, R104, R133) -/

namespace Sys2Proof.Machine

/-- Outside the passes of the Apportioner: P_av, M, the latch and the commissioning record stay, no grant rises, a setpoint stays within
its grant and behind its modules, and every module goes on. -/
structure PowerSteady (s t : State) : Prop where
  limits : t.alloc.pAv = s.alloc.pAv ∧ t.alloc.budget = s.alloc.budget
  latch : t.prot.latch = s.prot.latch ∧ t.prot.sources = s.prot.sources
  control : t.control.commissioned = s.control.commissioned ∧ t.control.record = s.control.record
  grant : ∀ p, (t.allot p).grant ≤ (s.allot p).grant
  within : ∀ p, (s.allot p).setpoint ≤ (s.allot p).grant * s.control.record.rating →
    (t.allot p).setpoint ≤ (t.allot p).grant * s.control.record.rating
  backed : ∀ p, (s.allot p).setpoint ≤ s.assignedCount p * s.control.record.rating →
    (t.allot p).setpoint ≤ t.assignedCount p * s.control.record.rating
  goes : ∀ m, (s.module m).Goes (t.module m)

/-- What the laws of power read is the same. -/
structure PowerSame (s t : State) : Prop where
  limits : t.alloc.pAv = s.alloc.pAv ∧ t.alloc.budget = s.alloc.budget
  latch : t.prot.latch = s.prot.latch ∧ t.prot.sources = s.prot.sources
  control : t.control.commissioned = s.control.commissioned ∧ t.control.record = s.control.record
  power : ∀ p, (t.allot p).grant = (s.allot p).grant ∧ (t.allot p).setpoint = (s.allot p).setpoint
  modules : ∀ m, t.module m = s.module m

section
variable {s t u : State}

theorem PowerSame.refl (s : State) : PowerSame s s := ⟨⟨rfl, rfl⟩, ⟨rfl, rfl⟩, ⟨rfl, rfl⟩, fun _ => ⟨rfl, rfl⟩, fun _ => rfl⟩

theorem PowerSteady.of_same (h : PowerSame s t) : PowerSteady s t where
  limits := h.limits
  latch := h.latch
  control := h.control
  grant := fun p => Nat.le_of_eq (h.power p).1
  within := fun p => by rw [(h.power p).1, (h.power p).2]; exact id
  backed := fun p => by rw [(h.power p).2, assignedCount_congr h.modules]; exact id
  goes := fun m => h.modules m ▸ .refl _

theorem PowerSteady.refl (s : State) : PowerSteady s s :=
  .of_same (.refl s)

theorem PowerSteady.trans (h : PowerSteady s t) (h' : PowerSteady t u) : PowerSteady s u where
  limits := ⟨h'.limits.1.trans h.limits.1, h'.limits.2.trans h.limits.2⟩
  latch := ⟨h'.latch.1.trans h.latch.1, h'.latch.2.trans h.latch.2⟩
  control := ⟨h'.control.1.trans h.control.1, h'.control.2.trans h.control.2⟩
  grant := fun p => Nat.le_trans (h'.grant p) (h.grant p)
  within := fun p hp => h.control.2 ▸ h'.within p (h.control.2 ▸ h.within p hp)
  backed := fun p hp => h.control.2 ▸ h'.backed p (h.control.2 ▸ h.backed p hp)
  goes := fun m => (h.goes m).trans (h'.goes m)

/-- An operation repeated over a list. -/
theorem PowerSteady.foldl {α : Type} {f : State → α → State} (h : ∀ s x, PowerSteady s (f s x)) (l : List α) (s : State) :
    PowerSteady s (l.foldl f s) := by
  induction l generalizing s with
  | nil => exact .refl s
  | cons x l ih => exact (h s x).trans (ih _)

/-! ### Assigned modules -/

/-- Where every module that serves a pedestal goes on serving it, its assigned count does not fall. -/
theorem assignedCount_mono {p : Pedestal} (h : ∀ m, (s.module m).serves p .assigned = true → (t.module m).serves p .assigned = true) :
    s.assignedCount p ≤ t.assignedCount p := by
  simp only [State.assignedCount, ← List.countP_eq_length_filter]
  exact List.countP_mono_left fun m _ => h m

/-- A setpoint that stays, with the modules behind it. -/
theorem backed_of_serves {p : Pedestal} (hsetpoint : (t.allot p).setpoint ≤ (s.allot p).setpoint)
    (h : ∀ m, (s.module m).serves p .assigned = true → (t.module m).serves p .assigned = true)
    (hbacked : (s.allot p).setpoint ≤ s.assignedCount p * s.control.record.rating) :
    (t.allot p).setpoint ≤ t.assignedCount p * s.control.record.rating :=
  Nat.le_trans hsetpoint (Nat.le_trans hbacked (Nat.mul_le_mul_right _ (assignedCount_mono h)))

/-- Where modules are released beyond a count, those kept back the lowered setpoint (R94). -/
theorem releasedSetpoint_le {p : Pedestal} {keep : Nat}
    (hkept : ∀ m, (s.module m).serves p .assigned = true → s.releases p keep m = false → (t.module m).serves p .assigned = true)
    (hbacked : (s.allot p).setpoint ≤ s.assignedCount p * s.control.record.rating) :
    s.releasedSetpoint p keep ≤ t.assignedCount p * s.control.record.rating := by
  have hreleased : (s.releasedFrom p keep .assigned).length =
      ((allModules.filter fun m => (s.module m).serves p .assigned).filter (fun m => s.releases p keep m)).length := by
    rw [State.releasedFrom, List.filter_reverse, List.length_reverse, List.filter_filter]
    refine congrArg List.length (List.filter_congr fun m _ => ?_)
    rw [Bool.eq_iff_iff]
    simp only [Bool.and_eq_true, beq_iff_eq, serves_assigned_iff]
    constructor
    · exact fun ⟨hrel, hstate⟩ => ⟨hrel, assigned_of_held (held_of_releases hrel), hstate⟩
    · exact fun ⟨hrel, _, hstate⟩ => ⟨hrel, hstate⟩
  have hsplit := length_filter_add_length_filter (allModules.filter fun m => (s.module m).serves p .assigned)
    fun m => s.releases p keep m
  have hkeeps : ((allModules.filter fun m => (s.module m).serves p .assigned).filter fun m => !(s.releases p keep m)).length ≤
      t.assignedCount p := by
    rw [List.filter_filter, State.assignedCount, ← List.countP_eq_length_filter, ← List.countP_eq_length_filter]
    refine List.countP_mono_left fun m _ hm => ?_
    simp only [Bool.and_eq_true, Bool.not_eq_true'] at hm
    exact hkept m hm.2 hm.1
  have hcount : s.assignedCount p ≤ (s.releasedFrom p keep .assigned).length + t.assignedCount p := by
    rw [State.assignedCount]
    omega
  unfold State.releasedSetpoint
  split
  next hnone =>
    rw [List.isEmpty_iff_length_eq_zero] at hnone
    exact Nat.le_trans hbacked (Nat.mul_le_mul_right _ (by omega))
  next hsome =>
    have hremaining := assigned_remaining s p keep hsome
    exact Nat.le_trans (Nat.min_le_right _ _) (Nat.mul_le_mul_right _ (by omega))

/-! ### Allotments, modules and orders written together -/

/-- A setpoint lowered (R94, R99, R103). -/
theorem powerSteady_lowerSetpoint (s : State) (p : Pedestal) (limit : Nat) : PowerSteady s (s.lowerSetpoint p limit) := by
  have hlow (q : Pedestal) : ((s.lowerSetpoint p limit).allot q).setpoint ≤ (s.allot q).setpoint := by
    rw [allot_lowerSetpoint]
    split
    next h => subst h; exact Nat.min_le_left _ _
    next => exact Nat.le_refl _
  have hgrant (q : Pedestal) : ((s.lowerSetpoint p limit).allot q).grant = (s.allot q).grant := by
    rw [allot_lowerSetpoint]
    split
    next h => subst h; rfl
    next => rfl
  have hmodule (m : ModuleNo) : (s.lowerSetpoint p limit).module m = s.module m := by rw [lowerSetpoint_eq, module_repowered]
  exact
    { limits := by simp, latch := by simp, control := by simp
      grant := fun q => Nat.le_of_eq (hgrant q)
      within := fun q hq => hgrant q ▸ Nat.le_trans (hlow q) hq
      backed := fun q => backed_of_serves (hlow q) fun m => by rw [hmodule]; exact id
      goes := fun m => hmodule m ▸ .refl _ }

/-- A setpoint takes its step 8 value (R96, R102). -/
theorem powerSteady_settleSetpoint (s : State) (p : Pedestal) : PowerSteady s (s.settleSetpoint p) := by
  have hallot (q : Pedestal) : (s.settleSetpoint p).allot q =
      if q = p then { s.allot p with setpoint := s.setpointValue p } else s.allot q := by
    rw [State.settleSetpoint, orderSetpoint_eq_repowered, allot_repowered]
  have hmodule (m : ModuleNo) : (s.settleSetpoint p).module m = s.module m := by
    rw [State.settleSetpoint, orderSetpoint_eq_repowered, module_repowered]
  have hassigned (q : Pedestal) : (s.settleSetpoint p).assignedCount q = s.assignedCount q := assignedCount_congr hmodule
  have hwithin : s.setpointValue p ≤ (s.allot p).grant * s.control.record.rating := by
    unfold State.setpointValue
    split
    · exact Nat.min_le_right _ _
    · exact Nat.zero_le _
  have hbacked : s.setpointValue p ≤ s.assignedCount p * s.control.record.rating := by
    unfold State.setpointValue
    split
    · exact Nat.le_trans (Nat.min_le_left _ _) (Nat.min_le_right _ _)
    · exact Nat.zero_le _
  refine ⟨by simp [State.settleSetpoint], by simp [State.settleSetpoint], by simp [State.settleSetpoint], fun q => ?_, fun q hq => ?_,
    fun q hq => ?_, fun m => hmodule m ▸ .refl _⟩
  · rw [hallot]
    split
    next h => subst h; exact Nat.le_refl _
    next => exact Nat.le_refl _
  · rw [hallot]
    split
    next h => subst h; exact hwithin
    next => exact hq
  · rw [hallot, hassigned]
    split
    next h => subst h; exact hbacked
    next => exact hq

/-- A session that is out of RUNNING leaves its power (R100). -/
theorem powerSteady_leaveRunning (s : State) (p : Pedestal) : PowerSteady s (s.leaveRunning p) where
  limits := by simp
  latch := by simp
  control := by simp
  grant := fun q => by
    by_cases hq : q = p
    · subst hq; simp [Allotment.withdrawn]
    · simp [hq]
  within := fun q => by
    by_cases hq : q = p
    · subst hq; simp [Allotment.withdrawn]
    · simp [hq]
  backed := fun q => by
    by_cases hq : q = p
    · subst hq; simp [Allotment.withdrawn]
    · refine backed_of_serves (by simp [hq]) fun m hm => ?_
      rw [serves_assigned_iff] at hm
      have hnot : ¬ (s.module m).heldFor p = true := fun hheld => hq (Option.some.inj (hm.1.symm.trans (assigned_of_held hheld)))
      rwa [module_leaveRunning, if_neg hnot, serves_assigned_iff]
  goes := fun m => by
    rw [module_leaveRunning]
    split
    next hheld => exact goes_releasedRecord hheld
    next => exact .refl _

/-! ### One module -/

/-- A module that serves no pedestal is written. -/
theorem powerSteady_setModule {m : ModuleNo} {r : ModuleRecord} (hstate : (s.module m).state ≠ .assigned) (hgoes : (s.module m).Goes r) :
    PowerSteady s (s.setModule m r) where
  limits := ⟨rfl, rfl⟩
  latch := ⟨rfl, rfl⟩
  control := ⟨rfl, rfl⟩
  grant := fun _ => Nat.le_refl _
  within := fun _ => id
  backed := fun q => backed_of_serves (Nat.le_refl _) fun k hk => by
    have hne : k ≠ m := by rintro rfl; exact hstate ((serves_assigned_iff _ _).1 hk).2
    rwa [module_setModule_ne _ _ hne]
  goes := fun k => by
    by_cases hk : k = m
    · subst hk; rwa [module_setModule]
    · rw [module_setModule_ne _ _ hk]; exact .refl _

/-- A module is written and, where it served a pedestal, the setpoint there is lowered (R103). -/
theorem powerSteady_lost {m : ModuleNo} {r : ModuleRecord} (hu : PowerSame (s.setModule m r) u) (hgoes : (s.module m).Goes r) :
    PowerSteady s (u.lowerToAssigned (s.module m).loses) := by
  have hlow (q : Pedestal) : ((u.lowerToAssigned (s.module m).loses).allot q).setpoint ≤ (s.allot q).setpoint := by
    refine le_of_le_of_eq ?_ (hu.power q).2
    rw [allot_lowerToAssigned]
    split
    · exact Nat.min_le_left _ _
    · exact Nat.le_refl _
  have hgrant (q : Pedestal) : ((u.lowerToAssigned (s.module m).loses).allot q).grant = (s.allot q).grant := by
    refine Eq.trans ?_ (hu.power q).1
    rw [allot_lowerToAssigned]
    split <;> rfl
  have hmodule (k : ModuleNo) : (u.lowerToAssigned (s.module m).loses).module k = (s.setModule m r).module k :=
    (module_lowerToAssigned _ _ k).trans (hu.modules k)
  have hrating : u.control.record.rating = s.control.record.rating := congrArg Commissioning.rating hu.control.2
  have hbacked (q : Pedestal) (hq : (s.allot q).setpoint ≤ s.assignedCount q * s.control.record.rating) :
      ((u.lowerToAssigned (s.module m).loses).allot q).setpoint ≤
        (u.lowerToAssigned (s.module m).loses).assignedCount q * s.control.record.rating := by
    by_cases hlost : (s.module m).loses = some q
    · rw [allot_lowerToAssigned, if_pos hlost, assignedCount_congr (module_lowerToAssigned u _), hrating]
      exact Nat.min_le_right _ _
    · refine backed_of_serves (hlow q) (fun k hk => ?_) hq
      have hne : k ≠ m := by rintro rfl; exact hlost ((loses_eq_some_iff _ _).2 hk)
      rwa [hmodule, module_setModule_ne _ _ hne]
  have hframe := lowerToAssigned_frame u (s.module m).loses
  refine ⟨?_, ?_, ?_, fun q => Nat.le_of_eq (hgrant q), fun q hq => hgrant q ▸ Nat.le_trans (hlow q) hq, hbacked, fun k => ?_⟩
  · simp only [hframe, hu.limits]
    exact ⟨rfl, rfl⟩
  · simp only [hframe, hu.latch]
    exact ⟨rfl, rfl⟩
  · simp only [hframe, hu.control]
    exact ⟨rfl, rfl⟩
  rw [hmodule]
  by_cases hk : k = m
  · subst hk; rwa [module_setModule]
  · rw [module_setModule_ne _ _ hk]; exact .refl _

/-- An order placed is none of the power side. -/
theorem powerSteady_placeOrder (s : State) (o : Order) : PowerSteady s (s.placeOrder o) :=
  .of_same ⟨by simp, by simp, by simp, fun _ => by simp, fun _ => by simp⟩

/-- A module that names a pedestal and is not ASSIGNED is opened. -/
theorem powerSteady_openContactor {m : ModuleNo} (hnames : (s.module m).state.names = true) (hstate : (s.module m).state ≠ .assigned) :
    PowerSteady s (s.openContactor m) := by
  have hmodule := (placeOrder_frame s (.openContact m)).2.2.2.2.2.2.2.2.1
  unfold State.openContactor
  refine (powerSteady_placeOrder s _).trans (powerSteady_setModule (by simpa using hstate) ?_)
  exact goes_opened (by simpa using hnames) _ _

/-- A module that is closing ramps down instead (R116). -/
theorem powerSteady_rampModule {m : ModuleNo} (hstate : (s.module m).state = .contactClose) : PowerSteady s (s.rampModule m) := by
  unfold State.rampModule
  refine (powerSteady_placeOrder s _).trans (powerSteady_setModule (by simp [hstate]) ?_)
  exact goes_ramped (by simp [hstate]) _

/-- A module behind its precharge wait (R115). -/
theorem powerSteady_closeContactor {m : ModuleNo} (hstate : (s.module m).state = .precharge) : PowerSteady s (s.closeContactor m) := by
  unfold State.closeContactor
  refine (powerSteady_placeOrder s _).trans (powerSteady_setModule (by simp [hstate]) ?_)
  exact goes_closing (by simp [hstate]) _

/-- Entry to FAULTED (R123). -/
theorem powerSteady_faultModule {m : ModuleNo} {origin : FaultOrigin} {code : Byte} (hpresent : (s.module m).state ≠ .absent)
    (hcode : origin ≠ .reported → code = 0) : PowerSteady s (s.faultModule m origin code) := by
  have hfault := powerSteady_lost (.refl _) (goes_faulted (r := s.module m) hpresent hcode)
  have hraise (u : State) (add : ParkDetail → ParkDetail) : PowerSteady u (u.raisePark add) :=
    .of_same ⟨by simp, by simp, by simp, fun _ => by simp, fun _ => by simp⟩
  by_cases hstate : (s.module m).state = .assigned
  · rw [ModuleRecord.loses, if_pos hstate] at hfault
    rw [faultModule_of_assigned _ _ hstate]
    exact (hfault.trans (powerSteady_placeOrder _ _)).trans (hraise _ _)
  · rw [ModuleRecord.loses, if_neg hstate] at hfault
    rw [faultModule_of_other _ _ hstate]
    exact (hfault.trans (powerSteady_placeOrder _ _)).trans (hraise _ _)

/-- Forced opening of one module (R124). -/
theorem powerSteady_forceModule (s : State) (m : ModuleNo) : PowerSteady s (s.forceModule m) := by
  by_cases hswitch : (s.module m).state.switching = true
  · have hnames : (s.module m).state.names = true := by
      cases hstate : (s.module m).state <;> simp [hstate, ModuleState.switching, ModuleState.names] at hswitch ⊢
    rw [forceModule_eq hswitch]
    refine powerSteady_lost (r := s.forcedRecord m) ⟨⟨rfl, rfl⟩, ⟨rfl, rfl⟩, ⟨rfl, rfl⟩, fun q => ?_, fun k => ?_⟩ (goes_opened hnames _ _)
    · rw [allot_forced]
      exact ⟨rfl, rfl⟩
    · rw [module_forced]
      split
      next hk => subst hk; rw [module_setModule]
      next hk => rw [module_setModule_ne _ _ hk]
  · rw [forceModule_of_idle (by simpa using hswitch)]
    exact .refl s

/-- Forced opening of every module (R124). -/
theorem powerSteady_forceAll (s : State) : PowerSteady s s.forceAll := .foldl powerSteady_forceModule allModules s

/-- A contactor has closed: the module is ASSIGNED and the setpoint takes its step 8 value (R102, R116). -/
theorem powerSteady_moduleClosed {m : ModuleNo} (hstate : (s.module m).state = .contactClose) : PowerSteady s (s.moduleClosed m) := by
  unfold State.moduleClosed
  simp only []
  split
  next => exact powerSteady_rampModule hstate
  next hmark =>
    have hclosed := powerSteady_setModule (s := s) (by simp [hstate]) (goes_closed hstate (by simpa using hmark))
    split
    next => exact hclosed
    next p hp => exact hclosed.trans (powerSteady_settleSetpoint _ p)

end

end Sys2Proof.Machine
end

section
/-! # The power side under the passes, the cutoff and commissioning (R91, R98, R134, R178) -/

namespace Sys2Proof.Machine

/-- The laws of power and of the modules go on; that of the backed setpoints under a condition. -/
structure PowerLaws (G : Prop) (s t : State) : Prop where
  power : s.PowerBounded → t.PowerBounded
  backed : G → s.PowerBounded → s.SetpointsBacked → t.SetpointsBacked
  modules : s.ModulesSound → t.ModulesSound

/-- And the latch keeps its sources and holds the power off. -/
structure PowerKeeps (G : Prop) (s t : State) : Prop extends PowerLaws G s t where
  latch : s.PowerBounded → s.LatchHasSource → s.CutoffHolds → t.LatchHasSource ∧ t.CutoffHolds

section
variable {G : Prop} {s t u : State}

theorem PowerLaws.trans (h : PowerLaws G s t) (h' : PowerLaws G t u) : PowerLaws G s u :=
  ⟨fun hs => h'.power (h.power hs), fun g hp hs => h'.backed g (h.power hp) (h.backed g hp hs), fun hs => h'.modules (h.modules hs)⟩

theorem PowerKeeps.refl (s : State) : PowerKeeps G s s := ⟨⟨id, fun _ _ => id, id⟩, fun _ hsource hcut => ⟨hsource, hcut⟩⟩

theorem PowerKeeps.trans (h : PowerKeeps G s t) (h' : PowerKeeps G t u) : PowerKeeps G s u :=
  ⟨h.toPowerLaws.trans h'.toPowerLaws, fun hp hsource hcut => by
    obtain ⟨hsource', hcut'⟩ := h.latch hp hsource hcut
    exact h'.latch (h.power hp) hsource' hcut'⟩

/-- The power laws hold where setpoints are within their grants and the grants within M. -/
theorem powerBounded_of_grants (hwithin : ∀ p, (t.allot p).setpoint ≤ (t.allot p).grant * t.control.record.rating)
    (hgrants : sumOver (fun p => (t.allot p).grant) ≤ t.alloc.budget) (hbudget : t.alloc.budget = t.alloc.pAv / t.control.record.rating)
    (hcold : t.control.commissioned = false → t.alloc.pAv = 0) : t.PowerBounded := by
  refine ⟨?_, hwithin, hgrants, hbudget, hcold⟩
  calc sumOver (fun p => (t.allot p).setpoint)
      ≤ sumOver (fun p => (t.allot p).grant * t.control.record.rating) := sumOver_mono hwithin
    _ = sumOver (fun p => (t.allot p).grant) * t.control.record.rating := by
        exact sum_map_mul allPedestals _ _
    _ ≤ t.alloc.pAv / t.control.record.rating * t.control.record.rating := Nat.mul_le_mul_right _ (hbudget ▸ hgrants)
    _ ≤ t.alloc.pAv := Nat.div_mul_le_self _ _

/-- Where P_av is 0 no pedestal has a setpoint. -/
theorem State.PowerBounded.setpoint_eq_zero (h : s.PowerBounded) (hzero : s.alloc.pAv = 0) (p : Pedestal) : (s.allot p).setpoint = 0 := by
  have hle := Nat.le_trans (le_sumOver (fun p => (s.allot p).setpoint) p) h.1
  rw [hzero] at hle
  exact Nat.le_zero.1 hle

/-- Modules that last, under the same commissioning record, stay sound. -/
theorem modulesSound_of_lasts (hrecord : t.control.record = s.control.record) (hlasts : ∀ m, (s.module m).Lasts (t.module m))
    (h : s.ModulesSound) : t.ModulesSound := by
  intro m
  obtain ⟨hsound, hwindow, hkept⟩ := h m
  rw [hrecord]
  exact ⟨(hlasts m).sound hsound, hwindow, fun hpresent => (hlasts m).window.trans (hkept ((hlasts m).present hpresent))⟩

namespace PowerSteady

/-- An operation outside the passes keeps the power laws. -/
theorem laws (h : PowerSteady s t) : PowerLaws G s t where
  power := fun ⟨_, hwithin, hgrants, hbudget, hcold⟩ => by
    refine powerBounded_of_grants (fun p => ?_) ?_ ?_ ?_
    · rw [h.control.2]
      exact h.within p (hwithin p)
    · rw [h.limits.2]
      exact Nat.le_trans (sumOver_mono h.grant) hgrants
    · rw [h.limits.1, h.limits.2, h.control.2]
      exact hbudget
    · rw [h.limits.1, h.control.1]
      exact hcold
  backed := fun _ _ hbacked p => by
    rw [h.control.2]
    exact h.backed p (hbacked p)
  modules := modulesSound_of_lasts h.control.2 fun m => (h.goes m).toLasts

/-- And leaves the latch as it was. -/
theorem keeps (h : PowerSteady s t) : PowerKeeps G s t := by
  refine ⟨h.laws, fun _ hsource hcut => ⟨?_, fun hlatch => ?_⟩⟩
  · rw [State.LatchHasSource, h.latch.1, h.latch.2]
    exact hsource
  · obtain ⟨hpav, hbudget, hoff⟩ := hcut (h.latch.1 ▸ hlatch)
    exact ⟨h.limits.1.trans hpav, h.limits.2.trans hbudget, fun m => (h.goes m).off (hoff m)⟩

end PowerSteady

/-- Nothing that these laws read changes. -/
theorem PowerKeeps.of_same (h : PowerSame s t) : PowerKeeps G s t := (PowerSteady.of_same h).keeps

/-! ### The reduction pass (R98, R99) -/

/-- The reduction pass is steady in itself: P_av and M are set before it. -/
theorem powerSteady_reductionPass (s : State) : PowerSteady s s.reductionPass where
  limits := by rw [reductionPass_eq]; exact ⟨rfl, rfl⟩
  latch := by simp
  control := by simp
  grant := fun p => by
    rw [allot_reductionPass]
    exact Nat.min_le_left _ _
  within := fun p _ => by
    rw [allot_reductionPass]
    exact Nat.min_le_right _ _
  backed := fun p hp => by
    have hlimit : (s.reductionPass.allot p).setpoint ≤ s.releasedSetpoint p (s.reducedGrant p) := by
      rw [allot_reductionPass]
      unfold State.releasedSetpoint
      split
      · exact Nat.min_le_left _ _
      · exact Nat.le_refl _
    refine Nat.le_trans hlimit (releasedSetpoint_le (fun m hm hkept => ?_) hp)
    obtain ⟨hassigned, hstate⟩ := (serves_assigned_iff _ _).1 hm
    have hheld : (s.module m).heldFor p = true := by simp [ModuleRecord.heldFor, hassigned, hstate]
    rwa [module_reductionPass, excessModule_of_held s _ hheld, State.releasedModule, if_neg (by simp [hkept])]
  goes := fun m => by
    rw [module_reductionPass]
    by_cases hheld : ∃ p, (s.module m).heldFor p = true
    · obtain ⟨p, hp⟩ := hheld
      rw [excessModule_of_held s _ hp, State.releasedModule]
      split
      · exact goes_releasedRecord hp
      · exact .refl _
    · rw [excessModule_of_not_held s _ fun p => by simpa using fun hp => hheld ⟨p, hp⟩]
      exact .refl _

/-- The grants of a reduction pass are within M. -/
theorem sum_reducedGrant (s : State) : sumOver s.reducedGrant ≤ s.alloc.budget := by
  refine Nat.le_trans (sumOver_mono fun p => Nat.min_le_right _ _) ?_
  have htotal := total_shareBudget s.runningBySession (fun p => (s.allot p).demand) s.alloc.pointer s.alloc.budget
  rwa [Share.total, sum_toList] at htotal

/-- A reduction pass is considered (R98). -/
theorem powerKeeps_considerReduction (s : State) : PowerKeeps G s s.considerReduction := by
  by_cases hlt : s.computedPower < s.alloc.pAv
  · rw [considerReduction_of_lt hlt]
    have hsteady := powerSteady_reductionPass (s.setPower s.computedPower)
    have hmodule (m : ModuleNo) := hsteady.goes m
    refine ⟨⟨fun _ => powerBounded_of_grants (fun p => ?_) ?_ ?_ fun hcold => ?_, fun _ _ hbacked p => ?_, fun hmodules => ?_⟩,
      fun _ hsource hcut => ?_⟩
    · rw [allot_reductionPass, hsteady.control.2]
      exact Nat.min_le_right _ _
    · simp only [allot_reductionPass, hsteady.limits.2]
      exact sum_reducedGrant _
    · rw [hsteady.limits.1, hsteady.limits.2, hsteady.control.2]
      rfl
    · rw [hsteady.control.1] at hcold
      rw [hsteady.limits.1]
      exact computedPower_of_off (Or.inl hcold)
    · rw [hsteady.control.2]
      exact hsteady.backed p (hbacked p)
    · exact modulesSound_of_lasts hsteady.control.2 (fun m => (hsteady.goes m).toLasts) hmodules
    · have hclear : s.prot.latch ≠ true := fun hlatch => by
        have hzero := (hcut hlatch).1
        omega
      refine ⟨?_, fun hlatch => absurd (hsteady.latch.1 ▸ hlatch) hclear⟩
      rw [State.LatchHasSource, hsteady.latch.1, hsteady.latch.2]
      exact hsource
  · rw [considerReduction_of_le (Nat.not_lt.1 hlt)]
    exact .refl s

/-! ### The regular pass (R91) -/

/-- A module behind a regular pass: released, assigned or left (R94, R95). -/
theorem lasts_regularPass (s : State) (m : ModuleNo) : (s.module m).Lasts (s.regularPass.module m) := by
  by_cases hheld : ∃ p, (s.module m).heldFor p = true
  · obtain ⟨p, hp⟩ := hheld
    rw [(regularPass_of_held s hp).1, State.releasedModule]
    split
    · exact (goes_releasedRecord hp).toLasts
    · exact (ModuleRecord.Goes.refl _).toLasts
  · have hnone (p : Pedestal) : (s.module m).heldFor p = false := by simpa using fun hp => hheld ⟨p, hp⟩
    by_cases hfree : (s.module m).state = .free
    · obtain ⟨hsame, -⟩ | ⟨p, -, hreach, hassigned, -⟩ := regularPass_of_free s hfree
      · rw [hsame]
        exact (ModuleRecord.Goes.refl _).toLasts
      · rw [hassigned]
        exact lasts_assigned hfree ((Window.contains_iff _ _).2 hreach)
    · rw [(regularPass_of_idle s hnone hfree).1]
      exact (ModuleRecord.Goes.refl _).toLasts

/-- Where no power is to be had, a regular pass assigns no module. -/
theorem switching_regularPass {m : ModuleNo} (hzero : ∀ p, s.passGrant p = 0) (h : (s.regularPass.module m).state.switching = true) :
    (s.module m).state.switching = true := by
  by_cases hheld : ∃ p, (s.module m).heldFor p = true
  · obtain ⟨p, hp⟩ := hheld
    rw [(regularPass_of_held s hp).1, State.releasedModule] at h
    split at h
    · exact (goes_releasedRecord hp).switching h
    · exact h
  · have hnone (p : Pedestal) : (s.module m).heldFor p = false := by simpa using fun hp => hheld ⟨p, hp⟩
    by_cases hfree : (s.module m).state = .free
    · obtain ⟨hsame, -⟩ | ⟨p, -, -, hassigned, -⟩ := regularPass_of_free s hfree
      · exact (congrArg (fun r : ModuleRecord => r.state.switching) hsame).symm.trans h
      · have hin : m ∈ allModules.filter fun m => (s.regularPass.module m).heldFor p := by
          rw [List.mem_filter, hassigned]
          exact ⟨mem_allModules m, by simp [ModuleRecord.heldFor, State.assignedRecord]⟩
        have hpos : 0 < s.regularPass.heldCount p := List.length_pos_of_mem hin
        exact absurd (Nat.lt_of_lt_of_le hpos (Nat.le_trans (heldCount_regularPass s p) (Nat.le_of_eq (hzero p)))) (Nat.lt_irrefl 0)
    · rwa [(regularPass_of_idle s hnone hfree).1] at h

/-- The regular pass (R91). -/
theorem powerKeeps_regularPass (s : State) : PowerKeeps G s s.regularPass := by
  have hpav : s.regularPass.alloc.pAv = s.passStaging.computedPower := by rw [alloc_regularPass]; rfl
  have hbudget : s.regularPass.alloc.budget = s.passStaging.computedPower / s.control.record.rating := by rw [alloc_regularPass]; rfl
  have hgrant (p : Pedestal) : (s.regularPass.allot p).grant = s.passGrant p := by rw [allot_regularPass]; rfl
  have hsetpoint (p : Pedestal) : (s.regularPass.allot p).setpoint = s.assigned.setpointValue p := by rw [allot_regularPass]
  have hcontrol : s.regularPass.control = s.control := by simp
  have hprot : s.regularPass.prot = s.prot := by simp
  have hpower : s.regularPass.PowerBounded := by
    refine powerBounded_of_grants (fun p => ?_) ?_ ?_ fun hcold => ?_
    · rw [hsetpoint, hgrant, hcontrol]
      exact setpointValue_assigned_le s p
    · simp only [hgrant, hbudget]
      exact sum_passGrant s
    · rw [hpav, hbudget, hcontrol]
    · rw [hcontrol] at hcold
      rw [hpav, computedPower_passStaging, if_pos (Or.inl hcold)]
  refine ⟨⟨fun _ => hpower, fun _ _ _ p => ?_, modulesSound_of_lasts (by rw [hcontrol]) (lasts_regularPass s)⟩, fun _ hsource hcut => ?_⟩
  · rw [hsetpoint, setpointValue_assigned, hcontrol]
    split
    · exact Nat.le_trans (Nat.min_le_left _ _) (Nat.min_le_right _ _)
    · exact Nat.zero_le _
  · refine ⟨by rw [State.LatchHasSource, hprot]; exact hsource, fun hlatch => ?_⟩
    rw [hprot] at hlatch
    have hzero : s.passStaging.computedPower = 0 := by rw [computedPower_passStaging, if_pos (Or.inr hlatch)]
    have hgrants (p : Pedestal) : s.passGrant p = 0 := by
      have hsum := Nat.le_trans (le_sumOver s.passGrant p) (sum_passGrant s)
      rw [hzero, Nat.zero_div] at hsum
      exact Nat.le_zero.1 hsum
    refine ⟨hpav.trans hzero, by rw [hbudget, hzero, Nat.zero_div], fun m => ?_⟩
    have hoff := (hcut hlatch).2.2 m
    rw [← Bool.not_eq_true] at hoff ⊢
    exact fun hswitch => hoff (switching_regularPass hgrants hswitch)

/-! ### The cutoff (R134, R136) -/

/-- The latch and its sources are written. -/
theorem powerLaws_of_latch (hlimits : t.alloc = s.alloc) (hcontrol : t.control = s.control) (hmodules : t.modules = s.modules) :
    PowerLaws G s t where
  power := by simp only [State.PowerBounded, State.allot, hlimits, hcontrol]; exact id
  backed := fun _ _ => by
    simp only [State.SetpointsBacked, State.assignedCount, State.allot, State.module, hlimits, hcontrol, hmodules]; exact id
  modules := by simp only [State.ModulesSound, State.module, hcontrol, hmodules]; exact id

/-- The power behind an accepted assertion that sets the latch, before a session is told of it. -/
theorem off_forceAll {line : SafetyLine} (hpower : s.PowerBounded) :
    (s.sourced line).considerReduction.forceAll.alloc.pAv = 0 ∧ (s.sourced line).considerReduction.forceAll.alloc.budget = 0 ∧
      ∀ m, ((s.sourced line).considerReduction.forceAll.module m).state.switching = false := by
  have hforced := forced_forceAll (s.sourced line).considerReduction
  have hlimits := (powerSteady_forceAll (s.sourced line).considerReduction).limits
  have hoff : (s.sourced line).considerReduction.alloc.pAv = 0 ∧ (s.sourced line).considerReduction.alloc.budget = 0 := by
    rw [considerReduction_sourced]
    split
    · rw [(powerSteady_reductionPass _).limits.1, (powerSteady_reductionPass _).limits.2]
      exact ⟨rfl, Nat.zero_div _⟩
    next hzero =>
      obtain ⟨-, -, -, hbudget, -⟩ := hpower
      have hnone : s.alloc.pAv = 0 := Nat.eq_zero_of_not_pos hzero
      exact ⟨hnone, show s.alloc.budget = 0 by rw [hbudget, hnone, Nat.zero_div]⟩
  refine ⟨hlimits.1.trans hoff.1, hlimits.2.trans hoff.2, fun m => ?_⟩
  by_cases hswitch : ((s.sourced line).considerReduction.module m).state.switching = true
  · rw [(hforced.opened m (mem_allModules m) hswitch).1]
    rfl
  · rw [(hforced.kept m (Or.inr (by simpa using hswitch))).1]
    simpa using hswitch

/-- A reason added takes power from a session that was RUNNING (R25, R100). -/
theorem powerSteady_addReason (s : State) (p : Pedestal) (r : Reason) : PowerSteady s (s.addReason p r) := by
  unfold State.addReason
  split
  · refine PowerSteady.trans (.of_same ?_) (powerSteady_leaveRunning _ p)
    exact ⟨by simp, by simp, by simp, fun _ => by simp, fun _ => by simp⟩
  · exact .of_same ⟨by simp, by simp, by simp, fun _ => by simp, fun _ => by simp⟩
  all_goals exact .refl s

theorem powerSteady_addCutoff (s : State) : PowerSteady s s.addCutoff :=
  .foldl (fun s p => powerSteady_addReason s p .cutoff) allPedestals s

/-- An accepted assertion (R134). -/
theorem powerKeeps_lineAsserted (s : State) (line : SafetyLine) : PowerKeeps G s (s.lineAsserted line) := by
  have hraise (u : State) (add : ParkDetail → ParkDetail) : PowerSteady u (u.raisePark add) :=
    .of_same ⟨by simp, by simp, by simp, fun _ => by simp, fun _ => by simp⟩
  have hsourced : PowerLaws G s (s.sourced line) := powerLaws_of_latch rfl rfl rfl
  have hnamed : (s.sourced line).prot.latch = true ∧ (s.sourced line).LatchHasSource := by
    refine ⟨rfl, fun _ => ?_, fun _ => rfl⟩
    cases line
    · exact Or.inl rfl
    · exact Or.inr (Or.inl rfl)
  by_cases hlatch : s.prot.latch = true
  · rw [lineAsserted_of_latched hlatch]
    refine PowerKeeps.trans ⟨hsourced, fun _ _ hcut => ⟨hnamed.2, fun _ => hcut hlatch⟩⟩ (hraise _ _).keeps
  · rw [lineAsserted_of_clear (by simpa using hlatch)]
    have hrest := ((powerSteady_forceAll (s.sourced line).considerReduction).trans (powerSteady_addCutoff _)).trans
      (hraise (s.sourced line).considerReduction.forceAll.addCutoff fun d => d.addSource line)
    have hlater := (powerSteady_addCutoff (s.sourced line).considerReduction.forceAll).trans
      (hraise (s.sourced line).considerReduction.forceAll.addCutoff fun d => d.addSource line)
    refine ⟨(hsourced.trans (powerKeeps_considerReduction _).toPowerLaws).trans hrest.laws, fun hpower _ _ => ⟨?_, fun _ => ?_⟩⟩
    · have hprot : (s.sourced line).considerReduction.prot = (s.sourced line).prot := by simp
      rw [State.LatchHasSource, hrest.latch.1, hrest.latch.2, hprot]
      exact hnamed.2
    · obtain ⟨hpav, hbudget, hoff⟩ := off_forceAll (line := line) hpower
      exact ⟨hlater.limits.1.trans hpav, hlater.limits.2.trans hbudget, fun m => (hlater.goes m).off (hoff m)⟩

/-- The latch clears (R136). -/
theorem powerKeeps_of_cleared (halloc : t.alloc = s.alloc) (hcontrol : t.control = s.control) (hmodules : t.modules = s.modules)
    (hlatch : t.prot.latch = false) (hsources : t.prot.sources = { estop := false, trip := false, restart := false }) :
    PowerKeeps G s t := by
  refine ⟨powerLaws_of_latch halloc hcontrol hmodules, fun _ _ _ => ⟨?_, fun h => ?_⟩⟩
  · simp [State.LatchHasSource, hlatch, hsources]
  · rw [hlatch] at h
    cases h

/-! ### Commissioning (R178) -/

/-- COMMISSION (R178): before it there is no power. -/
theorem powerKeeps_of_commissioned {c : Commissioning} (hcold : s.control.commissioned = false) (hrange : c.inRange = true)
    (hlimits : t.alloc.pAv = s.alloc.pAv ∧ t.alloc.budget = s.alloc.budget) (hallot : ∀ p, t.allot p = s.allot p)
    (hmodule : ∀ m, t.module m = commissionedModule c.windows[m.val]) (hprot : t.prot = s.prot)
    (hcontrol : t.control.commissioned = true ∧ t.control.record = c) : PowerKeeps G s t := by
  have hnone (h : s.PowerBounded) : s.alloc.pAv = 0 ∧ s.alloc.budget = 0 ∧ ∀ p, (s.allot p).setpoint = 0 := by
    have hzero := h.2.2.2.2 hcold
    exact ⟨hzero, by rw [h.2.2.2.1, hzero, Nat.zero_div], h.setpoint_eq_zero hzero⟩
  refine ⟨⟨fun h => ?_, fun _ h _ p => ?_, fun _ m => ?_⟩, fun h hsource _ => ⟨by rwa [State.LatchHasSource, hprot], fun _ => ?_⟩⟩
  · obtain ⟨hpav, hbudget, hsetpoint⟩ := hnone h
    obtain ⟨-, -, hgrants, -, -⟩ := h
    refine powerBounded_of_grants (fun p => ?_) ?_ ?_ fun hcold' => absurd hcold' (by simp [hcontrol.1])
    · rw [hallot, hsetpoint]
      exact Nat.zero_le _
    · simp only [hallot, hlimits.2]
      exact hgrants
    · rw [hlimits.1, hlimits.2, hpav, hbudget, Nat.zero_div]
  · rw [hallot, (hnone h).2.2]
    exact Nat.zero_le _
  · have hin : (c.windows[m.val]).inRange = true := by
      simp only [Commissioning.inRange, Bool.and_eq_true, List.all_eq_true] at hrange
      exact hrange.2 _ (by simp)
    simp only [Window.inRange, Window.usable, Bool.and_eq_true, Bool.or_eq_true, Bool.not_eq_true', decide_eq_true_eq, decide_eq_false_iff_not] at hin
    obtain ⟨⟨hfirst, hlast⟩, hone⟩ := hin
    have hwindow : (c.windows[m.val]).Sound := ⟨hfirst, hlast, fun h => hone.resolve_left fun hn => hn h⟩
    rw [hmodule, hcontrol.2]
    refine ⟨?_, hwindow, fun _ => rfl⟩
    by_cases husable : (c.windows[m.val]).first ≤ (c.windows[m.val]).last <;>
      simp [commissionedModule, Window.usable, husable, ModuleRecord.Sound, ModuleRecord.cold, ModuleState.names, hwindow]
  · obtain ⟨hpav, hbudget, -⟩ := hnone h
    refine ⟨hlimits.1.trans hpav, hlimits.2.trans hbudget, fun m => ?_⟩
    rw [hmodule, commissionedModule]
    simp only []
    split <;> rfl

end

end Sys2Proof.Machine
end

section
/-! # What every write of the state keeps -/

namespace Sys2Proof.Machine

/-- The laws of the port and of power go on. -/
structure Runs (G : Prop) (s t : State) : Prop where
  port : PortKeeps s t
  power : PowerKeeps G s t

/-- And so do those of the ledger. -/
structure Keeps (G : Prop) (s t : State) : Prop extends Runs G s t where
  ledger : LedgerKeeps G s t

section
variable {G : Prop} {s t u : State}

theorem Runs.trans (h : Runs G s t) (h' : Runs G t u) : Runs G s u := ⟨h.port.trans h'.port, h.power.trans h'.power⟩

theorem Keeps.refl (s : State) : Keeps G s s := ⟨⟨.refl s, .refl s⟩, .refl s⟩

theorem Keeps.trans (h : Keeps G s t) (h' : Keeps G t u) : Keeps G s u := ⟨h.toRuns.trans h'.toRuns, h.ledger.trans h'.ledger⟩

/-- An operation repeated over a list. -/
theorem Keeps.foldl {α : Type} {f : State → α → State} (h : ∀ s x, Keeps G s (f s x)) (l : List α) (s : State) :
    Keeps G s (l.foldl f s) := by
  induction l generalizing s with
  | nil => exact .refl s
  | cons x l ih => exact (h s x).trans (ih _)

theorem PortKeeps.foldl {α : Type} {f : State → α → State} (h : ∀ s x, PortKeeps s (f s x)) (l : List α) (s : State) :
    PortKeeps s (l.foldl f s) := by
  induction l generalizing s with
  | nil => exact .refl s
  | cons x l ih => exact (h s x).trans (ih _)

/-- The slots, the records, the numbers and the tariffs as they were. -/
theorem LedgerSame.of_ledger (hslots : t.slots = s.slots) (hsettlements : t.settlements = s.settlements)
    (hissued : t.nextSession = s.nextSession ∧ t.exhausted = s.exhausted) (htariffs : t.tariffs = s.tariffs) : LedgerSame s t :=
  .of_slots (fun p => by simp only [State.slot, hslots]) hsettlements hissued fun n => by simp only [State.tariff, htariffs]

/-- The allotments, the modules, the latch and the commissioning record as they were. -/
theorem PowerSame.of_power (halloc : t.alloc = s.alloc) (hmodules : t.modules = s.modules) (hprot : t.prot = s.prot)
    (hcontrol : t.control = s.control) : PowerSame s t := by
  refine ⟨?_, ?_, ?_, fun p => ?_, fun m => ?_⟩ <;> simp only [State.allot, State.module, halloc, hmodules, hprot, hcontrol, and_self]

/-- Nothing but the port changes. -/
theorem Keeps.of_port (hport : PortKeeps s t) (hslots : t.slots = s.slots) (hsettlements : t.settlements = s.settlements)
    (hissued : t.nextSession = s.nextSession ∧ t.exhausted = s.exhausted) (htariffs : t.tariffs = s.tariffs) (halloc : t.alloc = s.alloc)
    (hmodules : t.modules = s.modules) (hprot : t.prot = s.prot) (hcontrol : t.control = s.control) : Keeps G s t :=
  ⟨⟨hport, .of_same (.of_power halloc hmodules hprot hcontrol)⟩, .of_same (.of_ledger hslots hsettlements hissued htariffs)⟩

/-- Nothing but the power side and the port changes. -/
theorem Keeps.of_power (hport : PortKeeps s t) (hpower : PowerKeeps G s t) (hslots : t.slots = s.slots)
    (hsettlements : t.settlements = s.settlements) (hissued : t.nextSession = s.nextSession ∧ t.exhausted = s.exhausted)
    (htariffs : t.tariffs = s.tariffs) : Keeps G s t :=
  ⟨⟨hport, hpower⟩, .of_same (.of_ledger hslots hsettlements hissued htariffs)⟩

/-! ### Slots and sessions -/

/-- A slot written with a session like the one it holds. -/
theorem keeps_setSlot {p : Pedestal} {x : Slot} (h : Option.Rel Session.Alike (s.slot p).session x.session) : Keeps G s (s.setSlot p x) :=
  ⟨⟨.of_same ⟨rfl, rfl, rfl, fun _ => rfl⟩, .of_same (.of_power rfl rfl rfl rfl)⟩, .of_same (ledgerSame_setSlot h)⟩

/-- A slot written with the session it holds. -/
theorem keeps_setSlot_same {p : Pedestal} {x : Slot} (h : x.session = (s.slot p).session) : Keeps G s (s.setSlot p x) :=
  keeps_setSlot (h ▸ alike_refl _)

/-- A session changed in a way that keeps it the same one. -/
theorem keeps_modifySession (p : Pedestal) {f : Session → Session} (hf : ∀ e : Session, e.Alike (f e)) : Keeps G s (s.modifySession p f) :=
  keeps_setSlot (alike_map hf _)

/-- A session changed apart from its number, its tariff and its accrual record. -/
theorem keeps_modifySession_apart (p : Pedestal) {f : Session → Session}
    (hf : ∀ e : Session, (f e).number = e.number ∧ (f e).tariff = e.tariff ∧ (f e).version = e.version ∧ (f e).accrual = e.accrual) :
    Keeps G s (s.modifySession p f) := by
  refine keeps_modifySession p fun e => ?_
  obtain ⟨hnumber, htariff, hversion, haccrual⟩ := hf e
  exact ⟨hnumber, htariff, hversion, by rw [haccrual]; exact id⟩

/-- An accrual record changed in a way that keeps its sum. -/
theorem keeps_modifyAccrual (p : Pedestal) {f : Accrual → Accrual} (hf : ∀ a : Accrual, a.Sums → (f a).Sums) : Keeps G s (s.modifyAccrual p f) :=
  keeps_modifySession p fun _ => ⟨rfl, rfl, rfl, hf _⟩

/-- An accrual record changed apart from its energy. -/
theorem keeps_modifyAccrual_apart (p : Pedestal) {f : Accrual → Accrual}
    (hf : ∀ a : Accrual, (f a).energy = a.energy ∧ (f a).buckets = a.buckets) : Keeps G s (s.modifyAccrual p f) := by
  refine keeps_modifyAccrual p fun a ha => ?_
  obtain ⟨henergy, hbuckets⟩ := hf a
  rwa [Accrual.Sums, henergy, hbuckets]

/-! ### Notices -/

theorem keeps_raise (s : State) (c : NoticeClass) : Keeps G s (s.raise c) := by
  apply Keeps.of_port (portKeeps_raise s c) <;> simp

/-- A detail written, and its status set. -/
theorem keeps_raise_of_details {c : NoticeClass} {n : NoticeUnit} (h : ∀ c, n.flags c = s.notices.flags c) :
    Keeps G s (({ s with notices := n } : State).raise c) := by
  refine Keeps.trans (t := { s with notices := n }) ?_ (keeps_raise _ c)
  exact .of_port (.of_same ⟨rfl, rfl, rfl, h⟩) rfl rfl ⟨rfl, rfl⟩ rfl rfl rfl rfl rfl

theorem keeps_raiseHold (s : State) (p : Pedestal) : Keeps G s (s.raiseHold p) := keeps_raise_of_details fun c => by cases c <;> rfl

theorem keeps_raisePark (s : State) (add : ParkDetail → ParkDetail) : Keeps G s (s.raisePark add) :=
  keeps_raise_of_details fun c => by cases c <;> rfl

theorem keeps_raiseField (s : State) (add : FieldDetail → FieldDetail) : Keeps G s (s.raiseField add) :=
  keeps_raise_of_details fun c => by cases c <;> rfl

theorem keeps_raiseCondition (s : State) (p : Pedestal) (add : FieldConditions → FieldConditions) : Keeps G s (s.raiseCondition p add) :=
  keeps_raiseField s _

theorem keeps_markChanged (s : State) (p : Pedestal) : Keeps G s (s.markChanged p) := by
  refine Keeps.trans (keeps_setSlot_same ?_) (keeps_raise _ _)
  rfl

theorem keeps_goTo (s : State) (p : Pedestal) (st : SlotState) : Keeps G s (s.goTo p st) := by
  refine Keeps.trans (keeps_setSlot_same ?_) (keeps_markChanged _ p)
  rfl

/-! ### Orders, links and time -/

theorem keeps_placeOrder (s : State) {o : Order} (h : ∀ p e c, o ≠ .query p e c) : Keeps G s (s.placeOrder o) := by
  apply Keeps.of_port (portKeeps_placeOrder s h) <;> simp

theorem keeps_dropOrders (s : State) (p : Pedestal) : Keeps G s (s.dropOrders p) := by
  apply Keeps.of_port (portKeeps_dropOrders s p) <;> simp

theorem keeps_endQuery (s : State) (p : Pedestal) (code : ResultCode) (data : List Byte) : Keeps G s (s.endQuery p code data) := by
  apply Keeps.of_port (portKeeps_endQuery s p code data) <;> simp

theorem keeps_startTransmit (s : State) : Keeps G s s.startTransmit := by
  apply Keeps.of_port (portKeeps_startTransmit s) <;> simp

/-- What none of the laws reads is written. -/
theorem Keeps.of_unread (hport : PortSame s t) (hslots : t.slots = s.slots) (hsettlements : t.settlements = s.settlements)
    (hissued : t.nextSession = s.nextSession ∧ t.exhausted = s.exhausted) (htariffs : t.tariffs = s.tariffs) (hpower : PowerSame s t) :
    Keeps G s t := ⟨⟨.of_same hport, .of_same hpower⟩, .of_same (.of_ledger hslots hsettlements hissued htariffs)⟩

theorem keeps_setLink (s : State) (p : Pedestal) (x : Link) : Keeps G s (s.setLink p x) :=
  .of_unread ⟨rfl, rfl, rfl, fun _ => rfl⟩ rfl rfl ⟨rfl, rfl⟩ rfl (.of_power rfl rfl rfl rfl)

theorem keeps_pushOutput (s : State) (r : HostRecord) : Keeps G s (s.pushOutput r) :=
  .of_unread ⟨rfl, rfl, rfl, fun _ => rfl⟩ rfl rfl ⟨rfl, rfl⟩ rfl (.of_power rfl rfl rfl rfl)

theorem keeps_advance (s : State) (time : Nat) : Keeps G s (s.advance time) :=
  .of_unread ⟨rfl, rfl, rfl, fun _ => rfl⟩ rfl rfl ⟨rfl, rfl⟩ rfl (.of_power rfl rfl rfl rfl)

/-- The Park Clock written. -/
theorem keeps_clock (s : State) (c : ParkClock) : Keeps G s { s with clock := c } :=
  .of_unread ⟨rfl, rfl, rfl, fun _ => rfl⟩ rfl rfl ⟨rfl, rfl⟩ rfl (.of_power rfl rfl rfl rfl)

/-- A cap written. -/
theorem keeps_setAllot {p : Pedestal} {x : Allotment} (h : x.grant = (s.allot p).grant ∧ x.setpoint = (s.allot p).setpoint) :
    Keeps G s (s.setAllot p x) := by
  refine .of_unread ⟨rfl, rfl, rfl, fun _ => rfl⟩ rfl rfl ⟨rfl, rfl⟩ rfl ⟨⟨rfl, rfl⟩, ⟨rfl, rfl⟩, ⟨rfl, rfl⟩, fun q => ?_, fun _ => rfl⟩
  by_cases hq : q = p
  · subst hq
    rwa [allot_setAllot]
  · rw [allot_setAllot_ne _ _ hq]
    exact ⟨rfl, rfl⟩

/-! ### Power -/

/-- A session that is out of RUNNING leaves its power (R100). -/
theorem keeps_leaveRunning (s : State) (p : Pedestal) : Keeps G s (s.leaveRunning p) := by
  have hport : PortKeeps s (s.leaveRunning p) := by
    rw [leaveRunning_eq, reworked_eq_repowered]
    exact (PortKeeps.of_same ⟨rfl, rfl, rfl, fun _ => rfl⟩).trans (portKeeps_repowered _ _ _ _)
  apply Keeps.of_power hport (powerSteady_leaveRunning s p).keeps <;> simp

/-- One module opened by force. -/
theorem portKeeps_forceModule (s : State) (m : ModuleNo) : PortKeeps s (s.forceModule m) := by
  by_cases hswitch : (s.module m).state.switching = true
  · obtain ⟨a, os, heq⟩ := lowerToAssigned_eq (s.forced m) (s.module m).loses
    rw [forceModule_eq hswitch, heq, forced_eq]
    exact (portKeeps_repowered s _ _ _).trans (portKeeps_repowered _ _ _ _)
  · rw [forceModule_of_idle (by simpa using hswitch)]
    exact .refl s

theorem keeps_forceAll (s : State) : Keeps G s s.forceAll := by
  apply Keeps.of_power (t := s.forceAll) (.foldl portKeeps_forceModule allModules s) (powerSteady_forceAll s).keeps <;> simp

theorem keeps_considerReduction (s : State) : Keeps G s s.considerReduction := by
  have hport : PortKeeps s s.considerReduction := by
    by_cases hlt : s.computedPower < s.alloc.pAv
    · have hset : PortKeeps s (s.setPower s.computedPower) := .of_same ⟨rfl, rfl, rfl, fun _ => rfl⟩
      rw [considerReduction_of_lt hlt, reductionPass_eq]
      exact hset.trans (portKeeps_repowered _ _ _ _)
    · rw [considerReduction_of_le (Nat.not_lt.1 hlt)]
      exact .refl s
  apply Keeps.of_power hport (powerKeeps_considerReduction s) <;> simp

/-- The FREE modules assigned to one pedestal. -/
theorem portKeeps_assignFor (s : State) (p : Pedestal) : PortKeeps s (s.assignFor p) := by
  rw [assignFor_eq, reworked_eq_repowered]
  exact portKeeps_repowered s _ _ _

theorem keeps_regularPass (s : State) : Keeps G s s.regularPass := by
  have hport : PortKeeps s s.regularPass := by
    have hshared : PortKeeps s s.shared := .of_same ⟨rfl, rfl, rfl, fun _ => rfl⟩
    have hreleased : PortKeeps s.shared s.shared.releaseExcess := by
      rw [releaseExcess_eq]
      exact portKeeps_repowered _ _ _ _
    have hassigned : PortKeeps s.shared.releaseExcess s.assigned := .foldl portKeeps_assignFor _ _
    have hset : PortKeeps s.assigned s.regularPass := by
      rw [regularPass_eq, passSetpoints_eq]
      exact portKeeps_repowered _ _ _ _
    exact ((hshared.trans hreleased).trans hassigned).trans hset
  apply Keeps.of_power hport (powerKeeps_regularPass s) <;> simp

end

end Sys2Proof.Machine
end

section
/-! # What the operations on sessions keep (chapters 1, 2 and 4) -/

namespace Sys2Proof.Machine

section
variable {G : Prop} {s t u : State}

/-! ### Suspension and return (R25 to R28) -/

/-- A new interruption entry leaves the session's number, tariff and accrual record alone. -/
theorem openEntry_apart (r : Reason) (day minute : Nat) (e : Session) :
    (e.openEntry r day minute).number = e.number ∧ (e.openEntry r day minute).tariff = e.tariff ∧
      (e.openEntry r day minute).version = e.version ∧ (e.openEntry r day minute).accrual = e.accrual := by
  unfold Session.openEntry
  split <;> exact ⟨rfl, rfl, rfl, rfl⟩

theorem keeps_addReason (s : State) (p : Pedestal) (r : Reason) : Keeps G s (s.addReason p r) := by
  have hadd (u : State) : Keeps G u (u.modifySession p fun e => { e with reasons := e.reasons.add r }) :=
    keeps_modifySession_apart p fun _ => ⟨rfl, rfl, rfl, rfl⟩
  unfold State.addReason
  split
  · exact (((hadd s).trans (keeps_goTo _ p .suspended)).trans (keeps_modifySession_apart p (openEntry_apart r _ _))).trans
      (keeps_leaveRunning _ p)
  · exact hadd s
  all_goals exact .refl s

theorem keeps_removeReason (s : State) (p : Pedestal) (r : Reason) : Keeps G s (s.removeReason p r) :=
  keeps_modifySession_apart p fun _ => ⟨rfl, rfl, rfl, rfl⟩

theorem keeps_judge (s : State) (p : Pedestal) : Keeps G s (s.judge p) := by
  unfold State.judge
  split
  · split
    · exact (keeps_goTo s p .running).trans (keeps_modifySession_apart p fun _ => ⟨rfl, rfl, rfl, rfl⟩)
    · exact .refl s
  · exact .refl s

theorem keeps_startExtension (s : State) (p : Pedestal) : Keeps G s (s.startExtension p) :=
  keeps_modifySession_apart p fun _ => ⟨rfl, rfl, rfl, rfl⟩

theorem keeps_startResume (s : State) (p : Pedestal) : Keeps G s (s.startResume p) :=
  keeps_modifySession_apart p fun _ => ⟨rfl, rfl, rfl, rfl⟩

theorem keeps_linkReturned (s : State) (p : Pedestal) : Keeps G s (s.linkReturned p) :=
  keeps_modifySession_apart p fun _ => ⟨rfl, rfl, rfl, rfl⟩

theorem keeps_holdReached (s : State) (p : Pedestal) : Keeps G s (s.holdReached p) := by
  unfold State.holdReached
  split
  · exact (keeps_addReason s p .hold).trans (keeps_startExtension _ p)
  · exact (keeps_addReason s p .hold).trans (keeps_startExtension _ p)
  all_goals exact .refl s

theorem keeps_linkSilent (s : State) (p : Pedestal) : Keeps G s (s.linkSilent p) := by
  unfold State.linkSilent
  split
  · exact (keeps_addReason s p .link).trans (keeps_startResume _ p)
  · exact (keeps_addReason s p .link).trans (keeps_startResume _ p)
  · exact keeps_startResume s p
  · exact keeps_startResume s p
  all_goals exact .refl s

/-! ### Finish and close (R15 to R18) -/

theorem keeps_markEnd (s : State) (p : Pedestal) : Keeps G s (s.markEnd p) := keeps_modifySession_apart p fun _ => ⟨rfl, rfl, rfl, rfl⟩

theorem keeps_orderEnd (s : State) (p : Pedestal) : Keeps G s (s.orderEnd p) := by
  unfold State.orderEnd
  split
  · exact .refl s
  · split
    · exact .refl s
    · exact (keeps_placeOrder s (by simp)).trans (keeps_markEnd _ p)

theorem keeps_loadGrace (s : State) (p : Pedestal) : Keeps G s (s.loadGrace p) := by
  unfold State.loadGrace
  split
  · exact .refl s
  · exact keeps_modifyAccrual_apart p fun _ => ⟨rfl, rfl⟩

theorem keeps_finish (s : State) (p : Pedestal) (cause : FinishCause) : Keeps G s (s.finish p cause) := by
  have hfinished (day minute : Nat) (u : State) : Keeps G u (u.modifySession p fun e =>
      { e.closeEntries day minute with
        finishCause := some cause, reasons := .none, extensionWindow := none, startWait := none }) :=
    keeps_modifySession_apart p fun _ => ⟨rfl, rfl, rfl, rfl⟩
  have hbody : Keeps G s ((((((s.goTo p .finished).modifySession p fun e =>
      { e.closeEntries (s.goTo p .finished).clock.day (s.goTo p .finished).clock.minute with
        finishCause := some cause, reasons := .none, extensionWindow := none, startWait := none }).orderEnd p).leaveRunning p).loadGrace p)) :=
    ((((keeps_goTo s p .finished).trans (hfinished _ _ _)).trans (keeps_orderEnd _ p)).trans (keeps_leaveRunning _ p)).trans
      (keeps_loadGrace _ p)
  unfold State.finish
  split
  · exact hbody
  · exact hbody
  · exact hbody
  · exact .refl s
  · exact .refl s
  · exact .refl s
  · exact .refl s

theorem keeps_freeSlot (s : State) (p : Pedestal) : Keeps G s (s.freeSlot p) := by
  refine Keeps.trans (keeps_setSlot_same ?_) (keeps_goTo _ p .vacant)
  rfl

theorem keeps_refuseSlot (s : State) (p : Pedestal) : Keeps G s (s.refuseSlot p) := by
  refine Keeps.trans (Keeps.trans (keeps_setSlot_same ?_) (keeps_goTo _ p .waitUnplug)) (keeps_placeOrder _ (by simp))
  rfl

/-- A record appended leaves the port and power to their laws. -/
theorem runs_appendSettlement (s : State) (r : Settlement) : Runs G s (s.appendSettlement r) := by
  have hsettlements : Runs G s { s with settlements := s.settlements ++ [r] } :=
    ⟨.of_same ⟨rfl, rfl, rfl, fun _ => rfl⟩, .of_same (.of_power rfl rfl rfl rfl)⟩
  exact hsettlements.trans (keeps_raise _ .settle).toRuns

theorem runs_setTariff (s : State) (n : TariffNo) (x : TariffSlot) : Runs G s (s.setTariff n x) :=
  ⟨.of_same ⟨rfl, rfl, rfl, fun _ => rfl⟩, .of_same (.of_power rfl rfl rfl rfl)⟩

theorem runs_setSlot (s : State) (p : Pedestal) (x : Slot) : Runs G s (s.setSlot p x) :=
  ⟨.of_same ⟨rfl, rfl, rfl, fun _ => rfl⟩, .of_same (.of_power rfl rfl rfl rfl)⟩

/-- The settling of a session that closes. -/
theorem runs_closeSettled (s : State) (p : Pedestal) (cause : CloseCause) (n : TariffNo) (r : Settlement) :
    Runs G s (s.closeSettled p cause n r) := by
  have hleft : Runs G s (((s.appendSettlement r).setReferences n fun k => k - 1).leaveRunning p) :=
    ((runs_appendSettlement s r).trans (runs_setTariff _ n _)).trans (keeps_leaveRunning _ p).toRuns
  refine ((hleft.trans (keeps_setAllot ?_).toRuns).trans (runs_setSlot _ p _)).trans (keeps_raise _ .session).toRuns
  rw [allot_leaveRunning]
  exact ⟨rfl, rfl⟩

theorem runs_closeSession (s : State) (p : Pedestal) (cause : CloseCause) : Runs G s (s.closeSession p cause) := by
  cases hsession : (s.slot p).session with
  | none => rw [closeSession_of_none _ hsession]; exact (Keeps.refl s).toRuns
  | some e =>
    obtain ⟨e', heq⟩ := closeSession_of_holds cause (show s.Holds p e from hsession)
    have hstamp : Keeps G s (s.closeStamped cause) := by
      unfold State.closeStamped
      split
      · exact .refl s
      · exact keeps_clock s _
    have horder (u : State) : Keeps G u (u.closeOrdered p cause e) := by
      unfold State.closeOrdered
      split
      · exact keeps_placeOrder u (by simp)
      · exact .refl u
    rw [heq]
    exact ((hstamp.trans (horder _)).toRuns.trans (runs_setSlot _ p _)).trans (runs_closeSettled _ p cause _ _)

theorem keeps_closeSession (s : State) (p : Pedestal) (cause : CloseCause) : Keeps G s (s.closeSession p cause) :=
  ⟨runs_closeSession s p cause, ledgerKeeps_closeSession s p cause⟩

/-! ### Plug reports and restarts (R4, R16, R18, R38, R39) -/

theorem keeps_plugIn (s : State) (p : Pedestal) : Keeps G s (s.plugIn p) := by
  unfold State.plugIn
  split
  · split
    · refine Keeps.trans (keeps_setSlot_same ?_) (keeps_goTo _ p .plugged)
      rfl
    · exact keeps_refuseSlot s p
    · exact keeps_refuseSlot s p
  all_goals exact .refl s

theorem keeps_unplug (s : State) (p : Pedestal) : Keeps G s (s.unplug p) := by
  have hclose := keeps_closeSession (G := G) s p .unplug
  have hfree := keeps_freeSlot (G := G) s p
  unfold State.unplug
  split
  · exact hclose
  · exact hclose
  · exact hclose
  · exact hclose
  · exact hfree
  · exact hfree
  · exact .refl s

theorem keeps_restartOrdered (s : State) (p : Pedestal) : Keeps G s (s.restartOrdered p) :=
  (keeps_markEnd s p).trans (keeps_finish _ p .pedestalRestart)

theorem keeps_restartReported (s : State) (p : Pedestal) (plugged : Bool) : Keeps G s (s.restartReported p plugged) := by
  have hopen : Keeps G s (if plugged then (s.markEnd p).finish p .pedestalRestart else (s.markEnd p).closeSession p .unplug) := by
    split
    · exact keeps_restartOrdered s p
    · exact (keeps_markEnd s p).trans (keeps_closeSession _ p .unplug)
  unfold State.restartReported
  split
  · split
    · exact keeps_plugIn s p
    · exact .refl s
  · split
    · exact .refl s
    · exact keeps_freeSlot s p
  · split
    · exact keeps_placeOrder s (by simp)
    · exact keeps_freeSlot s p
  all_goals exact hopen

/-! ### The hold comparison and vehicle reports (R11, R12, R69, R70) -/

theorem keeps_compareTopUp (s : State) (p : Pedestal) : Keeps G s (s.compareTopUp p) := by
  unfold State.compareTopUp
  split
  · exact .refl s
  · split
    · refine Keeps.trans (keeps_modifyAccrual_apart p ?_) (keeps_raiseHold _ p)
      exact fun _ => ⟨rfl, rfl⟩
    · exact .refl s

theorem keeps_compareReached (s : State) (p : Pedestal) : Keeps G s (s.compareReached p) := by
  unfold State.compareReached
  split
  · exact .refl s
  · split
    · refine (Keeps.trans (keeps_modifyAccrual_apart p ?_) (keeps_raiseHold _ p)).trans (keeps_holdReached _ p)
      exact fun _ => ⟨rfl, rfl⟩
    · exact .refl s

theorem keeps_compareHold (s : State) (p : Pedestal) : Keeps G s (s.compareHold p) :=
  (keeps_compareTopUp s p).trans (keeps_compareReached _ p)

theorem keeps_firstReady (s : State) (p : Pedestal) (request : Nat) : Keeps G s (s.firstReady p request) := by
  have hreasons (r : ReasonSet) (u : State) :
      Keeps G u (u.modifySession p fun e => { e with request := some request, reasons := r }) :=
    keeps_modifySession_apart p fun _ => ⟨rfl, rfl, rfl, rfl⟩
  have hextension (u : State) (c : Bool) : Keeps G u (if c = true then u.startExtension p else u) := by
    split
    · exact keeps_startExtension u p
    · exact .refl u
  unfold State.firstReady
  split
  · exact .refl s
  · refine Keeps.trans (Keeps.trans (keeps_modifySession_apart p ?_) (keeps_modifyAccrual_apart p ?_)) ((keeps_compareHold _ p).trans
      ((hreasons _ _).trans ((keeps_goTo _ p _).trans (hextension _ _))))
    · exact fun _ => ⟨rfl, rfl, rfl, rfl⟩
    · exact fun _ => ⟨rfl, rfl⟩

theorem keeps_vehicleReady (s : State) (p : Pedestal) (request : Nat) : Keeps G s (s.vehicleReady p request) := by
  unfold State.vehicleReady
  simp only []
  split
  · exact keeps_firstReady s p _
  · exact keeps_modifySession_apart p fun _ => ⟨rfl, rfl, rfl, rfl⟩
  · exact keeps_modifySession_apart p fun _ => ⟨rfl, rfl, rfl, rfl⟩
  all_goals exact .refl s

theorem keeps_vehicleDone (s : State) (p : Pedestal) : Keeps G s (s.vehicleDone p) := by
  unfold State.vehicleDone
  split
  · exact keeps_finish s p _
  · exact keeps_finish s p _
  · exact keeps_finish s p _
  all_goals exact .refl s

/-! ### Meter reports and minutes (R57 to R67) -/

theorem keeps_moveStrikes (s : State) (p : Pedestal) (strikes : Nat) (outcome : Option Bool) :
    Keeps G s (s.moveStrikes p strikes outcome) := by
  have hstrikes (n : Nat) : Keeps G s (s.modifyAccrual p fun a => { a with strikes := n }) := keeps_modifyAccrual_apart p fun _ => ⟨rfl, rfl⟩
  unfold State.moveStrikes
  split
  · exact .refl s
  · exact hstrikes 0
  · split
    · exact hstrikes _
    · split
      · exact ((hstrikes 3).trans (keeps_raiseCondition _ p _)).trans (keeps_finish _ p .overdraw)
      · exact keeps_raiseCondition s p _

/-- An amount added to one bucket is added to their sum. -/
theorem sum_buckets_set (v : Vector Nat 5) (bucket : Fin 5) (n : Nat) :
    (v.set bucket.val (v[bucket.val] + n)).toList.sum = v.toList.sum + n := by
  have hset : ((List.finRange 5).map fun i => (v.set bucket.val (v[bucket.val] + n))[i.val]) =
      (List.finRange 5).map fun i => v[i.val] + if i = bucket then n else 0 := by
    refine List.map_congr_left fun i _ => ?_
    by_cases hi : i = bucket
    · subst hi; simp
    · have hval : bucket.val ≠ i.val := fun hv => hi (Fin.ext hv.symm)
      simp [hi, hval]
  rw [toList_eq_map, hset, sum_map_add, sum_map_single (List.nodup_finRange 5) (List.mem_finRange bucket), ← toList_eq_map]

/-- Every unit of energy priced goes into the bucket of its band (R56, R59). -/
theorem sums_price (register : Nat) (bucket : Fin 5) (price : Nat) {a : Accrual} (h : a.Sums) : (a.price register bucket price).Sums := by
  rw [Accrual.Sums] at h ⊢
  simp only [Accrual.price, sum_buckets_set, h]

theorem keeps_priceReport (s : State) (p : Pedestal) (e : Session) (register : Nat) : Keeps G s (s.priceReport p e register) := by
  unfold State.priceReport
  refine (Keeps.trans (Keeps.trans (keeps_modifyAccrual p fun a => sums_price register _ _) (keeps_moveStrikes _ p _ _))
    (keeps_modifyAccrual_apart p ?_)).trans (keeps_compareHold _ p)
  exact fun _ => ⟨rfl, rfl⟩

theorem keeps_takeMeter (s : State) (p : Pedestal) (register : Nat) : Keeps G s (s.takeMeter p register) := by
  unfold State.takeMeter
  split
  · exact (keeps_raiseCondition s p _).trans (keeps_finish _ p .meterFault)
  · simp only []
    split
    · exact keeps_setLink s p _
    · split
      · refine (keeps_setLink s p _).trans (keeps_modifyAccrual_apart p ?_)
        exact fun _ => ⟨rfl, rfl⟩
      · exact (keeps_setLink s p _).trans (keeps_priceReport _ p _ register)

theorem keeps_chargeSession (s : State) (p : Pedestal) : Keeps G s (s.chargeSession p) := by
  have hcharge {f : Accrual → Accrual} (hf : ∀ a, (f a).energy = a.energy ∧ (f a).buckets = a.buckets) :
      Keeps G s ((s.modifyAccrual p f).compareHold p) := (keeps_modifyAccrual_apart p hf).trans (keeps_compareHold _ p)
  unfold State.chargeSession
  split
  · exact .refl s
  · simp only []
    split
    · split
      · exact hcharge fun _ => ⟨rfl, rfl⟩
      · exact .refl s
    · split
      · exact .refl s
      · split
        · exact keeps_modifyAccrual_apart p fun _ => ⟨rfl, rfl⟩
        · split
          · exact .refl s
          · exact hcharge fun _ => ⟨rfl, rfl⟩
    all_goals exact .refl s

theorem keeps_minutePasses (s : State) : Keeps G s s.minutePasses := by
  rw [minutePasses_eq]
  refine Keeps.trans ?_ (.foldl keeps_chargeSession _ _)
  exact .of_unread (t := s.atNextMinute) ⟨rfl, rfl, rfl, fun _ => rfl⟩ rfl rfl ⟨rfl, rfl⟩ rfl (.of_power rfl rfl rfl rfl)

end

end Sys2Proof.Machine
end

section
/-! # What protection, the field link and the modules keep (chapters 7 to 9) -/

namespace Sys2Proof.Machine

section
variable {G : Prop} {s t u : State}

/-! ### Cutoff and the safety lines (R30, R31, R131 to R136) -/

theorem keeps_addCutoff (s : State) : Keeps G s s.addCutoff := .foldl (fun s p => keeps_addReason s p .cutoff) allPedestals s

theorem keeps_removeCutoffAt (s : State) (p : Pedestal) : Keeps G s (s.removeCutoffAt p) := by
  unfold State.removeCutoffAt
  split
  · exact .refl s
  · split
    · exact (keeps_removeReason s p .cutoff).trans (keeps_judge _ p)
    · exact .refl s

theorem keeps_removeCutoff (s : State) : Keeps G s s.removeCutoff := .foldl keeps_removeCutoffAt allPedestals s

/-- The latch and its sources written: the ledger and the port do not read them. -/
theorem keeps_prot {x : Protection} (hpower : PowerKeeps G s { s with prot := x }) : Keeps G s { s with prot := x } :=
  .of_power (.of_same ⟨rfl, rfl, rfl, fun _ => rfl⟩) hpower rfl rfl ⟨rfl, rfl⟩ rfl

/-- Any other part of protection written. -/
theorem keeps_prot_apart {x : Protection} (hlatch : x.latch = s.prot.latch ∧ x.sources = s.prot.sources) : Keeps G s { s with prot := x } :=
  keeps_prot (.of_same ⟨⟨rfl, rfl⟩, hlatch, ⟨rfl, rfl⟩, fun _ => ⟨rfl, rfl⟩, fun _ => rfl⟩)

theorem keeps_setFilter (s : State) (line : SafetyLine) (f : LineFilter) : Keeps G s (s.setFilter line f) := by
  cases line
  · exact keeps_prot_apart ⟨rfl, rfl⟩
  · exact keeps_prot_apart ⟨rfl, rfl⟩

theorem keeps_clearCutoff (s : State) : Keeps G s s.clearCutoff := by
  refine Keeps.trans (keeps_prot (powerKeeps_of_cleared ?_ ?_ ?_ ?_ ?_)) (keeps_removeCutoff _) <;> rfl

theorem keeps_lineAsserted (s : State) (line : SafetyLine) : Keeps G s (s.lineAsserted line) := by
  have hsourced : PortKeeps s (s.sourced line) ∧ LedgerKeeps G s (s.sourced line) :=
    ⟨.of_same ⟨rfl, rfl, rfl, fun _ => rfl⟩, .of_same (.of_ledger rfl rfl ⟨rfl, rfl⟩ rfl)⟩
  have hrest : Keeps G (s.sourced line) ((s.sourced line).considerReduction.forceAll.addCutoff.raisePark fun d => d.addSource line) :=
    (((keeps_considerReduction _).trans (keeps_forceAll _)).trans (keeps_addCutoff _)).trans (keeps_raisePark _ _)
  refine ⟨⟨?_, powerKeeps_lineAsserted s line⟩, ?_⟩ <;> by_cases hlatch : s.prot.latch = true
  · rw [lineAsserted_of_latched hlatch]
    exact hsourced.1.trans (keeps_raisePark (G := G) _ _).port
  · rw [lineAsserted_of_clear (by simpa using hlatch)]
    exact hsourced.1.trans hrest.port
  · rw [lineAsserted_of_latched hlatch]
    exact hsourced.2.trans (keeps_raisePark _ _).ledger
  · rw [lineAsserted_of_clear (by simpa using hlatch)]
    exact hsourced.2.trans hrest.ledger

theorem keeps_sampleLow (s : State) (line : SafetyLine) (count : Nat) : Keeps G s (s.sampleLow line count) := by
  unfold State.sampleLow
  simp only []
  split
  · exact (keeps_setFilter s line _).trans (keeps_lineAsserted _ line)
  · exact keeps_setFilter s line _

theorem keeps_sampleHigh (s : State) (line : SafetyLine) (count : Nat) : Keeps G s (s.sampleHigh line count) := by
  unfold State.sampleHigh
  simp only []
  split
  · exact keeps_setFilter s line _
  · exact keeps_setFilter s line _

/-! ### The sag monitor (R139 to R144) -/

theorem keeps_lowReading (s : State) : Keeps G s s.lowReading := by
  have hlow : Keeps G s { s with prot := { s.prot with live := .sag, recoveryHold := none, derate := true } } := keeps_prot_apart ⟨rfl, rfl⟩
  unfold State.lowReading
  simp only []
  split
  · exact hlow
  · exact (hlow.trans (keeps_considerReduction _)).trans (keeps_raisePark _ _)

theorem keeps_takeVolts (s : State) (reading : Nat) : Keeps G s (s.takeVolts reading) := by
  unfold State.takeVolts
  simp only []
  split
  · exact .refl s
  · split
    · exact keeps_prot_apart ⟨rfl, rfl⟩
    · split
      · refine Keeps.trans (keeps_prot_apart ?_) (keeps_lowReading _)
        exact ⟨rfl, rfl⟩
      · exact keeps_prot_apart ⟨rfl, rfl⟩

theorem keeps_meterSilent (s : State) : Keeps G s s.meterSilent := by
  unfold State.meterSilent
  simp only []
  refine (keeps_raiseField s _).trans (Keeps.trans (keeps_prot_apart ?_) (keeps_lowReading _))
  exact ⟨rfl, rfl⟩

theorem keeps_sagConfigured (s : State) (before : Bool) : Keeps G s (s.sagConfigured before) := by
  unfold State.sagConfigured
  split
  · exact keeps_prot_apart ⟨rfl, rfl⟩
  · exact keeps_prot_apart ⟨rfl, rfl⟩
  all_goals exact .refl s

/-! ### The field link (R147, R154 to R159) -/

theorem keeps_heardFrom (s : State) (p : Pedestal) : Keeps G s (s.heardFrom p) := by
  unfold State.heardFrom
  simp only []
  split
  · exact (keeps_setLink s p _).trans (keeps_linkReturned _ p)
  · exact keeps_setLink s p _

theorem keeps_heardAndJudged (s : State) (p : Pedestal) : Keeps G s (s.heardAndJudged p) := by
  unfold State.heardAndJudged
  split
  · exact (keeps_heardFrom s p).trans (keeps_judge _ p)
  · exact keeps_heardFrom s p

theorem keeps_heardMeter (s : State) (p : Pedestal) (register : Nat) : Keeps G s (s.heardMeter p register) := by
  unfold State.heardMeter
  simp only []
  split
  · exact (keeps_heardFrom s p).trans (keeps_takeMeter _ p register)
  · exact (keeps_heardAndJudged s p).trans (keeps_takeMeter _ p register)

theorem keeps_goSilent (s : State) (p : Pedestal) : Keeps G s (s.goSilent p) := by
  unfold State.goSilent
  exact ((keeps_setLink s p _).trans (keeps_raiseCondition _ p _)).trans (keeps_linkSilent _ p)

theorem keeps_takeRestarted (s : State) (p : Pedestal) (plugged : Bool) : Keeps G s (s.takeRestarted p plugged) := by
  unfold State.takeRestarted
  exact ((((keeps_setLink s p _).trans (keeps_dropOrders _ p)).trans (keeps_endQuery _ p _ _)).trans (keeps_raiseCondition _ p _)).trans
    (keeps_restartReported _ p plugged)

theorem keeps_takeAnswer (s : State) (p : Pedestal) (epoch : Nat) (code : Byte) (data : List Byte) :
    Keeps G s (s.takeAnswer p epoch code data) := by
  unfold State.takeAnswer
  split
  · exact .refl s
  · split
    · exact keeps_endQuery s p _ _
    · exact .refl s

theorem keeps_takeToken (s : State) (p : Pedestal) (token : Token) : Keeps G s (s.takeToken p token) := by
  unfold State.takeToken
  split
  · refine Keeps.trans (keeps_setSlot_same ?_) (keeps_markChanged _ p)
    rfl
  · exact .refl s

/-! ### Modules (R113 to R125) -/

/-- An order for a module, and its record written. -/
theorem portKeeps_moduleOrder {o : Order} (h : ∀ p e c, o ≠ .query p e c) (m : ModuleNo) (r : ModuleRecord) :
    PortKeeps s ((s.placeOrder o).setModule m r) :=
  (portKeeps_placeOrder s h).trans (.of_same ⟨rfl, rfl, rfl, fun _ => rfl⟩)

/-- A setpoint ordered. -/
theorem portKeeps_orderSetpoint (s : State) (p : Pedestal) (kw : Nat) : PortKeeps s (s.orderSetpoint p kw) := by
  rw [orderSetpoint_eq_repowered]
  exact portKeeps_repowered s _ _ _

theorem keeps_openContactor {m : ModuleNo} (hnames : (s.module m).state.names = true) (hstate : (s.module m).state ≠ .assigned) :
    Keeps G s (s.openContactor m) := by
  apply Keeps.of_power (portKeeps_moduleOrder (o := .openContact m) (by simp) m _) (powerSteady_openContactor hnames hstate).keeps <;> simp

theorem keeps_closeContactor {m : ModuleNo} (hstate : (s.module m).state = .precharge) : Keeps G s (s.closeContactor m) := by
  apply Keeps.of_power (portKeeps_moduleOrder (o := .close m) (by simp) m _) (powerSteady_closeContactor hstate).keeps <;> simp

theorem keeps_moduleClosed {m : ModuleNo} (hstate : (s.module m).state = .contactClose) : Keeps G s (s.moduleClosed m) := by
  have hport : PortKeeps s (s.moduleClosed m) := by
    unfold State.moduleClosed
    simp only []
    split
    · exact portKeeps_moduleOrder (o := .ramp m) (by simp) m _
    · split
      · exact .of_same ⟨rfl, rfl, rfl, fun _ => rfl⟩
      · refine PortKeeps.trans (.of_same ?_) (portKeeps_orderSetpoint _ _ _)
        exact ⟨rfl, rfl, rfl, fun _ => rfl⟩
  apply Keeps.of_power hport (powerSteady_moduleClosed hstate).keeps <;> simp

/-- A module that serves no pedestal is written. -/
theorem keeps_setModule {m : ModuleNo} {r : ModuleRecord} (hstate : (s.module m).state ≠ .assigned) (hgoes : (s.module m).Goes r) :
    Keeps G s (s.setModule m r) :=
  .of_power (.of_same ⟨rfl, rfl, rfl, fun _ => rfl⟩) (powerSteady_setModule hstate hgoes).keeps rfl rfl ⟨rfl, rfl⟩ rfl

theorem keeps_moduleFreed {m : ModuleNo} (hstate : (s.module m).state = .contactOpen) : Keeps G s (s.moduleFreed m) :=
  keeps_setModule (by simp [hstate]) (goes_freed hstate)

theorem keeps_faultModule {m : ModuleNo} {origin : FaultOrigin} {code : Byte} (hpresent : (s.module m).state ≠ .absent)
    (hcode : origin ≠ .reported → code = 0) : Keeps G s (s.faultModule m origin code) := by
  have hlowered (u : State) (p : Option Pedestal) : PortKeeps u (u.lowerToAssigned p) := by
    obtain ⟨a, os, heq⟩ := lowerToAssigned_eq u p
    rw [heq]
    exact portKeeps_repowered u _ _ _
  have hport : PortKeeps s (s.faultModule m origin code) := by
    unfold State.faultModule
    simp only []
    refine PortKeeps.trans ?_ ((portKeeps_placeOrder _ (by simp)).trans (keeps_raisePark (G := G) _ _).port)
    split
    · refine PortKeeps.trans (.of_same ?_) (hlowered _ _)
      exact ⟨rfl, rfl, rfl, fun _ => rfl⟩
    · exact .of_same ⟨rfl, rfl, rfl, fun _ => rfl⟩
  apply Keeps.of_power hport (powerSteady_faultModule hpresent hcode).keeps <;> simp

theorem keeps_takeContact (s : State) (m : ModuleNo) (value : Contact) : Keeps G s (s.takeContact m value) := by
  unfold State.takeContact
  split
  next h => exact keeps_faultModule (by simp [h]) fun _ => rfl
  next h => exact keeps_faultModule (by simp [h]) fun _ => rfl
  next h => exact keeps_moduleClosed h
  next h => exact keeps_faultModule (by simp [h]) fun _ => rfl
  next h => exact keeps_faultModule (by simp [h]) fun _ => rfl
  next h => exact keeps_openContactor (by simp [h, ModuleState.names]) (by simp [h])
  next h => exact keeps_moduleFreed h
  all_goals exact .refl s

theorem keeps_takeFault (s : State) (m : ModuleNo) (code : Byte) : Keeps G s (s.takeFault m code) := by
  by_cases hout : (s.module m).state = .absent ∨ (s.module m).state = .faulted
  · have hsame : s.takeFault m code = s := by
      unfold State.takeFault
      rcases hout with h | h <;> simp [h]
    rw [hsame]
    exact .refl s
  · have hfault : s.takeFault m code = s.faultModule m .reported code := by
      unfold State.takeFault
      split <;> simp_all
    rw [hfault]
    exact keeps_faultModule (fun h => hout (Or.inl h)) (by simp)

theorem keeps_returnModule {m : ModuleNo} (hstate : (s.module m).state = .faulted) : Keeps G s (s.returnModule m) := by
  have hport : PortKeeps s (s.returnModule m) := by
    refine PortKeeps.trans (.of_same ?_) (portKeeps_moduleOrder (o := .openContact m) (by simp) m _)
    exact ⟨rfl, rfl, rfl, fun _ => rfl⟩
  have hpower : PowerSteady s (s.returnModule m) := by
    refine (powerSteady_setModule (by simp [hstate]) (goes_returned hstate (s.now + s.params.contactMs))).trans (.of_same ⟨?_, ?_, ?_, ?_, ?_⟩)
    · simp [State.returnModule]
    · simp [State.returnModule]
    · simp [State.returnModule]
    · simp [State.returnModule]
    · intro k
      by_cases hk : k = m
      · subst hk
        simp [State.returnModule, State.openContactor, State.contactTimer]
      · simp [State.returnModule, State.openContactor, hk]
  apply Keeps.of_power hport hpower.keeps <;> simp [State.returnModule]

/-- What the sending of an order tells its owner (R114, R151). -/
theorem keeps_orderReported (s : State) (o : Order) : Keeps G s (s.orderReported o) := by
  unfold State.orderReported
  split
  next m _ =>
    split
    next hwaits =>
      have hstate : (s.module m).state = .precharge := by
        simp only [State.awaitsSend, Bool.and_eq_true, beq_iff_eq] at hwaits
        exact hwaits.1.1
      exact keeps_setModule (by simp [hstate]) (goes_timed hstate _)
    · exact .refl s
  next p _ _ =>
    unfold State.markSent
    split
    · exact .refl s
    · exact keeps_setLink s p _
  all_goals exact .refl s

/-- An accepted report (R147, R148). -/
theorem keeps_takeReport (s : State) (r : Report) : Keeps G s (s.takeReport r) := by
  cases r with
  | plug p plugged =>
    refine (keeps_heardAndJudged s p).trans ?_
    simp only [State.takeReport]
    split
    · exact keeps_plugIn _ p
    · exact keeps_unplug _ p
  | token p token => exact (keeps_heardAndJudged s p).trans (keeps_takeToken _ p token)
  | vehicle p ready request =>
    refine (keeps_heardAndJudged s p).trans ?_
    simp only [State.takeReport]
    split
    · exact keeps_vehicleReady _ p request
    · exact keeps_vehicleDone _ p
  | meter p register => exact keeps_heardMeter s p register
  | restarted p plugged => exact (keeps_heardAndJudged s p).trans (keeps_takeRestarted _ p plugged)
  | answer p epoch code data => exact (keeps_heardAndJudged s p).trans (keeps_takeAnswer _ p epoch code data)
  | moduleState m value => exact keeps_takeContact s m value
  | moduleFault m code => exact keeps_takeFault s m code
  | volts reading => exact keeps_takeVolts s reading

end

end Sys2Proof.Machine
end

section
/-! # What the requests keep (chapters 2, 3, 5, 11) -/

namespace Sys2Proof.Machine

section
variable {G : Prop} {s t u : State}

/-! ### Control, notices and power -/

theorem keeps_commission (s : State) (body : List Byte) : Keeps G s (s.commission body).1 := by
  unfold State.commission
  simp only []
  split
  · exact .refl s
  · split
    · exact .refl s
    next hwarm hin =>
      refine .of_power (.of_same ⟨rfl, rfl, rfl, fun _ => rfl⟩) ?_ rfl rfl ⟨rfl, rfl⟩ rfl
      exact powerKeeps_of_commissioned (c := commissioningAt body) (by simpa using hwarm) (by simpa using hin) ⟨rfl, rfl⟩ (fun _ => rfl)
        (fun m => by simp [accept, State.module]) rfl ⟨rfl, rfl⟩

/-- The parameters in force are read by none of the laws. -/
theorem keeps_params (s : State) (c : Params) : Keeps G s { s with control := { s.control with params := c } } :=
  .of_unread ⟨rfl, rfl, rfl, fun _ => rfl⟩ rfl rfl ⟨rfl, rfl⟩ rfl
    ⟨⟨rfl, rfl⟩, ⟨rfl, rfl⟩, ⟨rfl, rfl⟩, fun _ => ⟨rfl, rfl⟩, fun _ => rfl⟩

theorem keeps_configure (s : State) (body : List Byte) : Keeps G s (s.configure body).1 := by
  unfold State.configure
  simp only []
  split
  · exact (keeps_params s _).trans (keeps_sagConfigured _ _)
  · exact .refl s

theorem keeps_timeSet (s : State) (body : List Byte) : Keeps G s (s.timeSet body).1 := by
  unfold State.timeSet
  simp only []
  split
  · exact keeps_clock s _
  · exact .refl s

/-- A class's flags written soundly. -/
theorem keeps_setFlags {c : NoticeClass} {f : ClassFlags} (hf : s.PendingSound → f.pending = true → f.masked = true ∧ f.latch = true) :
    Keeps G s (s.setFlags c f) :=
  .of_port (.of_flags rfl rfl rfl fun h => pendingSound_setFlags (hf h) h) rfl rfl ⟨rfl, rfl⟩ rfl rfl rfl rfl rfl

theorem keeps_maskClass (s : State) (c : NoticeClass) (masked : Bool) : Keeps G s (s.maskClass c masked) := by
  unfold State.maskClass
  simp only []
  split
  · refine Keeps.trans (keeps_setFlags ?_) (keeps_pushOutput _ _)
    exact fun _ h => by cases h
  next hkeep =>
    refine keeps_setFlags fun h hpending => ?_
    obtain ⟨hmasked, hlatch⟩ := h c hpending
    refine ⟨?_, hlatch⟩
    refine Classical.byContradiction fun hopen => ?_
    exact hkeep ⟨hmasked, hpending, by simpa using hopen⟩

theorem keeps_maskClasses (s : State) (map : Nat) : Keeps G s (s.maskClasses map) :=
  .foldl (fun s c => keeps_maskClass s c (maskBit map c)) allClasses s

/-- Slots written with the sessions they hold. -/
theorem keeps_slots {v : Vector Slot 16} (h : ∀ p : Pedestal, v[p.val].session = (s.slot p).session) : Keeps G s { s with slots := v } :=
  ⟨⟨.of_same ⟨rfl, rfl, rfl, fun _ => rfl⟩, .of_same (.of_power rfl rfl rfl rfl)⟩, .of_same (.of_slots h rfl ⟨rfl, rfl⟩ fun _ => rfl)⟩

/-- The detail of a class emptied. -/
theorem keeps_clearDetail (s : State) (c : NoticeClass) : Keeps G s (s.clearDetail c) := by
  have hdetail {n : NoticeUnit} (h : ∀ c, n.flags c = s.notices.flags c) : Keeps G s { s with notices := n } :=
    .of_port (.of_same ⟨rfl, rfl, rfl, h⟩) rfl rfl ⟨rfl, rfl⟩ rfl rfl rfl rfl rfl
  cases c with
  | session => exact keeps_slots fun p => by rw [Vector.getElem_ofFn]
  | settle => exact .refl s
  | hold => exact hdetail fun c => by cases c <;> rfl
  | park => exact hdetail fun c => by cases c <;> rfl
  | field => exact hdetail fun c => by cases c <;> rfl

theorem keeps_statusClear (s : State) (body : List Byte) : Keeps G s (s.statusClear body).1 := by
  unfold State.statusClear
  split
  · exact .refl s
  · refine (keeps_clearDetail s _).trans (keeps_setFlags ?_)
    exact fun _ h => by cases h

theorem keeps_sessionCap (s : State) (body : List Byte) : Keeps G s (s.sessionCap body).1 := by
  unfold State.sessionCap
  split
  · exact .refl s
  · split
    · exact .refl s
    · exact keeps_setAllot ⟨rfl, rfl⟩

/-- The Apportioner's caps are read by none of the laws. -/
theorem keeps_gridCap (s : State) (cap : Nat) (staged : Option Nat) :
    Keeps G s { s with alloc := { s.alloc with gridCap := cap, stagedGridCap := staged } } :=
  .of_unread ⟨rfl, rfl, rfl, fun _ => rfl⟩ rfl rfl ⟨rfl, rfl⟩ rfl
    ⟨⟨rfl, rfl⟩, ⟨rfl, rfl⟩, ⟨rfl, rfl⟩, fun _ => ⟨rfl, rfl⟩, fun _ => rfl⟩

theorem keeps_curtail (s : State) (body : List Byte) : Keeps G s (s.curtail body).1 := by
  have htaken (cap : Nat) : Keeps G s (s.curtailTo cap) := by
    unfold State.curtailTo
    split
    · exact (keeps_gridCap s cap none).trans (keeps_considerReduction _)
    · exact keeps_gridCap s s.alloc.gridCap (some cap)
  unfold State.curtail
  simp only []
  split
  · exact .refl s
  · split
    · exact .refl s
    · exact (htaken _).trans (keeps_startTransmit _)

theorem keeps_cutoffClear (s : State) : Keeps G s s.cutoffClear.1 := by
  have hcleared := keeps_clearCutoff (G := G) s
  unfold State.cutoffClear
  generalize s.clearCutoff = t at hcleared
  split
  · exact .refl s
  · split
    · exact hcleared
    · exact .refl s

theorem keeps_moduleReturn (s : State) (body : List Byte) : Keeps G s (s.moduleReturn body).1 := by
  unfold State.moduleReturn
  split
  · exact .refl s
  next m _ =>
    split
    next hfaulted =>
      show Keeps G s (s.returnModule m).startTransmit
      exact (keeps_returnModule hfaulted).trans (keeps_startTransmit _)
    · exact .refl s

/-! ### The field link -/

theorem keeps_pedestalRestart (s : State) (body : List Byte) : Keeps G s (s.pedestalRestart body).1 := by
  unfold State.pedestalRestart
  split
  · exact .refl s
  next p _ =>
    split
    · exact .refl s
    · split
      · exact .refl s
      · exact ((((keeps_setLink s p _).trans (keeps_placeOrder _ (by simp))).trans (keeps_endQuery _ p _ _)).trans
          (keeps_restartOrdered _ p)).trans (keeps_startTransmit _)

theorem keeps_pedestalQuery (s : State) (tag : Byte) (body : List Byte) : Keeps G s (s.pedestalQuery tag body).1 := by
  unfold State.pedestalQuery
  split
  · exact .refl s
  next p _ =>
    split
    · exact .refl s
    · split
      · exact .refl s
      · split
        · exact .refl s
        next hempty =>
          have hplaced : Keeps G s (s.enqueue (.query p (s.link p).epoch (body.getD 1 0))) :=
            .of_port (portKeeps_enqueue (by simpa [Order.place] using hempty)) rfl rfl ⟨rfl, rfl⟩ rfl rfl rfl rfl rfl
          exact (hplaced.trans (keeps_setLink _ p _)).trans (keeps_startTransmit _)

/-! ### Tariffs and settlement records (R44 to R47, R82) -/

/-- A tariff slot written: its count of sessions stays, and its version unless no session names it. -/
theorem keeps_setTariff {n : TariffNo} {x : TariffSlot} (hcount : x.references = (s.tariff n).references)
    (hversion : (s.tariff n).references = 0 ∨
      ((s.tariff n).state ≠ .empty → x.state ≠ .empty) ∧ x.version = (s.tariff n).version) : Keeps G s (s.setTariff n x) := by
  refine ⟨runs_setTariff s n x, ⟨id, id, id, fun _ h k => ?_⟩⟩
  obtain ⟨hreferences, hbilled⟩ := h k
  by_cases hk : k = n
  · subst hk
    rw [tariff_setTariff]
    refine ⟨hcount.trans hreferences, fun p e he hek => ?_⟩
    have he' : (s.slot p).session = some e := he
    rcases hversion with hnone | ⟨hstate, hversion⟩
    · have hin : p ∈ allPedestals.filter fun p => ((s.slot p).session.map Session.tariff) == some k := by simp [he', hek]
      have hpos : 0 < s.sessionsOn k := List.length_pos_of_mem hin
      omega
    · obtain ⟨hpresent, hsame⟩ := hbilled p e he hek
      exact ⟨hstate hpresent, hversion.trans hsame⟩
  · rw [tariff_setTariff_ne _ _ hk]
    exact ⟨hreferences, hbilled⟩

theorem keeps_tariffLoad (s : State) (body : List Byte) : Keeps G s (s.tariffLoad body).1 := by
  unfold State.tariffLoad
  split
  · exact .refl s
  · simp only []
    split
    · exact .refl s
    · split
      · exact .refl s
      next hnone _ => exact keeps_setTariff rfl (Or.inl (by simpa using hnone))

theorem keeps_tariffRetire (s : State) (body : List Byte) : Keeps G s (s.tariffRetire body).1 := by
  unfold State.tariffRetire
  split
  · exact .refl s
  · split
    · exact keeps_setTariff rfl (Or.inr ⟨by simp, rfl⟩)
    all_goals exact .refl s

theorem keeps_settleFree (s : State) (body : List Byte) : Keeps G s (s.settleFree body).1 := by
  unfold State.settleFree
  split
  · exact .refl s
  next head rest hsettlements =>
    split
    · have hin {r : Settlement} (hr : r ∈ rest) : r ∈ s.settlements := by simp [hsettlements, hr]
      refine ⟨⟨.of_same ⟨rfl, rfl, rfl, fun _ => rfl⟩, .of_same (.of_power rfl rfl rfl rfl)⟩, ⟨fun h => ?_, fun ⟨hsums, hsound⟩ =>
        ⟨hsums, fun r hr => hsound r (hin hr)⟩, ?_, fun _ h => h⟩⟩
      · have hlength : s.openCount + s.settlements.length ≤ 24 := h
        rw [hsettlements, List.length_cons] at hlength
        exact Nat.le_of_succ_le hlength
      · rintro ⟨hlow, hhigh, hissued, hunique, hrecords, hapart, hpairwise⟩
        rw [hsettlements] at hpairwise
        exact ⟨hlow, hhigh, hissued, hunique, fun r hr => hrecords r (hin hr), fun r hr => hapart r (hin hr), (List.pairwise_cons.1 hpairwise).2⟩
    · exact .refl s

/-! ### Sessions -/

theorem runs_openSession (s : State) (p : Pedestal) (n : TariffNo) (hold : Nat) (cap : Cap) : Runs G s (s.openSession p n hold cap) := by
  have hissued : Runs G s s.issueNumber := by
    unfold State.issueNumber
    split
    · exact ⟨.of_same ⟨rfl, rfl, rfl, fun _ => rfl⟩, .of_same (.of_power rfl rfl rfl rfl)⟩
    · exact ⟨.of_same ⟨rfl, rfl, rfl, fun _ => rfl⟩, .of_same (.of_power rfl rfl rfl rfl)⟩
  unfold State.openSession
  refine ((((hissued.trans (runs_setTariff _ n _)).trans (keeps_clock _ _).toRuns).trans (keeps_setAllot ?_).toRuns).trans
    (runs_setSlot _ p _)).trans ((keeps_goTo _ p .starting).trans (keeps_placeOrder _ (by simp))).toRuns
  exact ⟨rfl, rfl⟩

/-- What an AUTHORISE that passes its checks has found (R7). -/
theorem of_authoriseChecks {p : Pedestal} {tariff hold : Nat} {cap : Option Cap} {n : TariffNo} {c : Cap}
    (h : s.authoriseChecks p tariff hold cap = .inr (n, c)) :
    (s.slot p).state = .plugged ∧ (s.tariff n).state = .active ∧ s.openCount + s.settlements.length < 24 ∧ s.exhausted = false := by
  unfold State.authoriseChecks at h
  split at h
  · cases h
  split at h
  · cases h
  split at h
  · cases h
  next hplugged =>
  split at h
  · cases h
  split at h
  · cases h
  · cases h
  next t cap' hactive =>
  split at h
  · cases h
  split at h
  · cases h
  next hroom =>
  split at h
  · cases h
  next hopen =>
  cases h
  have hstate := (Option.filter_eq_some_iff.1 hactive).2
  exact ⟨by simpa using hplugged, by simpa using hstate, Nat.not_le.1 hroom, by simpa using hopen⟩

/-- AUTHORISE (R7, R8): with the slots sound, no session is open on a PLUGGED slot. -/
theorem keeps_authorise (s : State) (body : List Byte) (hG : G → s.SlotsSound) : Keeps G s (s.authorise body).1 := by
  unfold State.authorise
  split
  · exact .refl s
  next p _ =>
    simp only []
    split
    · exact .refl s
    next n cap hchecks =>
      obtain ⟨hplugged, hactive, hroom, hopen⟩ := of_authoriseChecks hchecks
      have hfree : G → (s.slot p).session = none := fun g => by
        have hsession := (hG g p).1
        rw [hplugged] at hsession
        simpa [SlotState.isOpen] using hsession
      exact Keeps.trans ⟨runs_openSession s p n _ cap, ledgerKeeps_openSession hopen hactive hroom hfree⟩ (keeps_startTransmit _)

theorem keeps_deny (s : State) (body : List Byte) : Keeps G s (s.deny body).1 := by
  unfold State.deny
  split
  · exact .refl s
  · split
    · exact (keeps_refuseSlot s _).trans (keeps_startTransmit _)
    · exact .refl s

theorem keeps_stop (s : State) (body : List Byte) : Keeps G s (s.stop body).1 := by
  unfold State.stop
  split
  · exact .refl s
  · split
    · exact .refl s
    · exact (keeps_finish s _ _).trans (keeps_startTransmit _)

theorem withoutHold_apart (e : Session) :
    e.withoutHold.number = e.number ∧ e.withoutHold.tariff = e.tariff ∧ e.withoutHold.version = e.version ∧
      e.withoutHold.accrual = e.accrual := by
  unfold Session.withoutHold
  split <;> exact ⟨rfl, rfl, rfl, rfl⟩

theorem keeps_extendSession (s : State) (p : Pedestal) (hold : Nat) : Keeps G s (s.extendSession p hold) := by
  unfold State.extendSession
  refine (Keeps.trans (keeps_modifyAccrual_apart p ?_) (keeps_modifySession_apart p withoutHold_apart)).trans
    ((keeps_compareHold _ p).trans (keeps_judge _ p))
  exact fun _ => ⟨rfl, rfl⟩

theorem keeps_extendHold (s : State) (body : List Byte) : Keeps G s (s.extendHold body).1 := by
  unfold State.extendHold
  simp only []
  split
  · exact .refl s
  · split
    · exact .refl s
    · split
      · exact .refl s
      · split
        · exact .refl s
        · exact (keeps_extendSession s _ _).trans (keeps_startTransmit _)

theorem keeps_pedestalMode (s : State) (body : List Byte) : Keeps G s (s.pedestalMode body).1 := by
  unfold State.pedestalMode
  split
  · split
    · exact keeps_setSlot_same rfl
    · exact .refl s
  · exact .refl s

end

end Sys2Proof.Machine
end

section
/-! # What restarts and the supplies keep, along any part of a sequence (R182 to R185) -/

namespace Sys2Proof.Machine

/-! ### Sequences that may be cut (R185) -/

/-- Every action of a sequence, at the state where it is reached. -/
def State.Chain (R : State → State → Prop) : State → List (State → State) → Prop
  | _, [] => True
  | s, f :: fs => R s (f s) ∧ State.Chain R (f s) fs

section
variable {G : Prop} {s t u : State}

/-- A sequence, cut anywhere, keeps what each of its actions keeps. -/
theorem keeps_take_of_chain {fs : List (State → State)} (h : s.Chain (Keeps G) fs) (k : Nat) :
    Keeps G s ((fs.take k).foldl (fun s step => step s) s) := by
  induction fs generalizing s k with
  | nil => rw [List.take_nil]; exact .refl s
  | cons f fs ih =>
    cases k with
    | zero => exact .refl s
    | succ k => exact h.1.trans (ih h.2 k)

/-- And run to its end. -/
theorem keeps_runSteps {fs : List (State → State)} (h : s.Chain (Keeps G) fs) (cut : Option Nat) : Keeps G s (runSteps cut fs s) := by
  cases cut with
  | none =>
    have hall := keeps_take_of_chain h fs.length
    rwa [List.take_length] at hall
  | some k => exact keeps_take_of_chain h k

/-! ### The host port, the field link and the notice unit -/

/-- The host port written, with its request queue within its places. -/
theorem keeps_host {h : HostPort} (hrequests : s.RequestsBounded → h.requests.length ≤ 4) : Keeps G s { s with host := h } :=
  .of_port ⟨rfl, id, hrequests, id⟩ rfl rfl ⟨rfl, rfl⟩ rfl rfl rfl rfl rfl

/-- The field link written, with an empty queue. -/
theorem keeps_field {f : FieldLink} (hqueue : f.queue = []) : Keeps G s { s with field := f } := by
  refine .of_port ⟨rfl, fun _ => ?_, id, id⟩ rfl rfl ⟨rfl, rfl⟩ rfl rfl rfl rfl rfl
  rw [State.OnePerPlace, hqueue]
  exact List.Pairwise.nil

/-- The links written. -/
theorem keeps_links (s : State) (v : Vector Link 16) : Keeps G s { s with field := { s.field with links := v } } :=
  .of_unread ⟨rfl, rfl, rfl, fun _ => rfl⟩ rfl rfl ⟨rfl, rfl⟩ rfl (.of_power rfl rfl rfl rfl)

/-- What Restart Control holds beside the commissioning record is read by none of the laws. -/
theorem keeps_control {x : RestartControl} (h : x.commissioned = s.control.commissioned ∧ x.record = s.control.record) :
    Keeps G s { s with control := x } :=
  .of_unread ⟨rfl, rfl, rfl, fun _ => rfl⟩ rfl rfl ⟨rfl, rfl⟩ rfl ⟨⟨rfl, rfl⟩, ⟨rfl, rfl⟩, h, fun _ => ⟨rfl, rfl⟩, fun _ => rfl⟩

/-- The notice unit written soundly. -/
theorem keeps_notices {n : NoticeUnit} (h : ∀ c, (n.flags c).pending = true → (n.flags c).masked = true ∧ (n.flags c).latch = true) :
    Keeps G s { s with notices := n } :=
  .of_port (.of_flags rfl rfl rfl fun _ => h) rfl rfl ⟨rfl, rfl⟩ rfl rfl rfl rfl rfl

/-- The notice unit of a restart is sound (R176). -/
theorem pendingSound_restartedNotices (kind : RestartKind) (records : Bool) (c : NoticeClass)
    (h : ((restartedNotices kind records).flags c).pending = true) :
    ((restartedNotices kind records).flags c).masked = true ∧ ((restartedNotices kind records).flags c).latch = true := by
  cases c with
  | settle => exact ⟨rfl, h⟩
  | park => exact ⟨rfl, rfl⟩
  | session | hold | field => cases h

theorem keeps_restartNotices (s : State) (kind : RestartKind) : Keeps G s (s.restartNotices kind) :=
  (keeps_notices (pendingSound_restartedNotices kind (!s.settlements.isEmpty))).trans (keeps_control ⟨rfl, rfl⟩)

/-! ### Power in a restart (R109, R130, R132) -/

/-- No power is to be had and no module switches: what a restart leaves before it sets the latch. -/
structure State.Dark (s : State) : Prop where
  limits : s.alloc.pAv = 0 ∧ s.alloc.budget = 0
  off : ∀ m, (s.module m).state.switching = false

/-- Allotments written cold. -/
theorem powerKeeps_of_cold (hlimits : t.alloc.pAv = 0 ∧ t.alloc.budget = 0) (hallot : ∀ p, t.allot p = .cold)
    (hmodules : s.ModulesSound → t.ModulesSound) (hsource : s.LatchHasSource → t.LatchHasSource)
    (hoff : s.CutoffHolds → t.prot.latch = true → ∀ m, (t.module m).state.switching = false) : PowerKeeps G s t := by
  refine ⟨⟨fun _ => ?_, fun _ _ _ p => ?_, hmodules⟩, fun _ hs hcut => ⟨hsource hs, fun hlatch => ?_⟩⟩
  · refine powerBounded_of_grants (fun p => ?_) ?_ ?_ fun _ => hlimits.1
    · rw [hallot]
      exact Nat.zero_le _
    · have hzero : sumOver (fun p => (t.allot p).grant) = 0 := sum_map_zero fun p _ => by rw [hallot]; rfl
      rw [hzero]
      exact Nat.zero_le _
    · rw [hlimits.1, hlimits.2, Nat.zero_div]
  · rw [hallot]
    exact Nat.zero_le _
  · exact ⟨hlimits.1, hlimits.2, hoff hcut hlatch⟩

/-- The modules written, none of them switching, while no pedestal has a setpoint. -/
theorem powerKeeps_of_opened (halloc : t.alloc = s.alloc) (hprot : t.prot = s.prot) (hcontrol : t.control = s.control)
    (hdark : G → ∀ p, (s.allot p).setpoint = 0) (hmodules : s.ModulesSound → t.ModulesSound)
    (hoff : ∀ m, (t.module m).state.switching = false) : PowerKeeps G s t := by
  refine ⟨⟨?_, fun g _ _ p => ?_, hmodules⟩, fun _ hsource hcut => ⟨by rwa [State.LatchHasSource, hprot], fun hlatch => ?_⟩⟩
  · simp only [State.PowerBounded, State.allot, halloc, hcontrol]
    exact id
  · rw [State.allot, halloc]
    exact Nat.le_trans (Nat.le_of_eq (hdark g p)) (Nat.zero_le _)
  · obtain ⟨hpav, hbudget, -⟩ := hcut (hprot ▸ hlatch)
    rw [halloc]
    exact ⟨hpav, hbudget, hoff⟩

/-- A module that a restart opens is sound (R130). -/
theorem sound_restartedModule {m : ModuleNo} (h : s.ModulesSound) :
    (s.restartedModule m).Sound ∧ (s.restartedModule m).window = s.control.record.windows[m.val] := by
  obtain ⟨⟨hassigned, hreach, -⟩, hwindow, hkept⟩ := h m
  unfold State.restartedModule
  simp only []
  split
  next hopened =>
    have husable : (s.control.record.windows[m.val]).first ≤ (s.control.record.windows[m.val]).last := by
      simpa [Window.usable] using hopened.2
    refine ⟨?_, rfl⟩
    cases hp : (s.module m).assigned with
    | none =>
      obtain ⟨p, hpedestal, hfirst⟩ := exists_pedestalOf_first hwindow husable
      simp only [ModuleRecord.Sound, hpedestal, State.contactTimer]
      have hlast : p.val < (s.control.record.windows[m.val]).last := by omega
      simp [ModuleState.names, hfirst, hlast, husable, hwindow]
    | some p =>
      have hpresent : (s.module m).state ≠ .absent := fun habsent => by simp [hp, habsent, ModuleState.names] at hassigned
      have hin := hreach p hp
      rw [hkept hpresent] at hin
      have hlast : p.val < (s.control.record.windows[m.val]).last := hin.2
      simp [ModuleRecord.Sound, ModuleState.names, State.contactTimer, hin, hlast, husable, hwindow]
  · refine ⟨?_, rfl⟩
    simp [ModuleRecord.Sound, ModuleRecord.cold, ModuleState.names, hwindow]

/-- The modules behind their step. -/
theorem module_restartModules (s : State) (m : ModuleNo) : s.restartModules.module m = s.restartedModule m := by
  have hopen (l : List ModuleNo) (u : State) : (l.foldl openAction u).modules = u.modules := by
    induction l generalizing u with
    | nil => rfl
    | cons k l ih =>
      rw [List.foldl_cons, ih]
      unfold openAction
      split <;> simp
  rw [State.module, State.restartModules, hopen]
  simp only [Vector.getElem_ofFn]

/-- A module that a restart opens is not switched onto a pedestal. -/
theorem off_restartedModule (s : State) (m : ModuleNo) : (s.restartedModule m).state.switching = false := by
  unfold State.restartedModule
  simp only []
  split <;> rfl

theorem keeps_restartModules (hdark : G → ∀ p, (s.allot p).setpoint = 0) : Keeps G s s.restartModules := by
  have hopen (u : State) (m : ModuleNo) : Keeps G u (openAction u m) := by
    unfold openAction
    split
    · exact keeps_placeOrder u (by simp)
    · exact .refl u
  have hmodule (m : ModuleNo) : ({ s with modules := Vector.ofFn s.restartedModule } : State).module m = s.restartedModule m := by
    rw [State.module, Vector.getElem_ofFn]
  refine Keeps.trans ?_ (.foldl hopen allModules _)
  refine .of_power (.of_same ⟨rfl, rfl, rfl, fun _ => rfl⟩) (powerKeeps_of_opened rfl rfl rfl hdark (fun h m => ?_) fun m => ?_)
    rfl rfl ⟨rfl, rfl⟩ rfl
  · obtain ⟨hsound, hwindow⟩ := sound_restartedModule (m := m) h
    rw [hmodule]
    exact ⟨hsound, (h m).2.1, fun _ => hwindow⟩
  · rw [hmodule]
    exact off_restartedModule s m

theorem keeps_restartApportioner (s : State) : Keeps G s s.restartApportioner := by
  refine .of_power (.of_same ⟨rfl, rfl, rfl, fun _ => rfl⟩) (powerKeeps_of_cold ⟨rfl, rfl⟩ (fun p => ?_) id id fun h hlatch =>
    (h hlatch).2.2) rfl rfl ⟨rfl, rfl⟩ rfl
  simp [State.restartApportioner, State.allot, Apportioner.cold]

/-- The latch is set on a part without power (R132, R137). -/
theorem keeps_restartLatch (h : s.Dark) : Keeps G s s.restartLatch := by
  refine keeps_prot ⟨powerLaws_of_latch rfl rfl rfl, fun _ _ _ => ⟨?_, fun _ => ⟨h.limits.1, h.limits.2, h.off⟩⟩⟩
  exact ⟨fun _ => Or.inr (Or.inr rfl), fun _ => rfl⟩

theorem keeps_restartSag (s : State) : Keeps G s s.restartSag := keeps_prot_apart ⟨rfl, rfl⟩

theorem keeps_endRestart (s : State) : Keeps G s s.endRestart := by
  have hended : Keeps G s
      { s with
        alloc := { s.alloc with periodTimer := if s.control.commissioned then s.after s.params.periodMs else none }
        control := { s.control with restarting := false } } :=
    .of_unread ⟨rfl, rfl, rfl, fun _ => rfl⟩ rfl rfl ⟨rfl, rfl⟩ rfl ⟨⟨rfl, rfl⟩, ⟨rfl, rfl⟩, ⟨rfl, rfl⟩, fun _ => ⟨rfl, rfl⟩, fun _ => rfl⟩
  exact hended.trans (keeps_startTransmit _)

/-! ### A supply or commanded restart (R184) -/

theorem keeps_restartSlots (hclosed : s.AllClosed) : Keeps G s s.restartSlots :=
  keeps_slots fun p => by
    rw [Vector.getElem_ofFn, hclosed p]
    rfl

theorem keeps_restartHost (s : State) : Keeps G s s.restartHost := keeps_host fun _ => Nat.zero_le _

theorem keeps_restartField (s : State) : Keeps G s s.restartField := keeps_field rfl

theorem keeps_restartLinks (s : State) : Keeps G s s.restartLinks := keeps_links s _

/-- Opened modules without power. -/
theorem dark_restartApportioner (h : ∀ m, (s.module m).state.switching = false) : s.restartApportioner.restartSag.Dark :=
  ⟨⟨rfl, rfl⟩, h⟩

/-- The steps behind the closes, each where it is reached. -/
theorem chain_restartSteps (kind : RestartKind) (hclosed : s.AllClosed) (hdark : G → ∀ p, (s.allot p).setpoint = 0) :
    s.Chain (Keeps G) (restartSteps kind) := by
  simp only [restartSteps, State.Chain, and_true]
  have hunlit : G → ∀ p, ((s.restartSlots.restartHost.restartField.restartLinks).allot p).setpoint = 0 := by
    simpa only [State.allot, State.restartLinks, State.restartField, State.restartHost, State.restartSlots] using hdark
  have hdarkened (u : State) : u.restartModules.restartApportioner.restartSag.Dark := dark_restartApportioner fun m => by
    rw [module_restartModules]
    exact off_restartedModule u m
  exact ⟨keeps_restartSlots hclosed, keeps_restartHost _, keeps_restartField _, keeps_restartLinks _, keeps_restartModules hunlit,
    keeps_restartApportioner _, keeps_restartSag _, keeps_restartLatch (hdarkened _), keeps_restartNotices _ kind, keeps_endRestart _⟩

theorem keeps_beginRestart (s : State) (straps : BitVec 2) : Keeps G s (s.beginRestart straps) := by
  have hcontrol : Keeps G s { s with control := { s.control with straps := straps, restarting := true } } := keeps_control ⟨rfl, rfl⟩
  refine hcontrol.trans (keeps_host ?_)
  exact id

/-- A restart, abandoned at any point or not (R185). -/
theorem keeps_restart (s : State) (kind : RestartKind) (straps : BitVec 2) (cut : Option Nat) (hG : G → s.SlotsSound) :
    Keeps G s (s.restart kind straps cut) := by
  have hclose (l : List Pedestal) (u : State) : Keeps G u (l.foldl (fun s p => s.closeSession p .restart) u) :=
    .foldl (fun s p => keeps_closeSession s p .restart) l u
  have hcloses : Keeps G s (s.restartCloses straps) := (keeps_beginRestart s straps).trans (hclose _ _)
  have hdark : G → ∀ p, ((s.restartCloses straps).allot p).setpoint = 0 := fun g p => by
    obtain ⟨hopen, -, hpower, -⟩ := (restarts_restartCloses s straps).slots (hG g) p
    rw [allClosed_restartCloses s straps p] at hopen
    exact (hpower fun hrun => by simp [hrun, SlotState.isOpen] at hopen).2
  have hsteps := chain_restartSteps kind (allClosed_restartCloses s straps) hdark
  have hlist : (s.beginRestart straps).openBySession = s.openBySession := rfl
  cases cut with
  | none =>
    rw [restart_none, ← foldl_restartSteps]
    have hall := keeps_runSteps hsteps none
    exact hcloses.trans hall
  | some k =>
    have hcut : (s.openBySession.map closeAction ++ restartSteps kind).take k =
        (s.openBySession.take k).map closeAction ++ (restartSteps kind).take (k - s.openBySession.length) := by
      rw [List.take_append, List.map_take, List.length_map]
    rw [State.restart, runSteps, hlist]
    simp only [hcut, List.foldl_append, List.foldl_map]
    rcases Nat.lt_or_ge s.openBySession.length k with hbehind | hwithin
    · rw [List.take_of_length_le (Nat.le_of_lt hbehind)]
      exact hcloses.trans (keeps_take_of_chain hsteps _)
    · rw [Nat.sub_eq_zero_of_le hwithin]
      exact (keeps_beginRestart s straps).trans (hclose _ _)

/-! ### A cold start (R182, R184) -/

/-- The ledger laws hold of a ledger like that of reset. -/
theorem ledgerKeeps_of_reset (h : LedgerSame State.reset t) : LedgerKeeps G s t := by
  obtain ⟨-, hplaces, -, -, -, hmoney, hnumbers, hreferences, -⟩ := resetKeepsEveryLaw
  have hkeeps : LedgerKeeps True State.reset t := .of_same h
  exact ⟨fun _ => hkeeps.places hplaces, fun _ => hkeeps.money hmoney, fun _ => hkeeps.numbers hnumbers,
    fun _ _ => hkeeps.references trivial hreferences⟩

/-- The modules of a part that has lost its power are sound under any record (R129). -/
theorem modulesSound_of_cold (hmodules : ∀ m, t.module m = .cold) (hwindows : ∀ m : ModuleNo, (t.control.record.windows[m.val]).Sound) :
    t.ModulesSound := by
  intro m
  rw [hmodules]
  exact ⟨ModuleRecord.sound_cold Window.sound_cold, hwindows m, fun h => absurd rfl h⟩

theorem keeps_coldStore (s : State) : Keeps G s s.coldStore := by
  have hmodule (m : ModuleNo) : s.coldStore.module m = .cold := module_reset m
  have hport : PortKeeps s s.coldStore := ⟨rfl, fun _ => List.Pairwise.nil, id, id⟩
  have hwindows (m : ModuleNo) : (s.coldStore.control.record.windows[m.val]).Sound := by
    simp [State.coldStore, RestartControl.cold, Commissioning.cold, Window.sound_cold]
  refine ⟨⟨hport, powerKeeps_of_cold ⟨rfl, rfl⟩ allot_reset (fun _ => modulesSound_of_cold hmodule hwindows) id fun _ _ m => ?_⟩,
    ledgerKeeps_of_reset (.of_ledger rfl rfl ⟨rfl, rfl⟩ rfl)⟩
  rw [hmodule]
  rfl

theorem keeps_endCold (s : State) : Keeps G s s.endCold := keeps_control ⟨rfl, rfl⟩

/-- A part whose store is lost has no power. -/
theorem dark_coldStore (s : State) : s.coldStore.restartHost.restartSag.Dark :=
  ⟨⟨rfl, rfl⟩, fun m => congrArg (fun r : ModuleRecord => r.state.switching) (module_reset m)⟩

/-- A cold start, abandoned at any point or not. -/
theorem keeps_coldStart (s : State) (straps : BitVec 2) (cut : Option Nat) : Keeps G s (s.coldStart straps cut) := by
  refine ((keeps_beginRestart s straps).trans (keeps_coldStore _)).trans (keeps_runSteps ?_ cut)
  simp only [coldSteps, State.Chain, and_true]
  exact ⟨keeps_restartHost _, keeps_restartSag _, keeps_restartLatch (dark_coldStore _), keeps_restartNotices _ .cold, keeps_endCold _⟩

/-! ### The supplies (R182) -/

theorem keeps_supplyLost (s : State) (backup : Bool) : Keeps G s (s.supplyLost backup) := by
  have hmodule (m : ModuleNo) : (s.supplyLost backup).module m = .cold := by simp [State.supplyLost, State.module]
  have hflags (c : NoticeClass) : (NoticeUnit.cleared.flags c).pending ≠ true := by cases c <;> simp [NoticeUnit.cleared, NoticeUnit.flags, ClassFlags.cold]
  have hport : PortKeeps s (s.supplyLost backup) :=
    ⟨rfl, fun _ => List.Pairwise.nil, fun _ => Nat.zero_le _, fun _ c h => absurd h (hflags c)⟩
  refine .of_power hport (powerKeeps_of_cold ⟨rfl, rfl⟩ (fun p => ?_) (fun h => modulesSound_of_cold hmodule fun m => (h m).2.1)
    (fun _ => ⟨fun _ => Or.inr (Or.inr rfl), fun _ => rfl⟩) fun _ _ m => ?_) rfl rfl ⟨rfl, rfl⟩ rfl
  · simp [State.supplyLost, State.allot, Apportioner.cold]
  · rw [hmodule]
    rfl

/-- The return of the main supply, before the restart. -/
theorem keeps_powered (s : State) (outage : Nat) (backup : Bool) : Keeps G s (s.powered outage backup) :=
  .of_unread ⟨rfl, rfl, rfl, fun _ => rfl⟩ rfl rfl ⟨rfl, rfl⟩ rfl
    ⟨⟨rfl, rfl⟩, ⟨rfl, rfl⟩, ⟨rfl, rfl⟩, fun _ => ⟨rfl, rfl⟩, fun _ => rfl⟩

/-- The return of the main supply (R182). -/
theorem keeps_supplyReturn (s : State) (outage : Nat) (straps : BitVec 2) (backup : Bool) (cut : Option Nat)
    (hG : G → s.SlotsSound) : Keeps G s (s.supplyReturn outage straps backup cut) := by
  have hreturn : s.supplyReturn outage straps backup cut =
      if (s.powered outage backup).control.marker = true then (s.powered outage backup).restart .supply straps cut
      else (s.powered outage backup).coldStart straps cut := rfl
  rw [hreturn]
  split
  · exact (keeps_powered s outage backup).trans (keeps_restart _ .supply straps cut hG)
  · exact (keeps_powered s outage backup).trans (keeps_coldStart _ straps cut)

end

end Sys2Proof.Machine
end

section
/-! # What every command keeps -/

namespace Sys2Proof.Machine

/-- A command answers a next state, and the laws go on there. -/
def Kept (G : Prop) (s : State) (r : Result) : Prop := ∃ t, r = .next t ∧ Keeps G s t

section
variable {G : Prop} {s t u : State}

theorem Kept.of_next (h : Keeps G s t) : Kept G s (.next t) := ⟨t, rfl, h⟩

theorem Kept.idle (s : State) : Kept G s (.next s) := .of_next (.refl s)

/-- The taking of a request. -/
theorem keeps_dropHead (s : State) : Keeps G s s.dropHead :=
  keeps_host fun h => Nat.le_trans (Nat.le_of_eq List.length_tail) (Nat.le_trans (Nat.sub_le _ _) h)

/-- The reply to a request. -/
theorem keeps_reply (s : State) (r : HostRecord) (a : Option Answer) : Keeps G s (s.reply r a) := by
  unfold State.reply
  split
  · exact .refl s
  · exact keeps_pushOutput s _

/-- A request command keeps what its owner keeps (R166). -/
theorem kept_takeRequest (k : RequestKind) {owner : HostRecord → State → Taken}
    (h : ∀ r, Keeps G s.dropHead (owner r s.dropHead).1) : Kept G s (takeRequest k s owner) := by
  unfold takeRequest
  split
  · exact .idle s
  next r _ =>
    split
    · exact .idle s
    · split
      · exact .of_next ((keeps_dropHead s).trans (keeps_reply _ r _))
      · exact .of_next (((keeps_dropHead s).trans (h r)).trans (keeps_reply _ r _))

/-- An event keeps what its effect keeps. -/
theorem kept_occur {f : State → Option State} (h : ∀ t, f s = some t → Keeps G s t) : Kept G s (occur s f) := by
  unfold occur
  split
  · split
    next t ht => exact .of_next ((h t ht).trans (keeps_startTransmit t))
    · exact .idle s
  · exact .idle s

theorem kept_occurAtPedestal (n : Nat) {f : Pedestal → State → Option State} (h : ∀ p t, f p s = some t → Keeps G s t) :
    Kept G s (occurAtPedestal s n f) := by
  refine kept_occur fun t ht => ?_
  obtain ⟨p, -, hp⟩ := Option.bind_eq_some_iff.1 ht
  exact h p t hp

theorem kept_occurAtModule (n : Nat) {f : ModuleNo → State → Option State} (h : ∀ m t, f m s = some t → Keeps G s t) :
    Kept G s (occurAtModule s n f) := by
  refine kept_occur fun t ht => ?_
  obtain ⟨m, -, hm⟩ := Option.bind_eq_some_iff.1 ht
  exact h m t hm

/-! ### The host link (R164, R165, R168) -/

theorem keeps_arrive (s : State) (r : HostRecord) : Keeps G s (s.arrive r) := by
  unfold State.arrive
  split
  · exact .refl s
  · split
    next hroom =>
      refine keeps_host fun _ => ?_
      rw [List.length_append]
      exact hroom
    · split
      · exact keeps_pushOutput s _
      · exact .refl s

theorem keeps_takeBytes (s : State) (start : Receiver) (bytes : List RxByte) : Keeps G s (s.takeBytes start bytes) := by
  have hreceiver : Keeps G s { s with host := { s.host with receiver := (receive start bytes).1 } } := keeps_host id
  exact hreceiver.trans (.foldl keeps_arrive _ _)

/-! ### The field link (R146, R151, R152, R159) -/

theorem keeps_receiveReport {time : Nat} {r : Report} (h : s.receiveReport time r = some t) : Keeps G s t := by
  unfold State.receiveReport at h
  split at h
  · rw [← Option.some.inj h]
    exact (keeps_advance s time).trans (keeps_takeReport _ r)
  · cases h

/-- The CAN controller and its buffer written. -/
theorem keeps_controller (s : State) (can : CanState) (buffer : Option Order) (tx : Option FieldFrame) :
    Keeps G s { s with field := { s.field with can := can, buffer := buffer, fieldTx := tx } } :=
  .of_unread ⟨rfl, rfl, rfl, fun _ => rfl⟩ rfl rfl ⟨rfl, rfl⟩ rfl (.of_power rfl rfl rfl rfl)

theorem keeps_queryExpired (s : State) (p : Pedestal) : Keeps G s (s.queryExpired p) := by
  refine Keeps.trans ?_ (keeps_endQuery _ p _ _)
  exact .of_port (portKeeps_setQueue fun h => h.sublist List.filter_sublist) rfl rfl ⟨rfl, rfl⟩ rfl rfl rfl rfl rfl

theorem keeps_startPeriod (s : State) : Keeps G s s.startPeriod :=
  .of_unread ⟨rfl, rfl, rfl, fun _ => rfl⟩ rfl rfl ⟨rfl, rfl⟩ rfl ⟨⟨rfl, rfl⟩, ⟨rfl, rfl⟩, ⟨rfl, rfl⟩, fun _ => ⟨rfl, rfl⟩, fun _ => rfl⟩

/-! ### The request commands -/

/-- The owner of a request keeps the laws (R166); of the slots the opening of a session needs that they are sound. -/
theorem keeps_owner (k : RequestKind) (r : HostRecord) (s : State) (hG : G → s.SlotsSound) : Keeps G s (k.owner r s).1 := by
  cases k with
  | identify => exact .refl s
  | parkStatus => exact .refl s
  | noticeStatus => exact .refl s
  | noticeMask => exact keeps_maskClasses s _
  | statusClear => exact keeps_statusClear s _
  | commission => exact keeps_commission s _
  | configure => exact keeps_configure s _
  | timeSet => exact keeps_timeSet s _
  | tariffLoad => exact keeps_tariffLoad s _
  | tariffRetire => exact keeps_tariffRetire s _
  | tariffRead =>
    simp only [RequestKind.owner, State.tariffRead]
    split <;> exact .refl s
  | authorise => exact keeps_authorise s _ hG
  | deny => exact keeps_deny s _
  | extendHold => exact keeps_extendHold s _
  | stop => exact keeps_stop s _
  | sessionCap => exact keeps_sessionCap s _
  | sessionRead =>
    simp only [RequestKind.owner, State.sessionRead]
    split <;> exact .refl s
  | settleRead =>
    simp only [RequestKind.owner, State.settleRead]
    split <;> exact .refl s
  | settleFree => exact keeps_settleFree s _
  | curtail => exact keeps_curtail s _
  | cutoffClear => exact keeps_cutoffClear s
  | pedestalMode => exact keeps_pedestalMode s _
  | pedestalRestart => exact keeps_pedestalRestart s _
  | pedestalQuery => exact keeps_pedestalQuery s _ _
  | moduleRead =>
    simp only [RequestKind.owner, State.moduleRead]
    split <;> exact .refl s
  | moduleReturn => exact keeps_moduleReturn s _
  | restart => exact keeps_host id

/-- A request command of a kind. -/
theorem kept_request (k : RequestKind) (s : State) (hG : G → s.SlotsSound) : Kept G s (exec k.command s) := by
  rw [exec_command]
  exact kept_takeRequest k fun r => keeps_owner k r s.dropHead hG

theorem kept_badKind (s : State) : Kept G s (execBadKind s) := by
  unfold execBadKind
  split
  · exact .idle s
  · split
    · exact .idle s
    · exact .of_next ((keeps_dropHead s).trans (keeps_reply _ _ _))

/-! ### The timers -/

theorem kept_authWaitExpiry (n : Nat) (s : State) : Kept G s (execAuthWaitExpiry n s) := by
  unfold execAuthWaitExpiry
  refine kept_occurAtPedestal n fun p t h => ?_
  split at h
  · rw [← Option.some.inj h]
    exact (keeps_advance s _).trans (keeps_refuseSlot _ p)
  · cases h

theorem kept_startWaitExpiry (n : Nat) (s : State) : Kept G s (execStartWaitExpiry n s) := by
  unfold execStartWaitExpiry
  refine kept_occurAtPedestal n fun p t h => ?_
  split at h
  · rw [← Option.some.inj h]
    exact (keeps_advance s _).trans (keeps_finish _ p _)
  · cases h

theorem kept_resumeWindowExpiry (n : Nat) (s : State) : Kept G s (execResumeWindowExpiry n s) := by
  unfold execResumeWindowExpiry
  refine kept_occurAtPedestal n fun p t h => ?_
  split at h
  · rw [← Option.some.inj h]
    exact (keeps_advance s _).trans (keeps_closeSession _ p _)
  · cases h

theorem kept_extensionWindowExpiry (n : Nat) (s : State) : Kept G s (execExtensionWindowExpiry n s) := by
  unfold execExtensionWindowExpiry
  refine kept_occurAtPedestal n fun p t h => ?_
  split at h
  · rw [← Option.some.inj h]
    exact (keeps_advance s _).trans (keeps_finish _ p _)
  · cases h

theorem kept_reportTimerExpiry (n : Nat) (s : State) : Kept G s (execReportTimerExpiry n s) := by
  unfold execReportTimerExpiry
  refine kept_occurAtPedestal n fun p t h => ?_
  split at h
  · rw [← Option.some.inj h]
    exact (keeps_advance s _).trans (keeps_goSilent _ p)
  · cases h

theorem kept_apportionmentPeriodExpiry (s : State) : Kept G s (execApportionmentPeriodExpiry s) := by
  unfold execApportionmentPeriodExpiry
  refine kept_occur fun t h => ?_
  split at h
  · rw [← Option.some.inj h]
    exact ((keeps_advance s _).trans (keeps_regularPass _)).trans (keeps_startPeriod _)
  · cases h

theorem kept_prechargeTimerExpiry (n : Nat) (s : State) : Kept G s (execPrechargeTimerExpiry n s) := by
  unfold execPrechargeTimerExpiry
  refine kept_occurAtModule n fun m t h => ?_
  split at h
  next hstate _ =>
    rw [← Option.some.inj h]
    exact (keeps_advance s _).trans (keeps_closeContactor hstate)
  · cases h

theorem kept_contactTimerExpiry (n : Nat) (s : State) : Kept G s (execContactTimerExpiry n s) := by
  unfold execContactTimerExpiry
  refine kept_occurAtModule n fun m t h => ?_
  split at h
  next due hstate _ =>
    rw [← Option.some.inj h]
    refine (keeps_advance s due).trans (keeps_faultModule (s := s.advance due) (fun habsent => ?_) fun _ => rfl)
    exact absurd (hstate.symm.trans habsent) (by decide)
  next due hstate _ =>
    rw [← Option.some.inj h]
    refine (keeps_advance s due).trans (keeps_faultModule (s := s.advance due) (fun habsent => ?_) fun _ => rfl)
    exact absurd (hstate.symm.trans habsent) (by decide)
  · cases h

theorem kept_rampTimerExpiry (n : Nat) (s : State) : Kept G s (execRampTimerExpiry n s) := by
  unfold execRampTimerExpiry
  refine kept_occurAtModule n fun m t h => ?_
  split at h
  next due hstate _ =>
    rw [← Option.some.inj h]
    have hramp : ((s.advance due).module m).state = .rampDown := hstate
    exact (keeps_advance s _).trans (keeps_openContactor (by rw [hramp]; rfl) (by rw [hramp]; decide))
  · cases h

theorem kept_recoveryHoldExpiry (s : State) : Kept G s (execRecoveryHoldExpiry s) := by
  unfold execRecoveryHoldExpiry
  refine kept_occur fun t h => ?_
  split at h
  · rw [← Option.some.inj h]
    refine (keeps_advance s _).trans (keeps_prot_apart ?_)
    exact ⟨rfl, rfl⟩
  · cases h

theorem kept_silenceTimerExpiry (s : State) : Kept G s (execSilenceTimerExpiry s) := by
  unfold execSilenceTimerExpiry
  refine kept_occur fun t h => ?_
  split at h
  · rw [← Option.some.inj h]
    exact (keeps_advance s _).trans (keeps_meterSilent _)
  · cases h

theorem kept_queryTimerExpiry (n : Nat) (s : State) : Kept G s (execQueryTimerExpiry n s) := by
  unfold execQueryTimerExpiry
  refine kept_occurAtPedestal n fun p t h => ?_
  split at h
  · rw [← Option.some.inj h]
    exact (keeps_advance s _).trans (keeps_queryExpired _ p)
  · cases h

theorem kept_minuteExpiry (s : State) : Kept G s (execMinuteExpiry s) := by
  unfold execMinuteExpiry
  refine kept_occur fun t h => ?_
  rw [← Option.some.inj h]
  exact keeps_minutePasses s

/-! ### Bytes, records and orders -/

theorem kept_frameSyncReceived (time : Nat) (s : State) : Kept G s (execFrameSyncReceived time s) := by
  unfold execFrameSyncReceived
  refine kept_occur fun t h => ?_
  rw [← Option.some.inj h]
  exact (keeps_advance s time).trans (keeps_takeBytes _ _ _)

theorem kept_pdAnswer (time pedestal : Nat) (epoch code : Byte) (data : List Byte) (s : State) :
    Kept G s (execPdAnswer time pedestal epoch code data s) := by
  unfold execPdAnswer
  refine kept_occurAtPedestal _ fun p t h => ?_
  split at h
  · exact keeps_receiveReport h
  · cases h

theorem kept_fieldFrameDiscarded (time : Nat) (frame : FieldFrame) (s : State) : Kept G s (execFieldFrameDiscarded time frame s) := by
  unfold execFieldFrameDiscarded
  refine kept_occur fun t h => ?_
  obtain ⟨r, -, hr⟩ := Option.bind_eq_some_iff.1 h
  exact keeps_receiveReport hr


theorem kept_hostFrameReceived (bytes : List RxByte) (s : State) : Kept G s (execHostFrameReceived bytes s) := by
  unfold execHostFrameReceived
  refine kept_occur fun t h => ?_
  split at h
  · cases h
  · rw [← Option.some.inj h]
    exact (keeps_advance s _).trans (keeps_takeBytes _ _ _)

theorem kept_frameTimerExpiry (s : State) : Kept G s (execFrameTimerExpiry s) := by
  unfold execFrameTimerExpiry
  refine kept_occur fun t h => ?_
  split at h
  · cases h
  · rw [← Option.some.inj h]
    exact (keeps_advance s _).trans (keeps_takeBytes _ _ _)

theorem kept_outputRecordSent (time : Nat) (s : State) : Kept G s (execOutputRecordSent time s) := by
  unfold execOutputRecordSent
  refine kept_occur fun t h => ?_
  split at h
  · cases h
  · split at h
    · cases h
    · rw [← Option.some.inj h]
      refine (keeps_advance s time).trans (keeps_host ?_)
      exact id

theorem kept_orderSent (time : Nat) (s : State) : Kept G s (execOrderSent time s) := by
  unfold execOrderSent
  refine kept_occur fun t h => ?_
  split at h
  next o _ _ =>
    rw [← Option.some.inj h]
    exact (keeps_advance s time).trans ((keeps_controller _ _ none (some o.frame)).trans (keeps_orderReported _ o))
  · cases h

theorem kept_busOff (time : Nat) (s : State) : Kept G s (execBusOff time s) := by
  unfold execBusOff
  refine kept_occur fun t h => ?_
  split at h
  · rw [← Option.some.inj h]
    exact (keeps_advance s time).trans ((keeps_controller _ .busOff _ _).trans (keeps_raiseField _ _))
  · cases h

theorem kept_busOffRecovery (time : Nat) (s : State) : Kept G s (execBusOffRecovery time s) := by
  unfold execBusOffRecovery
  refine kept_occur fun t h => ?_
  split at h
  · rw [← Option.some.inj h]
    exact (keeps_advance s time).trans (keeps_controller _ .onBus _ _)
  · cases h

/-! ### The safety lines and the supplies -/

theorem kept_lineAssertionAccepted (time : Nat) (line : SafetyLine) (lows : Nat) (s : State) :
    Kept G s (execLineAssertionAccepted time line lows s) := by
  unfold execLineAssertionAccepted
  refine kept_occur fun t h => ?_
  split at h
  · cases h
  · rw [← Option.some.inj h]
    exact (keeps_advance s time).trans (keeps_sampleLow _ line lows)

theorem kept_lineReleaseAccepted (time : Nat) (line : SafetyLine) (highs : Nat) (s : State) :
    Kept G s (execLineReleaseAccepted time line highs s) := by
  unfold execLineReleaseAccepted
  refine kept_occur fun t h => ?_
  split at h
  · cases h
  · rw [← Option.some.inj h]
    exact (keeps_advance s time).trans (keeps_sampleHigh _ line highs)

theorem kept_mainSupplyReturn (outage : Nat) (straps : BitVec 2) (backup : Bool) (cut : Option Nat) (s : State) (hG : G → s.SlotsSound) :
    Kept G s (execMainSupplyReturn outage straps backup cut s) := by
  unfold execMainSupplyReturn
  split
  · exact .idle s
  · exact .of_next (keeps_supplyReturn s outage straps backup cut hG)

theorem kept_mainSupplyLoss (loss : SupplyLoss) (s : State) : Kept G s (execMainSupplyLoss loss s) := by
  unfold execMainSupplyLoss
  split
  · exact .of_next ((keeps_advance s _).trans (keeps_supplyLost _ _))
  · exact .idle s

theorem kept_resetLinePulse (time : Nat) (straps : BitVec 2) (cut : Option Nat) (s : State) (hG : G → s.SlotsSound) :
    Kept G s (execResetLinePulse time straps cut s) := by
  unfold execResetLinePulse
  split
  · exact .of_next ((keeps_advance s time).trans (keeps_restart _ .commanded straps cut hG))
  · exact .idle s

theorem kept_commandedRestartBegin (straps : BitVec 2) (cut : Option Nat) (s : State) (hG : G → s.SlotsSound) :
    Kept G s (execCommandedRestartBegin straps cut s) := by
  unfold execCommandedRestartBegin
  split
  · exact .of_next (keeps_restart s .commanded straps cut hG)
  · exact .idle s

theorem kept_backupSupplyLoss (s : State) : Kept G s (execBackupSupplyLoss s) := by
  unfold execBackupSupplyLoss
  refine .of_next (keeps_control ?_)
  exact ⟨rfl, rfl⟩

/-! ### Every command -/

/-- Every command answers a next state and keeps the laws. -/
theorem kept_exec (c : Instr) (s : State) (hG : G → s.SlotsSound) : Kept G s (exec c s) := by
  cases c with
  | identify => exact kept_request .identify s hG
  | parkStatus => exact kept_request .parkStatus s hG
  | noticeStatus => exact kept_request .noticeStatus s hG
  | noticeMask => exact kept_request .noticeMask s hG
  | statusClear => exact kept_request .statusClear s hG
  | commission => exact kept_request .commission s hG
  | configure => exact kept_request .configure s hG
  | timeSet => exact kept_request .timeSet s hG
  | tariffLoad => exact kept_request .tariffLoad s hG
  | tariffRetire => exact kept_request .tariffRetire s hG
  | tariffRead => exact kept_request .tariffRead s hG
  | authorise => exact kept_request .authorise s hG
  | deny => exact kept_request .deny s hG
  | extendHold => exact kept_request .extendHold s hG
  | stop => exact kept_request .stop s hG
  | sessionCap => exact kept_request .sessionCap s hG
  | sessionRead => exact kept_request .sessionRead s hG
  | settleRead => exact kept_request .settleRead s hG
  | settleFree => exact kept_request .settleFree s hG
  | curtail => exact kept_request .curtail s hG
  | cutoffClear => exact kept_request .cutoffClear s hG
  | pedestalMode => exact kept_request .pedestalMode s hG
  | pedestalRestart => exact kept_request .pedestalRestart s hG
  | pedestalQuery => exact kept_request .pedestalQuery s hG
  | moduleRead => exact kept_request .moduleRead s hG
  | moduleReturn => exact kept_request .moduleReturn s hG
  | restart => exact kept_request .restart s hG
  | badKind => exact kept_badKind s
  | hostFrameReceived bytes => exact kept_hostFrameReceived bytes s
  | frameTimerExpiry => exact kept_frameTimerExpiry s
  | outputRecordSent time => exact kept_outputRecordSent time s
  | pdPlug time pedestal plugged =>
    exact kept_occurAtPedestal (f := fun p s => s.receiveReport time (.plug p plugged)) pedestal fun _ _ h => keeps_receiveReport h
  | pdToken time pedestal token =>
    exact kept_occurAtPedestal (f := fun p s => s.receiveReport time (.token p token)) pedestal fun _ _ h => keeps_receiveReport h
  | pdVehicle time pedestal ready request =>
    exact kept_occurAtPedestal (f := fun p s => s.receiveReport time (.vehicle p ready request.toNat)) pedestal fun _ _ h => keeps_receiveReport h
  | pdMeter time pedestal register =>
    exact kept_occurAtPedestal (f := fun p s => s.receiveReport time (.meter p register.toNat)) pedestal fun _ _ h => keeps_receiveReport h
  | pdRestarted time pedestal plugged =>
    exact kept_occurAtPedestal (f := fun p s => s.receiveReport time (.restarted p plugged)) pedestal fun _ _ h => keeps_receiveReport h
  | pdAnswer time pedestal epoch code data => exact kept_pdAnswer time pedestal epoch code data s
  | mdState time moduleNo value =>
    exact kept_occurAtModule (f := fun m s => s.receiveReport time (.moduleState m value)) moduleNo fun _ _ h => keeps_receiveReport h
  | mdFault time moduleNo code =>
    exact kept_occurAtModule (f := fun m s => s.receiveReport time (.moduleFault m code)) moduleNo fun _ _ h => keeps_receiveReport h
  | gmVolts time reading => exact kept_occur (f := fun s => s.receiveReport time (.volts reading.toNat)) fun _ h => keeps_receiveReport h
  | fieldFrameDiscarded time frame => exact kept_fieldFrameDiscarded time frame s
  | orderSent time => exact kept_orderSent time s
  | busOff time => exact kept_busOff time s
  | busOffRecovery time => exact kept_busOffRecovery time s
  | lineAssertionAccepted time line lows => exact kept_lineAssertionAccepted time line lows s
  | lineReleaseAccepted time line highs => exact kept_lineReleaseAccepted time line highs s
  | mainSupplyReturn outage straps backup cut => exact kept_mainSupplyReturn outage straps backup cut s hG
  | mainSupplyLoss loss => exact kept_mainSupplyLoss loss s
  | resetLinePulse time straps cut => exact kept_resetLinePulse time straps cut s hG
  | commandedRestartBegin straps cut => exact kept_commandedRestartBegin straps cut s hG
  | authWaitExpiry pedestal => exact kept_authWaitExpiry pedestal s
  | startWaitExpiry pedestal => exact kept_startWaitExpiry pedestal s
  | resumeWindowExpiry pedestal => exact kept_resumeWindowExpiry pedestal s
  | extensionWindowExpiry pedestal => exact kept_extensionWindowExpiry pedestal s
  | reportTimerExpiry pedestal => exact kept_reportTimerExpiry pedestal s
  | apportionmentPeriodExpiry => exact kept_apportionmentPeriodExpiry s
  | prechargeTimerExpiry moduleNo => exact kept_prechargeTimerExpiry moduleNo s
  | contactTimerExpiry moduleNo => exact kept_contactTimerExpiry moduleNo s
  | rampTimerExpiry moduleNo => exact kept_rampTimerExpiry moduleNo s
  | recoveryHoldExpiry => exact kept_recoveryHoldExpiry s
  | silenceTimerExpiry => exact kept_silenceTimerExpiry s
  | queryTimerExpiry pedestal => exact kept_queryTimerExpiry pedestal s
  | minuteExpiry => exact kept_minuteExpiry s
  | frameSyncReceived time => exact kept_frameSyncReceived time s
  | backupSupplyLoss => exact kept_backupSupplyLoss s

end

end Sys2Proof.Machine
end

section
/-! # The laws of the device -/

namespace Sys2Proof.Machine

/-- Settles O2: command by command. -/
theorem everyCommandAnswersNext : Obligations.EveryCommandAnswersNext := by
  intro c s
  obtain ⟨t, hnext, hkeeps⟩ := kept_exec (G := False) c s False.elim
  exact ⟨t, hnext, hkeeps.port.pending⟩

section
variable {s t : State}

/-- A step idles, or keeps the laws as the command at the front does; the commands that wait are read by none of them. -/
theorem keeps_step (h : step s = .next t) : t = s ∨ ∃ rest, Keeps s.SlotsSound { s with pending := rest } t := by
  obtain ⟨hfront, hidle⟩ := stepRunsFrontCommand
  cases hpending : s.pending with
  | nil =>
    rw [hidle s hpending] at h
    cases h
    exact Or.inl rfl
  | cons c rest =>
    rw [hfront c rest s hpending] at h
    obtain ⟨u, hnext, hkeeps⟩ := kept_exec c { s with pending := rest } (G := s.SlotsSound) id
    rw [hnext] at h
    cases h
    exact Or.inr ⟨rest, hkeeps⟩

/-- A law that the commands keep holds behind a step. -/
theorem law_step {Law : State → Prop} (hlaw : ∀ rest, Keeps s.SlotsSound { s with pending := rest } t → Law t) (hidle : Law s)
    (h : step s = .next t) : Law t := by
  rcases keeps_step h with rfl | ⟨rest, hkeeps⟩
  · exact hidle
  · exact hlaw rest hkeeps

end

/-- Settles O6: a session is opened where a place is free (R7 check 7), and a close turns a session into a record. -/
theorem settlementPlacesNeverExceeded : Obligations.SettlementPlacesNeverExceeded := fun _ _ hs =>
  law_step (fun _ hkeeps => hkeeps.ledger.places hs) hs

/-- Settles O7: every order goes through the placing rules of R150, a request is queued below the 4 places, and the flags are written
together. -/
theorem queuesAndNoticesStaySound : Obligations.QueuesAndNoticesStaySound :=
  ⟨fun _ _ hs => law_step (fun _ hkeeps => hkeeps.port.queue hs) hs, fun _ _ hs => law_step (fun _ hkeeps => hkeeps.port.requests hs) hs,
    fun _ _ hs => law_step (fun _ hkeeps => hkeeps.port.flags hs) hs⟩

/-- Settles O9: energy goes into a bucket as it goes into the total, and the closing arithmetic adds up. -/
theorem moneyStaysSound : Obligations.MoneyStaysSound := fun _ _ hs => law_step (fun _ hkeeps => hkeeps.ledger.money hs) hs

/-- Settles O10: an opening takes the count's number, which no session and no record has. -/
theorem sessionNumbersStayUnique : Obligations.SessionNumbersStayUnique := fun _ _ hs =>
  law_step (fun _ hkeeps => hkeeps.ledger.numbers hs) hs

/-- Settles O11: an opening and a close count, and a load is refused while sessions name the slot. -/
theorem referenceCountsStayTrue : Obligations.ReferenceCountsStayTrue := fun _ _ hslots hs =>
  law_step (fun _ hkeeps => hkeeps.ledger.references hslots hs) hs

/-- Settles O12: setpoints are within their grants, and the grants of both passes are within M. -/
theorem setpointsNeverExceedAvailablePower : Obligations.SetpointsNeverExceedAvailablePower := fun _ _ hs =>
  law_step (fun _ hkeeps => hkeeps.power.power hs) hs

/-- Settles O13: a setpoint falls before a module ramps down and with one that is lost. -/
theorem setpointsStayBackedByModules : Obligations.SetpointsStayBackedByModules := fun _ _ hslots hpower hs =>
  law_step (fun _ hkeeps => hkeeps.power.backed hslots hpower hs) hs

/-- Settles O14: the assertion that sets the latch takes the power and opens every module, and without power none is assigned. -/
theorem cutoffLatchHoldsPowerOff : Obligations.CutoffLatchHoldsPowerOff := fun _ _ hpower hsource hs =>
  law_step (Law := fun t => t.LatchHasSource ∧ t.CutoffHolds) (fun _ hkeeps => hkeeps.power.latch hpower hsource hs) ⟨hsource, hs⟩

/-- Settles O15: module by module, every change of state writes what the new state asks. -/
theorem moduleRecordsStaySound : Obligations.ModuleRecordsStaySound := fun _ _ hs =>
  law_step (fun _ hkeeps => hkeeps.power.modules hs) hs

end Sys2Proof.Machine
end

section
/-! # What keeps the slots as their states say (R2): the rules -/

namespace Sys2Proof.Machine

/-- What R2 asks of a slot by itself. -/
structure Slot.Fits (x : Slot) : Prop where
  session : x.session.isSome = x.state.isOpen
  waiting : x.authWait.isSome = true → x.state = .plugged
  fields : ∀ e, x.session = some e → e.fits x.state
  closing : x.mode = .closingDown → x.state ≠ .vacant
  out : x.mode = .outOfService → x.state = .vacant ∨ x.state = .waitUnplug

/-- A pedestal has neither grant nor setpoint. -/
def State.Unpowered (s : State) (p : Pedestal) : Prop := (s.allot p).grant = 0 ∧ (s.allot p).setpoint = 0

/-- R2 asks it of each slot, and of power that it goes to a RUNNING slot alone. -/
theorem slotSound_iff {s : State} {p : Pedestal} :
    s.SlotSound p ↔ (s.slot p).Fits ∧ ((s.slot p).state ≠ .running → s.Unpowered p) :=
  ⟨fun ⟨hsession, hwaiting, hpower, hfields, hclosing, hout⟩ => ⟨⟨hsession, hwaiting, hfields, hclosing, hout⟩, hpower⟩,
    fun ⟨⟨hsession, hwaiting, hfields, hclosing, hout⟩, hpower⟩ => ⟨hsession, hwaiting, hpower, hfields, hclosing, hout⟩⟩

section
variable {s t u : State} {p : Pedestal} {e e' : Session} {x y : Slot}

/-- The slots' laws are read off the slots and their power. -/
theorem slotsSound_of_slots (hslots : t.slots = s.slots) (hpower : ∀ q, s.Unpowered q → t.Unpowered q) (h : s.SlotsSound) :
    t.SlotsSound := by
  intro q
  have hslot : t.slot q = s.slot q := by rw [State.slot, State.slot, hslots]
  obtain ⟨hfits, hunpowered⟩ := slotSound_iff.1 (h q)
  rw [slotSound_iff, hslot]
  exact ⟨hfits, fun hstate => hpower q (hunpowered hstate)⟩

/-- An operation of the power side alone that raises no grant. -/
theorem PowerSteady.unpowered (hpower : PowerSteady s t) (q : Pedestal) (h : s.Unpowered q) : t.Unpowered q := by
  obtain ⟨hgrant, hsetpoint⟩ := h
  have hnone : (t.allot q).grant = 0 := Nat.le_zero.1 (hgrant ▸ hpower.grant q)
  have hwithin := hpower.within q (by rw [hsetpoint]; exact Nat.zero_le _)
  rw [hnone, Nat.zero_mul] at hwithin
  exact ⟨hnone, Nat.le_zero.1 hwithin⟩

theorem slotsSound_of_steady (hslots : t.slots = s.slots) (hpower : PowerSteady s t) : s.SlotsSound → t.SlotsSound :=
  slotsSound_of_slots hslots hpower.unpowered

/-- An operation that concerns neither slots nor allotments. -/
theorem slotsSound_of_apart (hslots : t.slots = s.slots) (halloc : t.alloc.entries = s.alloc.entries) : s.SlotsSound → t.SlotsSound :=
  slotsSound_of_slots hslots fun q h => by rw [State.Unpowered, State.allot, halloc]; exact h

/-- One slot is written; no other pedestal gains power, and the written one has power only where it is RUNNING. -/
theorem slotsSound_at (hne : ∀ q, q ≠ p → t.slot q = s.slot q) (hpower : ∀ q, q ≠ p → s.Unpowered q → t.Unpowered q)
    (hfits : (s.slot p).Fits → (t.slot p).Fits)
    (hunpowered : ((s.slot p).state ≠ .running → s.Unpowered p) → (t.slot p).state ≠ .running → t.Unpowered p) (h : s.SlotsSound) :
    t.SlotsSound := by
  intro q
  obtain ⟨hq, hqpower⟩ := slotSound_iff.1 (h q)
  by_cases hqp : q = p
  · subst hqp
    exact slotSound_iff.2 ⟨hfits hq, hunpowered hqpower⟩
  · rw [slotSound_iff, hne q hqp]
    exact ⟨hq, fun hstate => hpower q hqp (hqpower hstate)⟩

/-- One slot becomes what it becomes, and nothing else of slots and allotments changes. -/
structure State.Writes (p : Pedestal) (x : Slot) (s t : State) : Prop where
  here : t.slot p = x
  apart : ∀ q, q ≠ p → t.slot q = s.slot q
  allot : ∀ q, t.allot q = s.allot q

theorem writes_setSlot (s : State) (p : Pedestal) (x : Slot) : State.Writes p x s (s.setSlot p x) :=
  ⟨slot_setSlot s p x, fun _ => slot_setSlot_ne s x, fun _ => rfl⟩

/-- A state given with its slots written. -/
theorem writes_of_slots (hslots : t.slots = s.slots.set p.val x) (halloc : t.alloc.entries = s.alloc.entries) : State.Writes p x s t := by
  refine ⟨slot_of_slots_set hslots, fun q hq => ?_, fun q => by rw [State.allot, halloc]; rfl⟩
  have hval : p.val ≠ q.val := fun hv => hq (Fin.ext hv.symm)
  simp [State.slot, hslots, hval]

theorem State.Writes.trans (h : State.Writes p x s t) (h' : State.Writes p y t u) : State.Writes p y s u :=
  ⟨h'.here, fun q hq => (h'.apart q hq).trans (h.apart q hq), fun q => (h'.allot q).trans (h.allot q)⟩

/-- A class raised behind it. -/
theorem State.Writes.raise (h : State.Writes p x s t) (c : NoticeClass) : State.Writes p x s (t.raise c) :=
  ⟨by simp [h.here], fun q hq => by simp [h.apart q hq], fun q => by simp [h.allot q]⟩

theorem State.Writes.raiseHold (h : State.Writes p x s t) : State.Writes p x s (t.raiseHold p) :=
  ⟨by simp [h.here], fun q hq => by simp [h.apart q hq], fun q => by simp [h.allot q]⟩

theorem State.Writes.raiseCondition (h : State.Writes p x s t) (f : FieldConditions → FieldConditions) :
    State.Writes p x s (t.raiseCondition p f) :=
  ⟨by simp [h.here], fun q hq => by simp [h.apart q hq], fun q => by simp [h.allot q]⟩

/-- Nothing written: the slot as it stands. -/
theorem State.Writes.of_same (he : s.Holds p e) : State.Writes p { s.slot p with session := some e } s s :=
  ⟨by rw [← show (s.slot p).session = some e from he], fun _ _ => rfl, fun _ => rfl⟩

/-- A slot written behind an operation that leaves slots and allotments. -/
theorem writes_setSlot_same (hslot : ∀ q, t.slot q = s.slot q) (hallot : ∀ q, t.allot q = s.allot q) : State.Writes p x s (t.setSlot p x) :=
  ⟨slot_setSlot t p x, fun q hq => (slot_setSlot_ne t x hq).trans (hslot q), hallot⟩

/-- A slot written as R2 says; it leaves RUNNING by no such write. -/
theorem slotsSound_of_writes (hw : State.Writes p x s t) (hfits : (s.slot p).Fits → x.Fits)
    (hstate : (s.slot p).state = .running → x.state = .running) : s.SlotsSound → t.SlotsSound := by
  have hpower (q : Pedestal) (hq : s.Unpowered q) : t.Unpowered q := by rw [State.Unpowered, hw.allot]; exact hq
  refine slotsSound_at hw.apart (fun q _ => hpower q) (fun h => hw.here ▸ hfits h) fun hs hstill => ?_
  rw [hw.here] at hstill
  exact hpower p (hs fun hrun => hstill (hstate hrun))

/-! ### Slots with and without a session -/

/-- The slot's session is there where its state is an open one. -/
theorem Slot.Fits.exists_session (h : x.Fits) (hopen : x.state.isOpen = true) : ∃ e, x.session = some e :=
  Option.isSome_iff_exists.1 (h.session.trans hopen)

/-- An open session stays open: the auth wait is not running and the mode suits any open state. -/
theorem Slot.Fits.of_open (h : x.Fits) (hx : x.state.isOpen = true) (hy : y.state.isOpen = true) (hwait : y.authWait = x.authWait)
    (hmode : y.mode = x.mode) (hsession : y.session = some e) (he : e.fits y.state) : y.Fits where
  session := by rw [hsession, hy]; rfl
  waiting := fun hsome => by
    have hplugged := h.waiting (hwait ▸ hsome)
    rw [hplugged] at hx
    cases hx
  fields := fun f hf => by rw [hsession] at hf; cases hf; exact he
  closing := fun _ hvacant => by rw [hvacant] at hy; cases hy
  out := fun hout => by
    rcases h.out (hmode ▸ hout) with hstate | hstate
    · rw [hstate] at hx; cases hx
    · rw [hstate] at hx; cases hx

/-- A slot without a session and without an auth wait. -/
theorem Slot.Fits.of_closed (hstate : x.state.isOpen = false) (hsession : x.session = none) (hwait : x.authWait = none)
    (hclosing : x.mode = .closingDown → x.state ≠ .vacant) (hout : x.mode = .outOfService → x.state = .vacant ∨ x.state = .waitUnplug) :
    x.Fits where
  session := by rw [hsession, hstate]; rfl
  waiting := fun h => by rw [hwait] at h; cases h
  fields := fun f hf => by rw [hsession] at hf; cases hf
  closing := hclosing
  out := hout

/-! ### Writes inside a session -/

/-- A session's windows go on at most, and its reasons stay. -/
def Session.Follows (e e' : Session) : Prop :=
  (e'.startWait.isSome = true → e.startWait.isSome = true) ∧ (e'.extensionWindow.isSome = true → e.extensionWindow.isSome = true) ∧
    e'.reasons = e.reasons

theorem fits_of_follows {st : SlotState} (h : e.Follows e') (he : e.fits st) : e'.fits st := by
  obtain ⟨hwait, hwindow, hreasons⟩ := h
  obtain ⟨hstarting, hextension, hsuspended⟩ := he
  exact ⟨fun h => hstarting (hwait h), fun h => hreasons ▸ hextension (hwindow h), hreasons ▸ hsuspended⟩

/-- A slot whose session goes on so. -/
theorem Slot.Fits.of_follows (h : x.Fits) (hx : x.session = some e) (hstate : y.state = x.state) (hwait : y.authWait = x.authWait)
    (hmode : y.mode = x.mode) (hsession : y.session = some e') (he : e.Follows e') : y.Fits := by
  have hopen : x.state.isOpen = true := by rw [← h.session, hx]; rfl
  exact h.of_open hopen (hstate ▸ hopen) hwait hmode hsession (hstate ▸ fits_of_follows he (h.fields e hx))

theorem slotsSound_modifySession (p : Pedestal) {f : Session → Session} (hf : ∀ e : Session, e.Follows (f e)) (h : s.SlotsSound) :
    (s.modifySession p f).SlotsSound := by
  cases hsession : (s.slot p).session with
  | none => rwa [modifySession_of_none hsession]
  | some e =>
    refine slotsSound_of_writes (writes_setSlot s p _) (fun hfits => ?_) id h
    exact hfits.of_follows hsession rfl rfl rfl (e' := f e) (by simp [hsession]) (hf e)

theorem slotsSound_modifyAccrual (p : Pedestal) (f : Accrual → Accrual) (h : s.SlotsSound) : (s.modifyAccrual p f).SlotsSound :=
  slotsSound_modifySession p (fun _ => ⟨id, id, rfl⟩) h

/-! ### Operations that concern no slot -/

theorem slotsSound_raise (c : NoticeClass) : s.SlotsSound → (s.raise c).SlotsSound := slotsSound_of_apart (by simp) (by simp)

theorem slotsSound_raiseHold (p : Pedestal) : s.SlotsSound → (s.raiseHold p).SlotsSound := slotsSound_of_apart (by simp) (by simp)

theorem slotsSound_raiseCondition (p : Pedestal) (f : FieldConditions → FieldConditions) :
    s.SlotsSound → (s.raiseCondition p f).SlotsSound := slotsSound_of_apart (by simp) (by simp)

theorem slotsSound_placeOrder (o : Order) : s.SlotsSound → (s.placeOrder o).SlotsSound := slotsSound_of_apart (by simp) (by simp)

theorem slotsSound_startTransmit : s.SlotsSound → s.startTransmit.SlotsSound := slotsSound_of_apart (by simp) (by simp)

theorem slotsSound_setLink (p : Pedestal) (x : Link) : s.SlotsSound → (s.setLink p x).SlotsSound := slotsSound_of_apart rfl rfl

theorem slotsSound_endQuery (p : Pedestal) (code : ResultCode) (data : List Byte) :
    s.SlotsSound → (s.endQuery p code data).SlotsSound := slotsSound_of_apart (by simp) (by simp)

theorem slotsSound_advance (time : Nat) : s.SlotsSound → (s.advance time).SlotsSound := slotsSound_of_apart rfl rfl

theorem slotsSound_foldl {α : Type} {f : State → α → State} (hf : ∀ s x, s.SlotsSound → (f s x).SlotsSound) (l : List α) (s : State)
    (h : s.SlotsSound) : (l.foldl f s).SlotsSound := by
  induction l generalizing s with
  | nil => exact h
  | cons x l ih => exact ih _ (hf s x h)

end

end Sys2Proof.Machine
end

section
/-! # Every slot stays as its state says: the operations on sessions (chapters 1, 2 and 4) -/

namespace Sys2Proof.Machine

section
variable {s t u v : State} {p : Pedestal} {e e' : Session} {x : Slot}

/-! ### A session's fields by state (R2) -/

/-- In RUNNING and in FINISHED no wait and no window of R2 runs, and no reason is present. -/
theorem fits_iff_of_plain {st : SlotState} (hstarting : st ≠ .starting) (hsuspended : st ≠ .suspended) :
    e.fits st ↔ e.startWait = none ∧ e.extensionWindow = none ∧ e.reasons.isEmpty = true := by
  simp [Session.fits, hstarting, hsuspended]

/-- In SUSPENDED the start wait does not run and a reason is present. -/
theorem fits_suspended_iff :
    e.fits .suspended ↔
      e.startWait = none ∧ (e.extensionWindow.isSome = true → e.reasons.hold = true) ∧ e.reasons.isEmpty = false := by
  simp [Session.fits]

/-- In STARTING no extension window runs and no reason is present. -/
theorem fits_starting_iff : e.fits .starting ↔ e.extensionWindow = none ∧ e.reasons.isEmpty = true := by
  simp [Session.fits]

/-- A set that a reason has joined is not empty. -/
theorem isEmpty_add (c : ReasonSet) (r : Reason) : (c.add r).isEmpty = false := by
  cases r <;> simp [ReasonSet.add, ReasonSet.isEmpty]

/-- A reason that has joined leaves HOLD in the set. -/
theorem hold_add {c : ReasonSet} (r : Reason) (h : c.hold = true) : (c.add r).hold = true := by
  cases r <;> simp [ReasonSet.add, h]

/-! ### Suspension and return (R25, R26) -/

/-- A new interruption entry touches neither the timers nor the reasons. -/
theorem openEntry_follows (r : Reason) (day minute : Nat) (e : Session) : e.Follows (e.openEntry r day minute) := by
  unfold Session.openEntry
  split <;> exact ⟨id, id, rfl⟩

/-- A session suspended from RUNNING. -/
theorem fits_suspended (r : Reason) (day minute : Nat) (he : e.fits .running) : (e.suspended r day minute).fits .suspended := by
  obtain ⟨hwait, hwindow, -⟩ := (fits_iff_of_plain (by decide) (by decide)).1 he
  exact fits_of_follows (openEntry_follows r day minute _) (fits_suspended_iff.2 ⟨hwait, by simp [hwindow], isEmpty_add _ _⟩)

/-- A slot written as R2 says, and its power withdrawn (R100). -/
theorem slotsSound_leaveRunning (hw : State.Writes p x s t) (hfits : (s.slot p).Fits → x.Fits) (h : s.SlotsSound) :
    (t.leaveRunning p).SlotsSound := by
  refine slotsSound_at (p := p) (fun q hq => ?_) (fun q hq hs => ?_) (fun hp => ?_) (fun _ _ => ?_) h
  · simp [hw.apart q hq]
  · rw [State.Unpowered, allot_leaveRunning_ne _ _ hq, hw.allot]
    exact hs
  · simpa [hw.here] using hfits hp
  · rw [State.Unpowered, allot_leaveRunning]
    exact ⟨rfl, rfl⟩

theorem slotsSound_addReason (p : Pedestal) (r : Reason) (h : s.SlotsSound) : (s.addReason p r).SlotsSound := by
  have hfits := (slotSound_iff.1 (h p)).1
  by_cases hrun : (s.slot p).state = .running
  · have hopen : (s.slot p).state.isOpen = true := by rw [hrun]; rfl
    obtain ⟨e, he⟩ := hfits.exists_session hopen
    rw [addReason_of_running r he hrun]
    refine slotsSound_leaveRunning ((writes_setSlot s p _).raise .session) (fun _ => ?_) h
    exact hfits.of_open hopen rfl rfl rfl rfl (fits_suspended r _ _ (hrun ▸ hfits.fields e he))
  · by_cases hsuspended : (s.slot p).state = .suspended
    · have hopen : (s.slot p).state.isOpen = true := by rw [hsuspended]; rfl
      obtain ⟨e, he⟩ := hfits.exists_session hopen
      rw [addReason_of_suspended r he hsuspended]
      refine slotsSound_of_writes (writes_setSlot s p _) (fun _ => ?_) id h
      obtain ⟨hwait, hwindow, -⟩ := fits_suspended_iff.1 (hsuspended ▸ hfits.fields e he)
      refine hfits.of_open hopen hopen rfl rfl rfl ?_
      rw [hsuspended]
      exact fits_suspended_iff.2 ⟨hwait, fun hsome => hold_add r (hwindow hsome), isEmpty_add _ _⟩
    · rwa [addReason_of_other r hrun hsuspended]

/-- What a session must bring to be judged (R26, R28): as R2 says, except that in SUSPENDED its last reason may have gone. -/
def Session.FitsUnjudged (e : Session) (st : SlotState) : Prop :=
  (e.startWait.isSome = true → st = .starting) ∧
  (e.extensionWindow.isSome = true → st = .suspended ∧ e.reasons.hold = true) ∧
  (e.reasons.isEmpty = false → st = .suspended)

theorem Session.fits.unjudged {st : SlotState} (he : e.fits st) : e.FitsUnjudged st :=
  ⟨he.1, he.2.1, he.2.2.1⟩

/-- A set judged empty brings the slot back to RUNNING, and any other set is as R2 says. -/
theorem slotsSound_judge (hw : State.Writes p { s.slot p with session := some e' } s t) (he : s.Holds p e)
    (hunjudged : e'.FitsUnjudged (s.slot p).state) (h : s.SlotsSound) : (t.judge p).SlotsSound := by
  have hfits := (slotSound_iff.1 (h p)).1
  have hopen : (s.slot p).state.isOpen = true := by rw [← hfits.session, he]; rfl
  have he' : t.Holds p e' := by rw [State.Holds, hw.here]
  have hstate : (t.slot p).state = (s.slot p).state := by rw [hw.here]
  obtain ⟨hwait, hwindow, hreasons⟩ := hunjudged
  by_cases hreturns : (t.slot p).state = .suspended ∧ e'.reasons.isEmpty = true
  · obtain ⟨hsuspended, hempty⟩ := hreturns
    rw [judge_of_empty_eq he' hsuspended hempty]
    refine slotsSound_of_writes (hw.trans (writes_of_slots rfl rfl)) (fun _ => ?_) (fun _ => rfl) h
    refine hfits.of_open hopen rfl (by rw [hw.here]) (by rw [hw.here]) rfl
      ((fits_iff_of_plain (st := .running) (by decide) (by decide)).2 ⟨?_, ?_, hempty⟩)
    · refine Classical.byContradiction fun hsome => ?_
      have hstarting := hwait (Option.isSome_iff_ne_none.2 hsome)
      exact absurd ((hstate.symm.trans hsuspended).symm.trans hstarting) (by decide)
    · refine Classical.byContradiction fun hsome => ?_
      have hhold := (hwindow (Option.isSome_iff_ne_none.2 hsome)).2
      rw [((ReasonSet.isEmpty_iff _).1 hempty).2.2] at hhold
      cases hhold
  · rw [judge_of_stays he' hreturns]
    refine slotsSound_of_writes hw (fun _ => hfits.of_open hopen hopen rfl rfl rfl ⟨hwait, hwindow, hreasons, fun hsuspended => ?_⟩) id h
    refine Classical.byContradiction fun hempty => ?_
    exact hreturns ⟨hstate.trans hsuspended, by simpa using hempty⟩

/-- Where every slot is as R2 says there is nothing to judge. -/
theorem slotsSound_judge_same (p : Pedestal) (h : s.SlotsSound) : (s.judge p).SlotsSound := by
  cases hsession : (s.slot p).session with
  | none => rwa [judge_of_no_session hsession]
  | some e => exact slotsSound_judge (.of_same hsession) hsession ((slotSound_iff.1 (h p)).1.fields e hsession).unjudged h

theorem slotsSound_removeCutoffAt (p : Pedestal) (h : s.SlotsSound) : (s.removeCutoffAt p).SlotsSound := by
  unfold State.removeCutoffAt
  split
  · exact h
  next e he =>
    split
    · have hfields := (slotSound_iff.1 (h p)).1.fields e he
      obtain ⟨hwait, hwindow, hreasons⟩ := hfields.unjudged
      refine slotsSound_judge (e' := { e with reasons := e.reasons.remove .cutoff }) ?_ he ⟨hwait, hwindow, fun hleft => hreasons ?_⟩ h
      · exact removeReason_eq .cutoff he ▸ writes_setSlot s p _
      · simp only [ReasonSet.isEmpty, ReasonSet.remove] at hleft ⊢
        grind
    · exact h

/-! ### The hold (R32, R69, R70) -/

/-- The extension window of a SUSPENDED slot that holds HOLD. -/
theorem slotsSound_startExtension (he : s.Holds p e) (hsuspended : (s.slot p).state = .suspended) (hhold : e.reasons.hold = true)
    (h : s.SlotsSound) : (s.startExtension p).SlotsSound := by
  have hfits := (slotSound_iff.1 (h p)).1
  have hopen : (s.slot p).state.isOpen = true := by rw [hsuspended]; rfl
  rw [State.startExtension, modifySession_of_some he]
  refine slotsSound_of_writes (writes_setSlot s p _) (fun _ => hfits.of_open hopen hopen rfl rfl rfl ?_) id h
  obtain ⟨hwait, -, hreasons⟩ := fits_suspended_iff.1 (hsuspended ▸ hfits.fields e he)
  rw [hsuspended]
  exact fits_suspended_iff.2 ⟨hwait, fun _ => hhold, hreasons⟩

/-- HOLD added in RUNNING or SUSPENDED. -/
theorem holds_addHold (he : s.Holds p e) (hpowered : (s.slot p).state = .running ∨ (s.slot p).state = .suspended) :
    ∃ e', (s.addReason p .hold).Holds p e' ∧ ((s.addReason p .hold).slot p).state = .suspended ∧ e'.reasons.hold = true := by
  rcases hpowered with hrun | hsuspended
  · refine ⟨e.suspended .hold s.clock.day s.clock.minute, ?_, ?_, ?_⟩
    · simp [State.Holds, addReason_of_running .hold he hrun]
    · simp [addReason_of_running .hold he hrun]
    · rw [Session.suspended, (openEntry_follows _ _ _ _).2.2]
      rfl
  · refine ⟨{ e with reasons := e.reasons.add .hold }, ?_, ?_, rfl⟩
    · simp [State.Holds, addReason_of_suspended .hold he hsuspended]
    · simp [addReason_of_suspended .hold he hsuspended, hsuspended]

theorem slotsSound_holdReached (p : Pedestal) (h : s.SlotsSound) : (s.holdReached p).SlotsSound := by
  by_cases hpowered : (s.slot p).state = .running ∨ (s.slot p).state = .suspended
  · have hopen : (s.slot p).state.isOpen = true := by rcases hpowered with hstate | hstate <;> rw [hstate] <;> rfl
    obtain ⟨e, he⟩ := (slotSound_iff.1 (h p)).1.exists_session hopen
    obtain ⟨e', he', hsuspended, hhold⟩ := holds_addHold he hpowered
    rw [holdReached_of_powered hpowered]
    exact slotsSound_startExtension he' hsuspended hhold (slotsSound_addReason p .hold h)
  · rwa [holdReached_of_other (fun hstate => hpowered (Or.inl hstate)) fun hstate => hpowered (Or.inr hstate)]

theorem slotsSound_compareTopUp (p : Pedestal) (h : s.SlotsSound) : (s.compareTopUp p).SlotsSound := by
  unfold State.compareTopUp
  split
  · exact h
  · split
    · exact slotsSound_raiseHold p (slotsSound_modifyAccrual p _ h)
    · exact h

theorem slotsSound_compareReached (p : Pedestal) (h : s.SlotsSound) : (s.compareReached p).SlotsSound := by
  unfold State.compareReached
  split
  · exact h
  · split
    · exact slotsSound_holdReached p (slotsSound_raiseHold p (slotsSound_modifyAccrual p _ h))
    · exact h

theorem slotsSound_compareHold (p : Pedestal) (h : s.SlotsSound) : (s.compareHold p).SlotsSound :=
  slotsSound_compareReached p (slotsSound_compareTopUp p h)

/-! ### Link silence and return (R27, R28) -/

theorem slotsSound_startResume (p : Pedestal) (h : s.SlotsSound) : (s.startResume p).SlotsSound :=
  slotsSound_modifySession p (fun _ => ⟨id, id, rfl⟩) h

theorem slotsSound_linkSilent (p : Pedestal) (h : s.SlotsSound) : (s.linkSilent p).SlotsSound := by
  have hadded := slotsSound_startResume p (slotsSound_addReason p .link h)
  have hresumed := slotsSound_startResume p h
  unfold State.linkSilent
  split
  · exact hadded
  · exact hadded
  · exact hresumed
  · exact hresumed
  · exact h
  · exact h
  · exact h

theorem slotsSound_heardAndJudged (p : Pedestal) (h : s.SlotsSound) : (s.heardAndJudged p).SlotsSound := by
  have hlinked := slotsSound_setLink p (s.linkHeard p) h
  by_cases hsilent : (s.link p).state = .silent
  · rw [heardAndJudged_of_silent hsilent]
    generalize s.setLink p (s.linkHeard p) = t at hlinked
    cases hsession : (t.slot p).session with
    | none =>
      have hsame : t.linkReturned p = t := modifySession_of_none hsession _
      rwa [hsame, judge_of_no_session hsession]
    | some e =>
      obtain ⟨hwait, hwindow, hreasons⟩ := ((slotSound_iff.1 (hlinked p)).1.fields e hsession).unjudged
      refine slotsSound_judge (e' := e.linkReturned) ?_ hsession ⟨hwait, hwindow, fun hleft => hreasons ?_⟩ hlinked
      · exact linkReturned_of_some hsession ▸ writes_setSlot t p _
      · simp only [Session.linkReturned, ReasonSet.isEmpty, ReasonSet.remove] at hleft ⊢
        grind
  · rw [heardAndJudged_of_heard hsilent]
    exact hlinked

/-! ### Finish and close (R15 to R18) -/

theorem slotsSound_markEnd (p : Pedestal) (h : s.SlotsSound) : (s.markEnd p).SlotsSound :=
  slotsSound_modifySession p (fun _ => ⟨id, id, rfl⟩) h

theorem slotsSound_finish (p : Pedestal) (cause : FinishCause) (h : s.SlotsSound) : (s.finish p cause).SlotsSound := by
  have hfits := (slotSound_iff.1 (h p)).1
  by_cases hstate : (s.slot p).state = .starting ∨ (s.slot p).state = .running ∨ (s.slot p).state = .suspended
  · have hopen : (s.slot p).state.isOpen = true := by rcases hstate with hst | hst | hst <;> rw [hst] <;> rfl
    obtain ⟨e, he⟩ := hfits.exists_session hopen
    obtain ⟨-, -, -, -, -, -, -, halloc, -, -, -, -, -, hslot⟩ := endOrdered_frame (s.raise .session) p e
    rw [finish_of_open cause he hstate]
    refine slotsSound_modifyAccrual p _ (slotsSound_leaveRunning (writes_setSlot_same (fun q => ?_) fun q => ?_) (fun _ => ?_) h)
    · simp [hslot]
    · simp [State.allot, halloc]
    · exact hfits.of_open hopen rfl rfl rfl rfl
        ((fits_iff_of_plain (st := .finished) (by decide) (by decide)).2 ⟨rfl, rfl, rfl⟩)
  · rwa [finish_of_other]
    cases hst : (s.slot p).state <;> simp_all

theorem slotsSound_close (p : Pedestal) (cause : CloseCause) (h : s.SlotsSound) : (s.closeSession p cause).SlotsSound := by
  cases hsession : (s.slot p).session with
  | none => rwa [closeSession_of_none _ hsession]
  | some e => exact slotsSound_closeSession cause hsession h

/-- A slot without a session is freed. -/
theorem slotsSound_freeSlot (hclosed : (s.slot p).state.isOpen = false) (h : s.SlotsSound) : (s.freeSlot p).SlotsSound := by
  rw [freeSlot_eq]
  refine slotsSound_of_writes (writes_of_slots rfl rfl) (fun hfits => .of_closed rfl ?_ rfl ?_ fun _ => Or.inl rfl) (fun hrun => ?_) h
  · simpa [hclosed] using hfits.session
  · intro hmode
    by_cases hclosing : (s.slot p).mode = .closingDown <;> simp_all
  · rw [hrun] at hclosed
    cases hclosed

/-- A slot without a session is refused. -/
theorem slotsSound_refuseSlot (hclosed : (s.slot p).state.isOpen = false) (h : s.SlotsSound) : (s.refuseSlot p).SlotsSound := by
  rw [refuseSlot_eq]
  refine slotsSound_of_writes (writes_of_slots rfl rfl)
    (fun hfits => .of_closed rfl ?_ rfl (fun _ => nofun) fun _ => Or.inr rfl) (fun hrun => ?_) h
  · simpa [hclosed] using hfits.session
  · rw [hrun] at hclosed
    cases hclosed

theorem slotsSound_plugIn (p : Pedestal) (h : s.SlotsSound) : (s.plugIn p).SlotsSound := by
  by_cases hvacant : (s.slot p).state = .vacant
  · by_cases hmode : (s.slot p).mode = .inService
    · rw [plugIn_of_inService hvacant hmode]
      refine slotsSound_of_writes (writes_of_slots rfl rfl) (fun hfits => ?_) (fun hrun => ?_) h
      · have hsession : (s.slot p).session = none := by simpa [hvacant, SlotState.isOpen] using hfits.session
        exact ⟨by simp [hsession, SlotState.isOpen], fun _ => rfl, by simp [hsession], by simp [hmode], by simp [hmode]⟩
      · rw [hvacant] at hrun
        cases hrun
    · rw [plugIn_of_refused hvacant hmode]
      exact slotsSound_refuseSlot (by rw [hvacant]; rfl) h
  · rwa [plugIn_of_taken hvacant]

theorem slotsSound_unplug (p : Pedestal) (h : s.SlotsSound) : (s.unplug p).SlotsSound := by
  have hclose := slotsSound_close p .unplug h
  unfold State.unplug
  split
  next => exact hclose
  next => exact hclose
  next => exact hclose
  next => exact hclose
  next hstate => exact slotsSound_freeSlot (by rw [hstate]; rfl) h
  next hstate => exact slotsSound_freeSlot (by rw [hstate]; rfl) h
  next => exact h

theorem slotsSound_restartOrdered (p : Pedestal) (h : s.SlotsSound) : (s.restartOrdered p).SlotsSound :=
  slotsSound_finish p .pedestalRestart (slotsSound_markEnd p h)

theorem slotsSound_restartReported (p : Pedestal) (plugged : Bool) (h : s.SlotsSound) : (s.restartReported p plugged).SlotsSound := by
  have hopen : State.SlotsSound (if plugged then (s.markEnd p).finish p .pedestalRestart else (s.markEnd p).closeSession p .unplug) := by
    split
    · exact slotsSound_restartOrdered p h
    · exact slotsSound_close p .unplug (slotsSound_markEnd p h)
  unfold State.restartReported
  split
  next =>
    split
    · exact slotsSound_plugIn p h
    · exact h
  next hstate =>
    split
    · exact h
    · exact slotsSound_freeSlot (by rw [hstate]; rfl) h
  next hstate =>
    split
    · exact slotsSound_placeOrder _ h
    · exact slotsSound_freeSlot (by rw [hstate]; rfl) h
  all_goals exact hopen

end

end Sys2Proof.Machine
end

section
/-! # Every slot stays as its state says: meters, minutes and vehicles (chapters 2 and 4) -/

namespace Sys2Proof.Machine

section
variable {s t u v : State} {p : Pedestal} {e e' f : Session} {w : Nat}

/-! ### Minutes and reports (R57 to R67) -/

theorem slotsSound_moveStrikes (p : Pedestal) (strikes : Nat) (outcome : Option Bool) (h : s.SlotsSound) :
    (s.moveStrikes p strikes outcome).SlotsSound := by
  unfold State.moveStrikes
  split
  · exact h
  · exact slotsSound_modifyAccrual p _ h
  · split
    · exact slotsSound_modifyAccrual p _ h
    · split
      · exact slotsSound_finish p .overdraw (slotsSound_raiseCondition p _ (slotsSound_modifyAccrual p _ h))
      · exact slotsSound_raiseCondition p _ h

theorem slotsSound_priceReport (p : Pedestal) (e : Session) (register : Nat) (h : s.SlotsSound) :
    (s.priceReport p e register).SlotsSound :=
  slotsSound_compareHold p (slotsSound_modifyAccrual p _ (slotsSound_moveStrikes p _ _ (slotsSound_modifyAccrual p _ h)))

theorem slotsSound_takeMeter (p : Pedestal) (register : Nat) (h : s.SlotsSound) : (s.takeMeter p register).SlotsSound := by
  have hlinked := slotsSound_setLink p { s.link p with register := some register, fresh := true } h
  unfold State.takeMeter
  split
  · exact slotsSound_finish p .meterFault (slotsSound_raiseCondition p _ h)
  · simp only []
    split
    · exact hlinked
    · split
      · exact slotsSound_modifyAccrual p _ hlinked
      · exact slotsSound_priceReport p _ register hlinked

theorem slotsSound_chargeSession (s : State) (p : Pedestal) (h : s.SlotsSound) : (s.chargeSession p).SlotsSound := by
  have hcharge (f : Accrual → Accrual) : ((s.modifyAccrual p f).compareHold p).SlotsSound :=
    slotsSound_compareHold p (slotsSound_modifyAccrual p f h)
  unfold State.chargeSession
  split
  · exact h
  · simp only []
    split
    · split
      · exact hcharge _
      · exact h
    · split
      · exact h
      · split
        · exact slotsSound_modifyAccrual p _ h
        · split
          · exact h
          · exact hcharge _
    all_goals exact h

theorem slotsSound_minutePasses (h : s.SlotsSound) : s.minutePasses.SlotsSound := by
  rw [minutePasses_eq]
  exact slotsSound_foldl slotsSound_chargeSession _ _ (slotsSound_of_apart (t := s.atNextMinute) rfl rfl h)

/-! ### The hold comparison outside RUNNING (R32, R69, R70) -/

/-- The record has reached its hold, and this has not been seen (R70). -/
def Accrual.Reaches (a : Accrual) : Prop := a.hold * 1000 ≤ a.accrued ∧ a.holdReached = false

/-- The top-up comparison writes its own flag at most. -/
theorem writes_compareTopUp (he : v.Holds p e) :
    ∃ b, State.Writes p { v.slot p with session := some { e with accrual := { e.accrual with topUpRequested := b } } } v (v.compareTopUp p) := by
  by_cases hdue : e.accrual.hold * v.params.topUpPercent * 10 ≤ e.accrual.accrued ∧ e.accrual.topUpRequested = false
  · rw [compareTopUp_of_due he hdue]
    exact ⟨true, (writes_setSlot v p _).raiseHold⟩
  · rw [compareTopUp_of_not he hdue]
    exact ⟨e.accrual.topUpRequested, .of_same he⟩

/-- A hold reached in SUSPENDED adds HOLD to the set. -/
theorem writes_holdReached (he : v.Holds p e) (hsuspended : (v.slot p).state = .suspended) :
    ∃ x, State.Writes p { v.slot p with session := some { e with reasons := e.reasons.add .hold, extensionWindow := x } } v
      (v.holdReached p) := by
  rw [holdReached_of_powered (Or.inr hsuspended), addReason_of_suspended .hold he hsuspended, State.startExtension,
    modifySession_of_some (e := { e with reasons := e.reasons.add .hold }) (by simp [State.Holds]), slot_setSlot, setSlot_setSlot]
  exact ⟨_, writes_setSlot v p _⟩

/-- The comparison at the hold: in SUSPENDED a hold reached adds HOLD, and otherwise the record alone changes. -/
theorem writes_compareReached (he : v.Holds p e) (hstate : (v.slot p).state ≠ .running) :
    ∃ e', State.Writes p { v.slot p with session := some e' } v (v.compareReached p) ∧ e'.startWait = e.startWait ∧
      ((v.slot p).state = .suspended → e.accrual.Reaches → e'.reasons = e.reasons.add .hold) ∧
      ((v.slot p).state ≠ .suspended ∨ ¬ e.accrual.Reaches →
        e'.reasons = e.reasons ∧ e'.extensionWindow = e.extensionWindow) := by
  by_cases hreaches : e.accrual.Reaches
  · rw [compareReached_of_due he hreaches]
    have hflagged := (writes_setSlot v p
      { v.slot p with session := some { e with accrual := { e.accrual with holdReached := true } } }).raiseHold
    generalize State.raiseHold _ p = u at hflagged
    have hu : u.Holds p { e with accrual := { e.accrual with holdReached := true } } := by rw [State.Holds, hflagged.here]
    have hsame : (u.slot p).state = (v.slot p).state := by rw [hflagged.here]
    by_cases hsuspended : (v.slot p).state = .suspended
    · obtain ⟨x, hx⟩ := writes_holdReached hu (hsame.trans hsuspended)
      rw [hflagged.here] at hx
      exact ⟨_, hflagged.trans hx, rfl, fun _ _ => rfl, fun hnot => hnot.elim (absurd hsuspended) (absurd hreaches)⟩
    · rw [holdReached_of_other (hsame ▸ hstate) (hsame ▸ hsuspended)]
      exact ⟨_, hflagged, rfl, fun hs => absurd hs hsuspended, fun _ => ⟨rfl, rfl⟩⟩
  · rw [compareReached_of_not he hreaches]
    exact ⟨e, .of_same he, rfl, fun _ h => absurd h hreaches, fun _ => ⟨rfl, rfl⟩⟩

/-- The whole comparison outside RUNNING. -/
theorem writes_compareHold (he : v.Holds p e) (hstate : (v.slot p).state ≠ .running) :
    ∃ e', State.Writes p { v.slot p with session := some e' } v (v.compareHold p) ∧ e'.startWait = e.startWait ∧
      ((v.slot p).state = .suspended → e.accrual.Reaches → e'.reasons = e.reasons.add .hold) ∧
      ((v.slot p).state ≠ .suspended ∨ ¬ e.accrual.Reaches →
        e'.reasons = e.reasons ∧ e'.extensionWindow = e.extensionWindow) := by
  obtain ⟨b, hb⟩ := writes_compareTopUp he
  have hsame : ((v.compareTopUp p).slot p).state = (v.slot p).state := by rw [hb.here]
  obtain ⟨e', hw, hwait, hreached, hnot⟩ := writes_compareReached (v := v.compareTopUp p)
    (e := { e with accrual := { e.accrual with topUpRequested := b } }) (by rw [State.Holds, hb.here]) (hsame ▸ hstate)
  rw [hsame] at hreached hnot
  rw [hb.here] at hw
  exact ⟨e', hb.trans hw, hwait, hreached, hnot⟩

/-- Where the hold is not reached, a RUNNING slot stays RUNNING. -/
theorem running_compareHold (he : v.Holds p e) (hrun : (v.slot p).state = .running) (hnot : ¬ e.accrual.Reaches) :
    ((v.compareHold p).slot p).state = .running := by
  obtain ⟨b, hb⟩ := writes_compareTopUp he
  have he' : (v.compareTopUp p).Holds p { e with accrual := { e.accrual with topUpRequested := b } } := by rw [State.Holds, hb.here]
  have hnot' : ¬ Accrual.Reaches { e.accrual with topUpRequested := b } := hnot
  rw [State.compareHold, compareReached_of_not he' hnot', hb.here]
  exact hrun

/-! ### Vehicle reports (R11, R12) -/

/-- A first READY leaves STARTING with the reasons that the comparison and the latch give. -/
theorem slotsSound_firstReady (hstate : (s.slot p).state = .starting) (request : Nat) (h : s.SlotsSound) :
    (s.vehicleReady p request).SlotsSound := by
  have hopen : (s.slot p).state.isOpen = true := by rw [hstate]; rfl
  have hfits := (slotSound_iff.1 (h p)).1
  obtain ⟨e, he⟩ := hfits.exists_session hopen
  obtain ⟨hwindow, hreasons⟩ := fits_starting_iff.1 (hstate ▸ hfits.fields e he)
  have hcharged := writes_setSlot s p
    { s.slot p with
      session := some { e with startWait := none, accrual := { e.accrual with fee := (s.tariff e.tariff).contents.fee } } }
  obtain ⟨e', hw, hwait, -, hkept⟩ := writes_compareHold (v := s.charged p e) (p := p)
    (e := { e with startWait := none, accrual := { e.accrual with fee := (s.tariff e.tariff).contents.fee } })
    (by simp [State.Holds, State.charged]) (by simp [State.charged, hstate])
  obtain ⟨-, hwindow'⟩ := hkept (Or.inl (by simp [State.charged, hstate]))
  have hcompared := hcharged.trans hw
  rw [show (s.charged p e).slot p = _ from hcharged.here] at hcompared
  have he' : ((s.charged p e).compareHold p).Holds p e' := by rw [State.Holds, hcompared.here]
  have hnot : (s.slot p).state ≠ .running := by rw [hstate]; decide
  by_cases hsuspends : s.prot.latch = true ∨ e'.accrual.holdReached = true
  · rw [vehicleReady_of_suspends hstate he he' request hsuspends]
    refine slotsSound_of_writes (hcompared.trans (writes_of_slots rfl rfl)) (fun _ => ?_) (fun hrun => absurd hrun hnot) h
    refine hfits.of_open hopen rfl (by rw [hcompared.here]) (by rw [hcompared.here]) rfl (fits_suspended_iff.2 ⟨hwait, ?_, ?_⟩)
    · by_cases hreached : e'.accrual.holdReached = true <;> simp [hreached, hwindow', hwindow]
    · rcases hsuspends with hset | hset <;> simp [ReasonSet.isEmpty, hset]
  · obtain ⟨hlatch, hreached⟩ := not_or.1 hsuspends
    rw [vehicleReady_of_starts hstate he he' request (by simpa using hlatch) (by simpa using hreached)]
    refine slotsSound_of_writes (hcompared.trans (writes_of_slots rfl rfl)) (fun _ => ?_) (fun _ => rfl) h
    exact hfits.of_open hopen rfl (by rw [hcompared.here]) (by rw [hcompared.here]) rfl
      ((fits_iff_of_plain (st := .running) (by decide) (by decide)).2 ⟨hwait, hwindow'.trans hwindow, rfl⟩)

theorem slotsSound_vehicleReady (p : Pedestal) (request : Nat) (h : s.SlotsSound) : (s.vehicleReady p request).SlotsSound := by
  by_cases hstate : (s.slot p).state = .starting
  · exact slotsSound_firstReady hstate request h
  · have hasked (kw : Nat) : (s.modifySession p fun e => { e with request := some kw }).SlotsSound :=
      slotsSound_modifySession p (fun _ => ⟨id, id, rfl⟩) h
    unfold State.vehicleReady
    simp only []
    split
    next hstarting => exact absurd hstarting hstate
    next => exact hasked _
    next => exact hasked _
    all_goals exact h

theorem slotsSound_vehicleDone (p : Pedestal) (h : s.SlotsSound) : (s.vehicleDone p).SlotsSound := by
  unfold State.vehicleDone
  split
  · exact slotsSound_finish p _ h
  · exact slotsSound_finish p _ h
  · exact slotsSound_finish p _ h
  all_goals exact h

/-! ### EXTEND-HOLD (R34, R72) -/

/-- HOLD is removed before the rerun, and the set is judged by what is left. -/
theorem slotsSound_extendSession (p : Pedestal) (hold : Nat) (h : s.SlotsSound) : (s.extendSession p hold).SlotsSound := by
  cases hsession : (s.slot p).session with
  | none =>
    have hsame : s.extendSession p hold = (s.compareHold p).judge p := by
      rw [State.extendSession, State.modifyAccrual, modifySession_of_none hsession, modifySession_of_none hsession]
    have hcompared : s.compareHold p = s := by simp [State.compareHold, State.compareTopUp, State.compareReached, hsession]
    rwa [hsame, hcompared, judge_of_no_session hsession]
  | some e =>
    have he : s.Holds p e := hsession
    have hfields := (slotSound_iff.1 (h p)).1.fields e he
    have hextended := writes_setSlot s p
      { s.slot p with
        session := some
          { e with
            reasons := { e.reasons with hold := false }
            extensionWindow := if e.reasons.hold then none else e.extensionWindow
            accrual :=
              { e.accrual with hold := hold, topUps := e.accrual.topUps + 1, topUpRequested := false, holdReached := false } } }
    rw [State.extendSession, extended_eq he]
    generalize s.setSlot p _ = v at hextended
    have hstate : (v.slot p).state = (s.slot p).state := by rw [hextended.here]
    by_cases hsuspended : (s.slot p).state = .suspended
    · obtain ⟨hwait, hwindow, -⟩ := fits_suspended_iff.1 (hsuspended ▸ hfields)
      obtain ⟨e', hw, hwait', hreached, hnot⟩ := writes_compareHold (v := v) (p := p) (by rw [State.Holds, hextended.here])
        (by rw [hstate, hsuspended]; decide)
      rw [hstate] at hreached hnot
      rw [hextended.here] at hw
      refine slotsSound_judge (hextended.trans hw) he ⟨fun hsome => ?_, fun hsome => ⟨hsuspended, ?_⟩, fun _ => hsuspended⟩ h
      · rw [hwait', hwait] at hsome
        cases hsome
      · by_cases hreaches : Accrual.Reaches
          { e.accrual with hold := hold, topUps := e.accrual.topUps + 1, topUpRequested := false, holdReached := false }
        · rw [hreached hsuspended hreaches]
          rfl
        · rw [(hnot (Or.inr hreaches)).2] at hsome
          by_cases hhold : e.reasons.hold = true
          · simp [hhold] at hsome
          · exact absurd (hwindow (by simpa [hhold] using hsome)) hhold
    · have hempty : e.reasons.hold = false := by
        have hnone : ¬ e.reasons.isEmpty = false := fun hsome => hsuspended (hfields.2.2.1 hsome)
        exact ((ReasonSet.isEmpty_iff _).1 (by simpa using hnone)).2.2
      have hv : v.SlotsSound := by
        refine slotsSound_of_writes hextended (fun hfits => hfits.of_follows he rfl rfl rfl rfl ⟨id, fun hsome => ?_, ?_⟩) id h
        · simpa [hempty] using hsome
        · rw [← hempty]
      exact slotsSound_judge_same p (slotsSound_compareHold p hv)

/-! ### A PD-METER over a return (R26, R147, log 14) -/

/-- The strikes that a report leaves, short of the third (R63, R64). -/
def strikesAfter (strikes : Nat) : Option Bool → Nat
  | none => strikes
  | some false => 0
  | some true => if strikes < 2 then strikes + 1 else strikes

/-- The record that a priced report leaves for the comparison, short of the third strike (R59, R62, R63). -/
def State.meteredTo (u : State) (p : Pedestal) (e : Session) (w : Nat) : Accrual :=
  Accrual.checkedAt u.now (u.allot p).setpoint
    { u.pricedTo e w with strikes := strikesAfter e.accrual.strikes (u.outcomeOf p e w) }

/-- The report is the third strike (R64). -/
def State.StrikesOut (u : State) (p : Pedestal) (e : Session) (w : Nat) : Prop :=
  u.outcomeOf p e w = some true ∧ e.accrual.strikes = 2

/-- A report that finishes no session writes the record, and the comparison follows. -/
theorem priceReport_compares (he : u.Holds p e) (hin : ¬ u.StrikesOut p e w) :
    ∃ v, State.Writes p { u.slot p with session := some { e with accrual := u.meteredTo p e w } } u v ∧
      u.priceReport p e w = v.compareHold p := by
  have hwrites (a : Accrual) (ha : a = u.meteredTo p e w) :
      State.Writes p { u.slot p with session := some { e with accrual := u.meteredTo p e w } } u (u.withAccrual p e a) := by
    subst ha
    exact writes_setSlot u p _
  cases houtcome : u.outcomeOf p e w with
  | none =>
    refine ⟨_, hwrites _ ?_, priceReport_of_unchecked w he houtcome⟩
    simp [State.meteredTo, strikesAfter, houtcome, State.pricedTo, Accrual.price]
  | some excess =>
    cases excess with
    | false =>
      refine ⟨_, hwrites _ ?_, priceReport_of_within w he houtcome⟩
      simp [State.meteredTo, strikesAfter, houtcome]
    | true =>
      rcases Nat.lt_trichotomy e.accrual.strikes 2 with hlt | heq | hgt
      · refine ⟨_, hwrites _ ?_, priceReport_of_strike w he houtcome hlt⟩
        simp [State.meteredTo, strikesAfter, houtcome, hlt]
      · exact absurd ⟨houtcome, heq⟩ hin
      · refine ⟨_, (hwrites _ ?_).raiseCondition _, priceReport_of_further w he houtcome hgt⟩
        simp [State.meteredTo, strikesAfter, houtcome, Nat.not_lt.2 (Nat.le_of_lt hgt), State.pricedTo, Accrual.price]

/-- A finished slot, from any state that finishes. -/
theorem state_finish (cause : FinishCause) (he : u.Holds p e) (hrun : (u.slot p).state = .running) :
    ((u.finish p cause).slot p).state = .finished := by
  rw [finish_of_open cause he (Or.inr (Or.inl hrun))]
  simp

/-- The third strike finishes a RUNNING session, and the comparison behind it suspends nothing. -/
theorem state_priceReport_of_out (he : u.Holds p e) (hrun : (u.slot p).state = .running) (hout : u.StrikesOut p e w) :
    ((u.priceReport p e w).slot p).state = .finished := by
  obtain ⟨houtcome, hstrikes⟩ := hout
  rw [priceReport_of_third w he houtcome hstrikes]
  have hraised : ((u.withAccrual p e { u.pricedTo e w with strikes := 3 }).raiseCondition p .withOverdraw).Holds p
      { e with accrual := { u.pricedTo e w with strikes := 3 } } := by simp [State.Holds, State.withAccrual]
  have hfinished := state_finish .overdraw hraised (by simpa [State.withAccrual] using hrun)
  obtain ⟨e', he'⟩ := holds_finish .overdraw hraised
  generalize State.finish _ p .overdraw = v at hfinished he'
  have hchecked : ((v.modifyAccrual p (Accrual.checkedAt u.now (u.allot p).setpoint)).slot p).state = .finished := by
    simpa using hfinished
  obtain ⟨x, hw, -⟩ := writes_compareHold (v := v.modifyAccrual p (Accrual.checkedAt u.now (u.allot p).setpoint)) (p := p)
    (e := { e' with accrual := e'.accrual.checkedAt u.now (u.allot p).setpoint })
    (by simp [State.Holds, show (v.slot p).session = some e' from he']) (by rw [hchecked]; decide)
  rw [hw.here]
  exact hchecked

/-- What a report must bring to take a RUNNING slot to SUSPENDED: it is priced, and it reaches the hold. -/
structure State.ReachesHold (u : State) (p : Pedestal) (e : Session) (w : Nat) : Prop where
  forward : ∀ last, (u.link p).register = some last → last ≤ w
  base : e.accrual.base ≠ none
  stays : ¬ (u.metered p w).StrikesOut p e w
  reaches : ((u.metered p w).meteredTo p e w).Reaches

theorem reachesHold_of_suspended (he : u.Holds p e) (hrun : (u.slot p).state = .running)
    (hsuspended : ((u.takeMeter p w).slot p).state = .suspended) : u.ReachesHold p e w := by
  have hforward : ∀ last, (u.link p).register = some last → last ≤ w := by
    intro last hlast
    refine Classical.byContradiction fun hback => ?_
    have hraised : (u.raiseCondition p fun c => { c with meterFault := true }).Holds p e := by simpa [State.Holds] using he
    rw [takeMeter_of_backward hlast (Nat.lt_of_not_le hback), state_finish .meterFault hraised (by simpa using hrun)] at hsuspended
    cases hsuspended
  cases hbase : e.accrual.base with
  | none =>
    rw [takeMeter_of_opening hforward he hbase] at hsuspended
    have hstill : (u.slot p).state = .suspended := by simpa [State.withAccrual, State.metered] using hsuspended
    rw [hrun] at hstill
    cases hstill
  | some base =>
    rw [takeMeter_of_priced hforward he hbase] at hsuspended
    have he' : (u.metered p w).Holds p e := he
    have hrun' : ((u.metered p w).slot p).state = .running := hrun
    have hstays : ¬ (u.metered p w).StrikesOut p e w := fun hout => by
      rw [state_priceReport_of_out he' hrun' hout] at hsuspended
      cases hsuspended
    refine ⟨hforward, by simp [hbase], hstays, ?_⟩
    refine Classical.byContradiction fun hnot => ?_
    obtain ⟨v, hw, heq⟩ := priceReport_compares he' hstays
    rw [heq, running_compareHold (by rw [State.Holds, hw.here]) (by rw [hw.here]; exact hrun') hnot] at hsuspended
    cases hsuspended

/-- The same report taken in SUSPENDED leaves HOLD in the set, and writes the slot alone. -/
theorem writes_takeMeter_of_reachesHold (he : u.Holds p e) (hsuspended : (u.slot p).state = .suspended) (h : u.ReachesHold p e w) :
    ∃ e', State.Writes p { u.slot p with session := some e' } u (u.takeMeter p w) ∧ e'.startWait = e.startWait ∧
      e'.reasons.hold = true := by
  obtain ⟨base, hbase⟩ := Option.ne_none_iff_exists'.1 h.base
  have he' : (u.metered p w).Holds p e := he
  obtain ⟨v, hv, heq⟩ := priceReport_compares he' h.stays
  have hstate : (v.slot p).state = .suspended := by rw [hv.here]; exact hsuspended
  obtain ⟨e', hw, hwait, hreached, -⟩ := writes_compareHold (v := v) (p := p) (by rw [State.Holds, hv.here]) (by rw [hstate]; decide)
  rw [takeMeter_of_priced h.forward he hbase, heq]
  rw [hv.here] at hw
  refine ⟨e', ⟨hw.here, fun q hq => (hw.apart q hq).trans (hv.apart q hq), fun q => (hw.allot q).trans (hv.allot q)⟩, hwait, ?_⟩
  rw [hreached hstate h.reaches]
  rfl

/-- A return leaves the session's tariff and accrual record. -/
theorem holds_heardAndJudged (he : s.Holds p e) :
    ∃ f, (s.heardAndJudged p).Holds p f ∧ f.accrual = e.accrual ∧ f.tariff = e.tariff := by
  by_cases hsilent : (s.link p).state = .silent
  · have he' : (s.setLink p (s.linkHeard p)).Holds p e := he
    rw [heardAndJudged_of_silent hsilent, linkReturned_of_some he']
    generalize s.setLink p (s.linkHeard p) = v
    have hreturned : (v.setSlot p { v.slot p with session := some e.linkReturned }).Holds p e.linkReturned := by simp [State.Holds]
    by_cases hempty : ((v.setSlot p { v.slot p with session := some e.linkReturned }).slot p).state = .suspended ∧
        e.linkReturned.reasons.isEmpty = true
    · rw [judge_of_empty hreturned hempty.1 hempty.2]
      exact ⟨e.linkReturned.closeEntries _ _, by simp [State.Holds]; rfl, rfl, rfl⟩
    · rw [judge_of_stays hreturned hempty]
      exact ⟨e.linkReturned, hreturned, rfl, rfl⟩
  · rw [heardAndJudged_of_heard hsilent]
    exact ⟨e, he, rfl, rfl⟩

/-- A report reaches the hold by what it is priced with, not by the slot's state. -/
theorem State.ReachesHold.congr (h : t.ReachesHold p f w) (hlink : u.link p = t.link p) (hnow : u.now = t.now) (hclock : u.clock = t.clock)
    (htariff : ∀ n, u.tariff n = t.tariff n) (hallot : u.allot p = t.allot p) (haccrual : e.accrual = f.accrual)
    (hnumber : e.tariff = f.tariff) : u.ReachesHold p e w := by
  have htariff' : (u.metered p w).tariff e.tariff = (t.metered p w).tariff f.tariff := hnumber ▸ htariff e.tariff
  have hclock' : (u.metered p w).clock = (t.metered p w).clock := hclock
  have hnow' : (u.metered p w).now = (t.metered p w).now := hnow
  have hallot' : (u.metered p w).allot p = (t.metered p w).allot p := hallot
  have houtcome : (u.metered p w).outcomeOf p e w = (t.metered p w).outcomeOf p f w := by
    simp only [State.outcomeOf, haccrual, hnow', hallot']
  have hmetered : (u.metered p w).meteredTo p e w = (t.metered p w).meteredTo p f w := by
    simp only [State.meteredTo, State.pricedTo, houtcome, haccrual, hnow', hallot', hclock', htariff']
  refine ⟨fun last hlast => h.forward last (hlink ▸ hlast), haccrual ▸ h.base, fun hout => h.stays ?_, hmetered ▸ h.reaches⟩
  rw [State.StrikesOut, houtcome, haccrual] at hout
  exact hout

/-- Hearing from a pedestal writes its session alone. -/
theorem writes_heardFrom (he : s.Holds p e) :
    ∃ e', State.Writes p { s.slot p with session := some e' } s (s.heardFrom p) ∧ e'.startWait = e.startWait := by
  by_cases hsilent : (s.link p).state = .silent
  · have he' : (s.setLink p (s.linkHeard p)).Holds p e := he
    rw [heardFrom_of_silent hsilent, linkReturned_of_some he']
    exact ⟨e.linkReturned, writes_setSlot_same (fun _ => rfl) fun _ => rfl, rfl⟩
  · rw [heardFrom_of_heard hsilent]
    have hsame := State.Writes.of_same he
    exact ⟨e, ⟨hsame.here, fun _ _ => rfl, fun _ => rfl⟩, rfl⟩

/-- The report that would suspend a returned slot again leaves it SUSPENDED, with HOLD (R26). -/
theorem slotsSound_heardMeter_of_stays (hsuspended : (s.slot p).state = .suspended)
    (hrun : ((s.heardAndJudged p).slot p).state = .running)
    (htaken : (((s.heardAndJudged p).takeMeter p w).slot p).state = .suspended) (h : s.SlotsSound) :
    ((s.heardFrom p).takeMeter p w).SlotsSound := by
  have hfits := (slotSound_iff.1 (h p)).1
  have hopen : (s.slot p).state.isOpen = true := by rw [hsuspended]; rfl
  obtain ⟨e, he⟩ := hfits.exists_session hopen
  obtain ⟨f, hf, haccrual, hnumber⟩ := holds_heardAndJudged he
  have hheard := heardAndJudged_of_returned he hsuspended hrun
  obtain ⟨e', hw, hwait⟩ := writes_heardFrom he
  have he' : (s.heardFrom p).Holds p e' := by rw [State.Holds, hw.here]
  have hkept : e' = { e with resumeWindow := none, reasons := { e.reasons with link := false } } := by
    have hslot : (s.heardFrom p).slot p =
        { s.slot p with session := some { e with resumeWindow := none, reasons := { e.reasons with link := false } } } := by
      rw [hheard]
      exact slot_setSlot _ p _
    exact Option.some.inj ((congrArg Slot.session hw.here).symm.trans (congrArg Slot.session hslot))
  have hreaches : (s.heardFrom p).ReachesHold p e' w := by
    refine (reachesHold_of_suspended hf hrun htaken).congr ?_ ?_ ?_ ?_ ?_ ?_ ?_
    · rw [hheard]; rfl
    · rw [hheard]; rfl
    · rw [hheard]; rfl
    · intro n; rw [hheard]; rfl
    · rw [hheard]; rfl
    · rw [hkept, haccrual]
    · rw [hkept, hnumber]
  have hstate : ((s.heardFrom p).slot p).state = .suspended := by rw [hw.here]; exact hsuspended
  obtain ⟨g, hg, hgwait, hhold⟩ := writes_takeMeter_of_reachesHold he' hstate hreaches
  rw [hw.here] at hg
  refine slotsSound_of_writes (hw.trans hg) (fun _ => hfits.of_open hopen hopen rfl rfl rfl ?_) id h
  have hstopped := (fits_suspended_iff.1 (hsuspended ▸ hfits.fields e he)).1
  rw [hsuspended]
  exact fits_suspended_iff.2 ⟨(hgwait.trans hwait).trans hstopped, fun _ => hhold, by simp [ReasonSet.isEmpty, hhold]⟩

theorem slotsSound_heardMeter (p : Pedestal) (w : Nat) (h : s.SlotsSound) : (s.heardMeter p w).SlotsSound := by
  by_cases hstays : (s.slot p).state = .suspended ∧ ((s.heardAndJudged p).slot p).state = .running ∧
      (((s.heardAndJudged p).takeMeter p w).slot p).state = .suspended
  · obtain ⟨hsuspended, hrun, htaken⟩ := hstays
    rw [heardMeter_of_stays ⟨hsuspended, hrun, htaken⟩]
    exact slotsSound_heardMeter_of_stays hsuspended hrun htaken h
  · rw [heardMeter_of_not hstays]
    exact slotsSound_takeMeter p w (slotsSound_heardAndJudged p h)

end

end Sys2Proof.Machine
end

section
/-! # Every slot stays as its state says: power, protection and the field (chapters 6 to 9) -/

namespace Sys2Proof.Machine

section
variable {s t : State} {p : Pedestal} {m : ModuleNo}

/-! ### The passes of the Apportioner (R91, R98) -/

/-- A regular pass grants a pedestal that is not RUNNING nothing (R92, R93, R96). -/
theorem slotsSound_regularPass (h : s.SlotsSound) : s.regularPass.SlotsSound := by
  intro q
  obtain ⟨hfits, -⟩ := slotSound_iff.1 (h q)
  rw [slotSound_iff]
  simp only [regularPass_frame]
  refine ⟨hfits, fun hstate => ?_⟩
  have hdemand : s.passStaging.demandOf q = 0 := demandOf_of_not_running _ q (by simpa using hstate)
  have hgrant : s.passGrant q = 0 := Nat.le_zero.1 (hdemand ▸ passGrant_le s q)
  have hsetpoint : s.assigned.setpointValue q = 0 := by rw [setpointValue_assigned, if_neg hstate]
  have hgranted : (s.regularPass.allot q).grant = s.passGrant q := by rw [allot_regularPass]; rfl
  have hset : (s.regularPass.allot q).setpoint = s.assigned.setpointValue q := by rw [allot_regularPass]
  rw [State.Unpowered, hgranted, hset, hgrant, hsetpoint]
  exact ⟨rfl, rfl⟩

/-- A reduction pass raises no grant (R99). -/
theorem slotsSound_considerReduction (h : s.SlotsSound) : s.considerReduction.SlotsSound := by
  by_cases hlt : s.computedPower < s.alloc.pAv
  · rw [considerReduction_of_lt hlt]
    have hset : (s.setPower s.computedPower).SlotsSound := slotsSound_of_apart rfl rfl h
    exact slotsSound_of_steady (by simp) (powerSteady_reductionPass _) hset
  · rwa [considerReduction_of_le (Nat.not_lt.1 hlt)]

/-! ### Cutoff and the safety lines (R30, R31, R134, R136) -/

theorem slotsSound_raisePark (add : ParkDetail → ParkDetail) : s.SlotsSound → (s.raisePark add).SlotsSound :=
  slotsSound_of_apart (by simp) (by simp)

theorem slotsSound_raiseField (add : FieldDetail → FieldDetail) : s.SlotsSound → (s.raiseField add).SlotsSound :=
  slotsSound_of_apart (by simp) (by simp)

theorem slotsSound_setFilter (line : SafetyLine) (f : LineFilter) : s.SlotsSound → (s.setFilter line f).SlotsSound :=
  slotsSound_of_apart (by simp) (by simp)

/-- The protection unit's own fields are read by no slot. -/
theorem slotsSound_prot (x : Protection) : s.SlotsSound → State.SlotsSound { s with prot := x } := slotsSound_of_apart rfl rfl

theorem slotsSound_lineAsserted (line : SafetyLine) (h : s.SlotsSound) : (s.lineAsserted line).SlotsSound := by
  have hsourced : (s.sourced line).SlotsSound := slotsSound_prot _ h
  by_cases hlatch : s.prot.latch = true
  · rw [lineAsserted_of_latched hlatch]
    exact slotsSound_raisePark _ hsourced
  · rw [lineAsserted_of_clear (by simpa using hlatch)]
    have hforced : (s.sourced line).considerReduction.forceAll.SlotsSound :=
      slotsSound_of_steady (by simp) (powerSteady_forceAll _) (slotsSound_considerReduction hsourced)
    exact slotsSound_raisePark _ (slotsSound_foldl (fun _ p => slotsSound_addReason p .cutoff) allPedestals _ hforced)

theorem slotsSound_removeCutoff (h : s.SlotsSound) : s.removeCutoff.SlotsSound :=
  slotsSound_foldl (fun _ p => slotsSound_removeCutoffAt p) allPedestals s h

theorem slotsSound_clearCutoff (h : s.SlotsSound) : s.clearCutoff.SlotsSound :=
  slotsSound_removeCutoff (slotsSound_prot _ h)

theorem slotsSound_sampleLow (line : SafetyLine) (count : Nat) (h : s.SlotsSound) : (s.sampleLow line count).SlotsSound := by
  unfold State.sampleLow
  simp only []
  split
  · exact slotsSound_lineAsserted line (slotsSound_setFilter line _ h)
  · exact slotsSound_setFilter line _ h

theorem slotsSound_sampleHigh (line : SafetyLine) (count : Nat) (h : s.SlotsSound) : (s.sampleHigh line count).SlotsSound := by
  unfold State.sampleHigh
  simp only []
  split
  · exact slotsSound_setFilter line _ h
  · exact slotsSound_setFilter line _ h

/-! ### The sag monitor (R141 to R144) -/

theorem slotsSound_lowReading (h : s.SlotsSound) : s.lowReading.SlotsSound := by
  have hlow := slotsSound_prot { s.prot with live := .sag, recoveryHold := none, derate := true } h
  unfold State.lowReading
  simp only []
  split
  · exact hlow
  · exact slotsSound_raisePark _ (slotsSound_considerReduction hlow)

theorem slotsSound_takeVolts (reading : Nat) (h : s.SlotsSound) : (s.takeVolts reading).SlotsSound := by
  unfold State.takeVolts
  simp only []
  split
  · exact h
  · split
    · exact slotsSound_prot _ h
    · split
      · exact slotsSound_lowReading (slotsSound_prot _ h)
      · exact slotsSound_prot _ (slotsSound_prot _ h)

theorem slotsSound_meterSilent (h : s.SlotsSound) : s.meterSilent.SlotsSound :=
  slotsSound_lowReading (slotsSound_prot _ (slotsSound_raiseField _ h))

theorem slotsSound_sagConfigured (before : Bool) (h : s.SlotsSound) : (s.sagConfigured before).SlotsSound := by
  rw [sagConfigured_eq]
  exact slotsSound_prot _ h

/-! ### The field link (R147, R154 to R159) -/

theorem slotsSound_goSilent (p : Pedestal) (h : s.SlotsSound) : (s.goSilent p).SlotsSound :=
  slotsSound_linkSilent p (slotsSound_raiseCondition p _ (slotsSound_setLink p _ h))

theorem slotsSound_dropOrders (p : Pedestal) : s.SlotsSound → (s.dropOrders p).SlotsSound := slotsSound_of_apart rfl rfl

theorem slotsSound_takeRestarted (p : Pedestal) (plugged : Bool) (h : s.SlotsSound) : (s.takeRestarted p plugged).SlotsSound :=
  slotsSound_restartReported p plugged
    (slotsSound_raiseCondition p _ (slotsSound_endQuery p _ _ (slotsSound_dropOrders p (slotsSound_setLink p _ h))))

theorem slotsSound_takeAnswer (p : Pedestal) (epoch : Nat) (code : Byte) (data : List Byte) (h : s.SlotsSound) :
    (s.takeAnswer p epoch code data).SlotsSound := by
  unfold State.takeAnswer
  split
  · exact h
  · split
    · exact slotsSound_endQuery p _ _ h
    · exact h

theorem slotsSound_takeToken (p : Pedestal) (token : Token) (h : s.SlotsSound) : (s.takeToken p token).SlotsSound := by
  by_cases hplugged : (s.slot p).state = .plugged
  · rw [takeToken_of_plugged token hplugged]
    exact slotsSound_of_writes (writes_of_slots rfl rfl)
      (fun hfits => ⟨hfits.session, hfits.waiting, hfits.fields, hfits.closing, hfits.out⟩) id h
  · rwa [State.takeToken, if_neg hplugged]

/-! ### Modules (R115 to R125) -/

theorem slotsSound_takeContact (m : ModuleNo) (value : Contact) (h : s.SlotsSound) : (s.takeContact m value).SlotsSound := by
  have hfault (hpresent : (s.module m).state ≠ .absent) (origin : FaultOrigin) (horigin : origin ≠ .reported) :
      (s.faultModule m origin 0).SlotsSound :=
    slotsSound_of_steady (by simp) (powerSteady_faultModule hpresent fun _ => rfl) h
  unfold State.takeContact
  split
  next hm => exact hfault (by simp [hm]) _ (by decide)
  next hm => exact hfault (by simp [hm]) _ (by decide)
  next hm => exact slotsSound_of_steady (by simp) (powerSteady_moduleClosed hm) h
  next hm => exact hfault (by simp [hm]) _ (by decide)
  next hm => exact hfault (by simp [hm]) _ (by decide)
  next => exact slotsSound_of_apart (by simp) (by simp) h
  next => exact slotsSound_of_apart rfl rfl h
  all_goals exact h

theorem slotsSound_takeFault (m : ModuleNo) (code : Byte) (h : s.SlotsSound) : (s.takeFault m code).SlotsSound := by
  have hfault (hpresent : (s.module m).state ≠ .absent) : (s.faultModule m .reported code).SlotsSound :=
    slotsSound_of_steady (by simp) (powerSteady_faultModule hpresent (by simp)) h
  unfold State.takeFault
  split
  next => exact h
  next => exact h
  all_goals exact hfault (by simp [*])

theorem slotsSound_orderReported (o : Order) (h : s.SlotsSound) : (s.orderReported o).SlotsSound := by
  unfold State.orderReported
  split
  next =>
    split
    · exact slotsSound_of_apart rfl rfl h
    · exact h
  next p _ _ =>
    unfold State.markSent
    split
    · exact h
    · exact slotsSound_setLink p _ h
  all_goals exact h

/-- An accepted report (R147, R148). -/
theorem slotsSound_takeReport (r : Report) (h : s.SlotsSound) : (s.takeReport r).SlotsSound := by
  cases r with
  | plug p plugged =>
    simp only [State.takeReport]
    split
    · exact slotsSound_plugIn p (slotsSound_heardAndJudged p h)
    · exact slotsSound_unplug p (slotsSound_heardAndJudged p h)
  | token p token => exact slotsSound_takeToken p token (slotsSound_heardAndJudged p h)
  | vehicle p ready request =>
    simp only [State.takeReport]
    split
    · exact slotsSound_vehicleReady p request (slotsSound_heardAndJudged p h)
    · exact slotsSound_vehicleDone p (slotsSound_heardAndJudged p h)
  | meter p register => exact slotsSound_heardMeter p register h
  | restarted p plugged => exact slotsSound_takeRestarted p plugged (slotsSound_heardAndJudged p h)
  | answer p epoch code data => exact slotsSound_takeAnswer p epoch code data (slotsSound_heardAndJudged p h)
  | moduleState m value => exact slotsSound_takeContact m value h
  | moduleFault m code => exact slotsSound_takeFault m code h
  | volts reading => exact slotsSound_takeVolts reading h

end

end Sys2Proof.Machine
end

section
/-! # Every slot stays as its state says: requests and restarts (chapters 2, 3, 11 and 12) -/

namespace Sys2Proof.Machine

section
variable {s t : State} {p : Pedestal}

/-! ### Control, notices and power -/

theorem slotsSound_commission (body : List Byte) (h : s.SlotsSound) : (s.commission body).1.SlotsSound := by
  unfold State.commission
  simp only []
  split
  · exact h
  · split
    · exact h
    · exact slotsSound_of_apart rfl rfl h

theorem slotsSound_configure (body : List Byte) (h : s.SlotsSound) : (s.configure body).1.SlotsSound := by
  unfold State.configure
  simp only []
  split
  · exact slotsSound_sagConfigured _ (slotsSound_of_apart (s := s) rfl rfl h)
  · exact h

theorem slotsSound_timeSet (body : List Byte) (h : s.SlotsSound) : (s.timeSet body).1.SlotsSound := by
  unfold State.timeSet
  simp only []
  split
  · exact slotsSound_of_apart rfl rfl h
  · exact h

theorem slotsSound_maskClass (s : State) (c : NoticeClass) (masked : Bool) (h : s.SlotsSound) : (s.maskClass c masked).SlotsSound := by
  unfold State.maskClass
  simp only []
  split
  · exact slotsSound_of_apart (s := s) rfl rfl h
  · exact slotsSound_of_apart (s := s) rfl rfl h

theorem slotsSound_maskClasses (map : Nat) (h : s.SlotsSound) : (s.maskClasses map).SlotsSound :=
  slotsSound_foldl (fun s c => slotsSound_maskClass s c (maskBit map c)) allClasses s h

/-- The changed flags are nothing that R2 speaks of. -/
theorem slotsSound_clearDetail (c : NoticeClass) (h : s.SlotsSound) : (s.clearDetail c).SlotsSound := by
  cases c with
  | session =>
    intro q
    have hslot : (s.clearDetail .session).slot q = { s.slot q with changed := false } := by
      simp only [State.clearDetail, State.slot, Vector.getElem_ofFn]
    obtain ⟨hfits, hpower⟩ := slotSound_iff.1 (h q)
    rw [slotSound_iff, hslot]
    exact ⟨⟨hfits.session, hfits.waiting, hfits.fields, hfits.closing, hfits.out⟩, hpower⟩
  | settle => exact h
  | hold => exact slotsSound_of_apart (s := s) rfl rfl h
  | park => exact slotsSound_of_apart (s := s) rfl rfl h
  | field => exact slotsSound_of_apart (s := s) rfl rfl h

theorem slotsSound_statusClear (body : List Byte) (h : s.SlotsSound) : (s.statusClear body).1.SlotsSound := by
  unfold State.statusClear
  split
  · exact h
  next c _ =>
    have hcleared := slotsSound_clearDetail c h
    show ((s.clearDetail c).setFlags c _).SlotsSound
    generalize s.clearDetail c = t at hcleared
    exact slotsSound_of_apart (s := t) rfl rfl hcleared

/-- A cap staged for a pedestal is neither grant nor setpoint. -/
theorem slotsSound_setAllot {x : Allotment} (hx : x.grant = (s.allot p).grant ∧ x.setpoint = (s.allot p).setpoint) (h : s.SlotsSound) :
    (s.setAllot p x).SlotsSound := by
  refine slotsSound_of_slots (s := s) rfl (fun q hq => ?_) h
  by_cases hqp : q = p
  · subst hqp
    rw [State.Unpowered, allot_setAllot, hx.1, hx.2]
    exact hq
  · rw [State.Unpowered, allot_setAllot_ne _ _ hqp]
    exact hq

theorem slotsSound_sessionCap (body : List Byte) (h : s.SlotsSound) : (s.sessionCap body).1.SlotsSound := by
  unfold State.sessionCap
  split
  · exact h
  · split
    · exact h
    · exact slotsSound_setAllot ⟨rfl, rfl⟩ h

theorem slotsSound_curtail (body : List Byte) (h : s.SlotsSound) : (s.curtail body).1.SlotsSound := by
  have htaken (cap : Nat) : (s.curtailTo cap).SlotsSound := by
    unfold State.curtailTo
    split
    · exact slotsSound_considerReduction (slotsSound_of_apart (s := s) rfl rfl h)
    · exact slotsSound_of_apart (s := s) rfl rfl h
  unfold State.curtail
  simp only []
  split
  · exact h
  · split
    · exact h
    · exact slotsSound_startTransmit (htaken _)

theorem slotsSound_cutoffClear (h : s.SlotsSound) : s.cutoffClear.1.SlotsSound := by
  have hcleared := slotsSound_clearCutoff h
  unfold State.cutoffClear
  generalize s.clearCutoff = t at hcleared
  split
  · exact h
  · split
    · exact hcleared
    · exact h

theorem slotsSound_moduleReturn (body : List Byte) (h : s.SlotsSound) : (s.moduleReturn body).1.SlotsSound := by
  unfold State.moduleReturn
  split
  · exact h
  · split
    · exact slotsSound_startTransmit (slotsSound_of_apart (by simp) (by simp) h)
    · exact h

/-! ### The field link and the tariffs -/

theorem slotsSound_pedestalRestart (body : List Byte) (h : s.SlotsSound) : (s.pedestalRestart body).1.SlotsSound := by
  unfold State.pedestalRestart
  split
  · exact h
  next p _ =>
    split
    · exact h
    · split
      · exact h
      · exact slotsSound_startTransmit (slotsSound_restartOrdered p
          (slotsSound_endQuery p _ _ (slotsSound_placeOrder _ (slotsSound_setLink p _ h))))

theorem slotsSound_pedestalQuery (tag : Byte) (body : List Byte) (h : s.SlotsSound) : (s.pedestalQuery tag body).1.SlotsSound := by
  unfold State.pedestalQuery
  split
  · exact h
  next p _ =>
    split
    · exact h
    · split
      · exact h
      · split
        · exact h
        · exact slotsSound_startTransmit (slotsSound_setLink p _ (slotsSound_placeOrder _ h))

theorem slotsSound_setTariff (n : TariffNo) (x : TariffSlot) : s.SlotsSound → (s.setTariff n x).SlotsSound := slotsSound_of_apart rfl rfl

theorem slotsSound_tariffLoad (body : List Byte) (h : s.SlotsSound) : (s.tariffLoad body).1.SlotsSound := by
  unfold State.tariffLoad
  split
  · exact h
  · simp only []
    split
    · exact h
    · split
      · exact h
      · exact slotsSound_setTariff _ _ h

theorem slotsSound_tariffRetire (body : List Byte) (h : s.SlotsSound) : (s.tariffRetire body).1.SlotsSound := by
  unfold State.tariffRetire
  split
  · exact h
  · split
    · exact slotsSound_setTariff _ _ h
    all_goals exact h

theorem slotsSound_settleFree (body : List Byte) (h : s.SlotsSound) : (s.settleFree body).1.SlotsSound := by
  unfold State.settleFree
  split
  · exact h
  · split
    · exact slotsSound_of_apart rfl rfl h
    · exact h

/-! ### Sessions (R7 to R10, R14, R19, R34) -/

/-- A session is opened on a PLUGGED slot, in STARTING (R8). -/
theorem slotsSound_openSession {n : TariffNo} {hold : Nat} {cap : Cap} (hplugged : (s.slot p).state = .plugged)
    (hopen : s.exhausted = false) (h : s.SlotsSound) : (s.openSession p n hold cap).startTransmit.SlotsSound := by
  have hopened : State.Writes p { s.slot p with session := some (s.openedSession p n hold), authWait := none }
      (s.setAllot p { s.allot p with stagedCap := some cap }) (s.opening p n hold cap) := by
    rw [opening_eq hopen]
    exact writes_of_slots rfl rfl
  have hcapped : (s.setAllot p { s.allot p with stagedCap := some cap }).SlotsSound := slotsSound_setAllot ⟨rfl, rfl⟩ h
  have hnot : (s.slot p).state ≠ .running := by rw [hplugged]; decide
  rw [openSession_startTransmit]
  refine slotsSound_of_writes (hopened.trans (writes_of_slots rfl rfl)) (fun hfits => ?_) (fun hrun => absurd hrun hnot) hcapped
  have hslot : (s.setAllot p { s.allot p with stagedCap := some cap }).slot p = s.slot p := rfl
  rw [hslot] at hfits
  rw [hopened.here]
  refine ⟨rfl, nofun, fun e he => ?_, fun _ => nofun, fun hout => ?_⟩
  · cases he
    exact fits_starting_iff.2 ⟨rfl, rfl⟩
  · rcases hfits.out hout with hstate | hstate
    · exact absurd (hplugged.symm.trans hstate) (by decide)
    · exact absurd (hplugged.symm.trans hstate) (by decide)

theorem slotsSound_authorise (body : List Byte) (h : s.SlotsSound) : (s.authorise body).1.SlotsSound := by
  unfold State.authorise
  split
  · exact h
  next p _ =>
    simp only []
    split
    · exact h
    next n cap hchecks =>
      obtain ⟨hplugged, -, -, hopen⟩ := of_authoriseChecks hchecks
      exact slotsSound_openSession hplugged hopen h

theorem slotsSound_deny (body : List Byte) (h : s.SlotsSound) : (s.deny body).1.SlotsSound := by
  unfold State.deny
  split
  · exact h
  · split
    next hplugged => exact slotsSound_startTransmit (slotsSound_refuseSlot (by rw [hplugged]; rfl) h)
    · exact h

theorem slotsSound_stop (body : List Byte) (h : s.SlotsSound) : (s.stop body).1.SlotsSound := by
  unfold State.stop
  split
  · exact h
  · split
    · exact h
    · exact slotsSound_startTransmit (slotsSound_finish _ _ h)

theorem slotsSound_extendHold (body : List Byte) (h : s.SlotsSound) : (s.extendHold body).1.SlotsSound := by
  unfold State.extendHold
  simp only []
  split
  · exact h
  · split
    · exact h
    · split
      · exact h
      · split
        · exact h
        · exact slotsSound_startTransmit (slotsSound_extendSession _ _ h)

/-- The mode taken is one that the slot's state allows (R19). -/
theorem modeTaken_allowed {requested mode : PedestalMode} {st : SlotState} (h : modeTaken requested st = some mode) :
    (mode = .closingDown → st ≠ .vacant) ∧ (mode = .outOfService → st = .vacant ∨ st = .waitUnplug) := by
  unfold modeTaken at h
  split at h
  next => cases h; exact ⟨nofun, nofun⟩
  next => cases h; exact ⟨nofun, fun _ => Or.inl rfl⟩
  next hvacant => cases h; exact ⟨fun _ => hvacant, nofun⟩
  next => cases h; exact ⟨nofun, fun _ => Or.inl rfl⟩
  next => cases h; exact ⟨nofun, fun _ => Or.inr rfl⟩
  next => cases h

theorem slotsSound_pedestalMode (body : List Byte) (h : s.SlotsSound) : (s.pedestalMode body).1.SlotsSound := by
  unfold State.pedestalMode
  split
  next p requested _ _ =>
    split
    next mode hmode =>
      obtain ⟨hclosing, hout⟩ := modeTaken_allowed hmode
      exact slotsSound_of_writes (writes_setSlot s p _) (fun hfits => ⟨hfits.session, hfits.waiting, hfits.fields, hclosing, hout⟩) id h
    · exact h
  · exact h

/-! ### Restarts and supplies (R182 to R185) -/

theorem slotsSound_restart (kind : RestartKind) (straps : BitVec 2) (cut : Option Nat) (h : s.SlotsSound) :
    (s.restart kind straps cut).SlotsSound := by
  cases cut with
  | none => exact (restarts_restart_none s kind straps).1.slots h
  | some k => exact (restarts_restart_some s kind straps k).slots h

/-- Every step of a cold start leaves the slots and their power. -/
theorem slotsSound_of_mem_coldSteps {step : State → State} (hstep : step ∈ coldSteps) (h : s.SlotsSound) : (step s).SlotsSound := by
  simp only [coldSteps, List.mem_cons, List.not_mem_nil, or_false] at hstep
  rcases hstep with rfl | rfl | rfl | rfl | rfl <;> exact slotsSound_of_apart (s := s) rfl rfl h

/-- A cold start, abandoned at any point or not, leaves the slots cold. -/
theorem slotsSound_coldStart (s : State) (straps : BitVec 2) (cut : Option Nat) : (s.coldStart straps cut).SlotsSound := by
  have hrun (steps : List (State → State)) (hsteps : ∀ step ∈ steps, step ∈ coldSteps) (u : State) (hu : u.SlotsSound) :
      (steps.foldl (fun s step => step s) u).SlotsSound := by
    induction steps generalizing u with
    | nil => exact hu
    | cons step steps ih => exact ih (fun x hx => hsteps x (by simp [hx])) _ (slotsSound_of_mem_coldSteps (hsteps step (by simp)) hu)
  have hstore : (s.beginRestart straps).coldStore.SlotsSound := fun q =>
    slotSound_of_cold (mode := .inService) (slot_reset q) (by decide) (congrArg Allotment.grant (allot_reset q))
      (congrArg Allotment.setpoint (allot_reset q))
  cases cut with
  | none => exact hrun coldSteps (fun _ => id) _ hstore
  | some k => exact hrun (coldSteps.take k) (fun _ hx => List.mem_of_mem_take hx) _ hstore

theorem slotsSound_supplyReturn (outage : Nat) (straps : BitVec 2) (backup : Bool) (cut : Option Nat) (h : s.SlotsSound) :
    (s.supplyReturn outage straps backup cut).SlotsSound := by
  have hpowered : (s.powered outage backup).SlotsSound := (settles_powered s outage backup).slots h
  show State.SlotsSound (if (s.powered outage backup).control.marker then (s.powered outage backup).restart .supply straps cut
    else (s.powered outage backup).coldStart straps cut)
  split
  · exact slotsSound_restart .supply straps cut hpowered
  · exact slotsSound_coldStart _ straps cut

end

end Sys2Proof.Machine
end

section
/-! # Every slot stays as its state says: the commands (R2) -/

namespace Sys2Proof.Machine

/-- The state that a command answers has every slot as R2 says. -/
def SlotsKept (r : Result) : Prop := ∀ t, r = .next t → t.SlotsSound

section
variable {s t : State}

theorem slotsKept_next (h : s.SlotsSound) : SlotsKept (.next s) := fun t ht => by
  cases ht
  exact h

/-! ### The three forms of a command -/

theorem slotsSound_dropHead : s.SlotsSound → s.dropHead.SlotsSound := slotsSound_of_apart rfl rfl

theorem slotsSound_reply (r : HostRecord) (a : Option Answer) (h : s.SlotsSound) : (s.reply r a).SlotsSound := by
  unfold State.reply
  split
  · exact h
  · exact slotsSound_of_apart (s := s) rfl rfl h

/-- A request keeps the slots where its owner does (R166). -/
theorem slotsKept_takeRequest (k : RequestKind) {owner : HostRecord → State → Taken}
    (howner : ∀ r, s.dropHead.SlotsSound → (owner r s.dropHead).1.SlotsSound) (h : s.SlotsSound) :
    SlotsKept (takeRequest k s owner) := by
  unfold takeRequest
  split
  · exact slotsKept_next h
  next r _ =>
    split
    · exact slotsKept_next h
    · split
      · exact slotsKept_next (slotsSound_reply r _ (slotsSound_dropHead h))
      · exact slotsKept_next (slotsSound_reply r _ (howner r (slotsSound_dropHead h)))

/-- An event keeps the slots where its effect does. -/
theorem slotsKept_occur {f : State → Option State} (hf : ∀ t, f s = some t → t.SlotsSound) (h : s.SlotsSound) :
    SlotsKept (occur s f) := by
  unfold occur
  split
  · split
    next t ht => exact slotsKept_next (slotsSound_startTransmit (hf t ht))
    · exact slotsKept_next h
  · exact slotsKept_next h

theorem slotsKept_occurAtPedestal (n : Nat) {f : Pedestal → State → Option State} (hf : ∀ p t, f p s = some t → t.SlotsSound)
    (h : s.SlotsSound) : SlotsKept (occurAtPedestal s n f) := by
  refine slotsKept_occur (fun t ht => ?_) h
  obtain ⟨p, -, hp⟩ := Option.bind_eq_some_iff.1 ht
  exact hf p t hp

theorem slotsKept_occurAtModule (n : Nat) {f : ModuleNo → State → Option State} (hf : ∀ m t, f m s = some t → t.SlotsSound)
    (h : s.SlotsSound) : SlotsKept (occurAtModule s n f) := by
  refine slotsKept_occur (fun t ht => ?_) h
  obtain ⟨m, -, hm⟩ := Option.bind_eq_some_iff.1 ht
  exact hf m t hm

/-! ### The request commands -/

theorem slotsSound_owner (k : RequestKind) (r : HostRecord) (h : s.SlotsSound) : (k.owner r s).1.SlotsSound := by
  cases k with
  | identify => exact h
  | parkStatus => exact h
  | noticeStatus => exact h
  | noticeMask => exact slotsSound_maskClasses _ h
  | statusClear => exact slotsSound_statusClear _ h
  | commission => exact slotsSound_commission _ h
  | configure => exact slotsSound_configure _ h
  | timeSet => exact slotsSound_timeSet _ h
  | tariffLoad => exact slotsSound_tariffLoad _ h
  | tariffRetire => exact slotsSound_tariffRetire _ h
  | tariffRead =>
    simp only [RequestKind.owner, State.tariffRead]
    split <;> exact h
  | authorise => exact slotsSound_authorise _ h
  | deny => exact slotsSound_deny _ h
  | extendHold => exact slotsSound_extendHold _ h
  | stop => exact slotsSound_stop _ h
  | sessionCap => exact slotsSound_sessionCap _ h
  | sessionRead =>
    simp only [RequestKind.owner, State.sessionRead]
    split <;> exact h
  | settleRead =>
    simp only [RequestKind.owner, State.settleRead]
    split <;> exact h
  | settleFree => exact slotsSound_settleFree _ h
  | curtail => exact slotsSound_curtail _ h
  | cutoffClear => exact slotsSound_cutoffClear h
  | pedestalMode => exact slotsSound_pedestalMode _ h
  | pedestalRestart => exact slotsSound_pedestalRestart _ h
  | pedestalQuery => exact slotsSound_pedestalQuery _ _ h
  | moduleRead =>
    simp only [RequestKind.owner, State.moduleRead]
    split <;> exact h
  | moduleReturn => exact slotsSound_moduleReturn _ h
  | restart => exact slotsSound_of_apart (s := s) rfl rfl h

theorem slotsKept_request (k : RequestKind) (h : s.SlotsSound) : SlotsKept (exec k.command s) := by
  rw [exec_command]
  exact slotsKept_takeRequest k (fun r hs => slotsSound_owner k r hs) h

theorem slotsKept_badKind (h : s.SlotsSound) : SlotsKept (execBadKind s) := by
  unfold execBadKind
  split
  · exact slotsKept_next h
  · split
    · exact slotsKept_next h
    · exact slotsKept_next (slotsSound_reply _ _ (slotsSound_dropHead h))

/-! ### The timers -/

theorem slotsKept_authWaitExpiry (n : Nat) (h : s.SlotsSound) : SlotsKept (execAuthWaitExpiry n s) := by
  unfold execAuthWaitExpiry
  refine slotsKept_occurAtPedestal n (fun p t ht => ?_) h
  split at ht
  next due hplugged _ =>
    cases ht
    have hclosed : ((s.advance due).slot p).state.isOpen = false := by
      rw [show ((s.advance due).slot p).state = .plugged from hplugged]
      rfl
    exact slotsSound_refuseSlot hclosed (slotsSound_advance due h)
  · cases ht

theorem slotsKept_startWaitExpiry (n : Nat) (h : s.SlotsSound) : SlotsKept (execStartWaitExpiry n s) := by
  unfold execStartWaitExpiry
  refine slotsKept_occurAtPedestal n (fun p t ht => ?_) h
  split at ht
  · cases ht
    exact slotsSound_finish p _ (slotsSound_advance _ h)
  · cases ht

theorem slotsKept_resumeWindowExpiry (n : Nat) (h : s.SlotsSound) : SlotsKept (execResumeWindowExpiry n s) := by
  unfold execResumeWindowExpiry
  refine slotsKept_occurAtPedestal n (fun p t ht => ?_) h
  split at ht
  · cases ht
    exact slotsSound_close p _ (slotsSound_advance _ h)
  · cases ht

theorem slotsKept_extensionWindowExpiry (n : Nat) (h : s.SlotsSound) : SlotsKept (execExtensionWindowExpiry n s) := by
  unfold execExtensionWindowExpiry
  refine slotsKept_occurAtPedestal n (fun p t ht => ?_) h
  split at ht
  · cases ht
    exact slotsSound_finish p _ (slotsSound_advance _ h)
  · cases ht

theorem slotsKept_reportTimerExpiry (n : Nat) (h : s.SlotsSound) : SlotsKept (execReportTimerExpiry n s) := by
  unfold execReportTimerExpiry
  refine slotsKept_occurAtPedestal n (fun p t ht => ?_) h
  split at ht
  · cases ht
    exact slotsSound_goSilent p (slotsSound_advance _ h)
  · cases ht

theorem slotsSound_startPeriod : s.SlotsSound → s.startPeriod.SlotsSound := slotsSound_of_apart rfl rfl

theorem slotsKept_apportionmentPeriodExpiry (h : s.SlotsSound) : SlotsKept (execApportionmentPeriodExpiry s) := by
  unfold execApportionmentPeriodExpiry
  refine slotsKept_occur (fun t ht => ?_) h
  split at ht
  · rw [← Option.some.inj ht]
    exact slotsSound_startPeriod (slotsSound_regularPass (slotsSound_advance _ h))
  · cases ht

theorem slotsKept_prechargeTimerExpiry (n : Nat) (h : s.SlotsSound) : SlotsKept (execPrechargeTimerExpiry n s) := by
  unfold execPrechargeTimerExpiry
  refine slotsKept_occurAtModule n (fun m t ht => ?_) h
  split at ht
  next due _ _ =>
    cases ht
    exact slotsSound_of_apart (s := s.advance due) (by simp) (by simp) (slotsSound_advance due h)
  · cases ht

theorem slotsKept_contactTimerExpiry (n : Nat) (h : s.SlotsSound) : SlotsKept (execContactTimerExpiry n s) := by
  unfold execContactTimerExpiry
  refine slotsKept_occurAtModule n (fun m t ht => ?_) h
  have hfault (due : Nat) (origin : FaultOrigin) (hpresent : (s.module m).state ≠ .absent) :
      ((s.advance due).faultModule m origin 0).SlotsSound :=
    slotsSound_of_steady (by simp) (powerSteady_faultModule (s := s.advance due) hpresent fun _ => rfl) (slotsSound_advance due h)
  split at ht
  next due hstate _ =>
    cases ht
    exact hfault due _ (by rw [hstate]; decide)
  next due hstate _ =>
    cases ht
    exact hfault due _ (by rw [hstate]; decide)
  · cases ht

theorem slotsKept_rampTimerExpiry (n : Nat) (h : s.SlotsSound) : SlotsKept (execRampTimerExpiry n s) := by
  unfold execRampTimerExpiry
  refine slotsKept_occurAtModule n (fun m t ht => ?_) h
  split at ht
  next due _ _ =>
    cases ht
    exact slotsSound_of_apart (s := s.advance due) (by simp) (by simp) (slotsSound_advance due h)
  · cases ht

theorem slotsKept_recoveryHoldExpiry (h : s.SlotsSound) : SlotsKept (execRecoveryHoldExpiry s) := by
  unfold execRecoveryHoldExpiry
  refine slotsKept_occur (fun t ht => ?_) h
  split at ht
  · cases ht
    exact slotsSound_prot _ (slotsSound_advance _ h)
  · cases ht

theorem slotsKept_silenceTimerExpiry (h : s.SlotsSound) : SlotsKept (execSilenceTimerExpiry s) := by
  unfold execSilenceTimerExpiry
  refine slotsKept_occur (fun t ht => ?_) h
  split at ht
  · cases ht
    exact slotsSound_meterSilent (slotsSound_advance _ h)
  · cases ht

theorem slotsSound_queryExpired (p : Pedestal) (h : s.SlotsSound) : (s.queryExpired p).SlotsSound :=
  slotsSound_endQuery p _ _ (slotsSound_of_apart (s := s) rfl rfl h)

theorem slotsKept_queryTimerExpiry (n : Nat) (h : s.SlotsSound) : SlotsKept (execQueryTimerExpiry n s) := by
  unfold execQueryTimerExpiry
  refine slotsKept_occurAtPedestal n (fun p t ht => ?_) h
  split at ht
  · cases ht
    exact slotsSound_queryExpired p (slotsSound_advance _ h)
  · cases ht

theorem slotsKept_minuteExpiry (h : s.SlotsSound) : SlotsKept (execMinuteExpiry s) := by
  unfold execMinuteExpiry
  refine slotsKept_occur (fun t ht => ?_) h
  rw [← Option.some.inj ht]
  exact slotsSound_minutePasses h

/-! ### Bytes, reports and orders -/

theorem slotsSound_arrive (s : State) (r : HostRecord) (h : s.SlotsSound) : (s.arrive r).SlotsSound := by
  unfold State.arrive
  split
  · exact h
  · split
    · exact slotsSound_of_apart (s := s) rfl rfl h
    · split
      · exact slotsSound_of_apart (s := s) rfl rfl h
      · exact h

theorem slotsSound_takeBytes (start : Receiver) (bytes : List RxByte) (h : s.SlotsSound) : (s.takeBytes start bytes).SlotsSound :=
  slotsSound_foldl slotsSound_arrive _ _ (slotsSound_of_apart (s := s) rfl rfl h)

theorem slotsKept_hostFrameReceived (bytes : List RxByte) (h : s.SlotsSound) : SlotsKept (execHostFrameReceived bytes s) := by
  unfold execHostFrameReceived
  refine slotsKept_occur (fun t ht => ?_) h
  split at ht
  · cases ht
  · rw [← Option.some.inj ht]
    exact slotsSound_takeBytes _ _ (slotsSound_advance _ h)

theorem slotsKept_frameSyncReceived (time : Nat) (h : s.SlotsSound) : SlotsKept (execFrameSyncReceived time s) := by
  unfold execFrameSyncReceived
  refine slotsKept_occur (fun t ht => ?_) h
  rw [← Option.some.inj ht]
  exact slotsSound_takeBytes _ _ (slotsSound_advance _ h)

theorem slotsKept_frameTimerExpiry (h : s.SlotsSound) : SlotsKept (execFrameTimerExpiry s) := by
  unfold execFrameTimerExpiry
  refine slotsKept_occur (fun t ht => ?_) h
  split at ht
  · cases ht
  · rw [← Option.some.inj ht]
    exact slotsSound_takeBytes _ _ (slotsSound_advance _ h)

theorem slotsKept_outputRecordSent (time : Nat) (h : s.SlotsSound) : SlotsKept (execOutputRecordSent time s) := by
  unfold execOutputRecordSent
  refine slotsKept_occur (fun t ht => ?_) h
  split at ht
  · cases ht
  · split at ht
    · cases ht
    · cases ht
      exact slotsSound_of_apart (s := s) rfl rfl h

theorem slotsSound_receiveReport {time : Nat} {r : Report} (h : s.SlotsSound) (ht : s.receiveReport time r = some t) : t.SlotsSound := by
  unfold State.receiveReport at ht
  split at ht
  · rw [← Option.some.inj ht]
    exact slotsSound_takeReport r (slotsSound_advance time h)
  · cases ht

/-- A report of a pedestal. -/
theorem slotsKept_pedestalReport (n time : Nat) (x : Pedestal → Report) (h : s.SlotsSound) :
    SlotsKept (occurAtPedestal s n fun p s => s.receiveReport time (x p)) :=
  slotsKept_occurAtPedestal n (fun _ _ => slotsSound_receiveReport h) h

/-- A report of a module. -/
theorem slotsKept_moduleReport (n time : Nat) (x : ModuleNo → Report) (h : s.SlotsSound) :
    SlotsKept (occurAtModule s n fun m s => s.receiveReport time (x m)) :=
  slotsKept_occurAtModule n (fun _ _ => slotsSound_receiveReport h) h

theorem slotsKept_pdAnswer (time pedestal : Nat) (epoch code : Byte) (data : List Byte) (h : s.SlotsSound) :
    SlotsKept (execPdAnswer time pedestal epoch code data s) := by
  unfold execPdAnswer
  refine slotsKept_occurAtPedestal _ (fun p t ht => ?_) h
  split at ht
  · exact slotsSound_receiveReport h ht
  · cases ht

theorem slotsKept_gmVolts (time : Nat) (reading : BitVec 16) (h : s.SlotsSound) : SlotsKept (execGmVolts time reading s) := by
  unfold execGmVolts
  exact slotsKept_occur (fun _ => slotsSound_receiveReport h) h

theorem slotsKept_fieldFrameDiscarded (time : Nat) (frame : FieldFrame) (h : s.SlotsSound) :
    SlotsKept (execFieldFrameDiscarded time frame s) := by
  unfold execFieldFrameDiscarded
  refine slotsKept_occur (fun t ht => ?_) h
  obtain ⟨r, -, hr⟩ := Option.bind_eq_some_iff.1 ht
  exact slotsSound_receiveReport h hr

theorem slotsKept_orderSent (time : Nat) (h : s.SlotsSound) : SlotsKept (execOrderSent time s) := by
  unfold execOrderSent
  refine slotsKept_occur (fun t ht => ?_) h
  split at ht
  next o _ _ =>
    cases ht
    exact slotsSound_orderReported o (slotsSound_of_apart (s := s) rfl rfl h)
  · cases ht

theorem slotsKept_busOff (time : Nat) (h : s.SlotsSound) : SlotsKept (execBusOff time s) := by
  unfold execBusOff
  refine slotsKept_occur (fun t ht => ?_) h
  split at ht
  · cases ht
    exact slotsSound_raiseField _ (slotsSound_of_apart (s := s) rfl rfl h)
  · cases ht

theorem slotsKept_busOffRecovery (time : Nat) (h : s.SlotsSound) : SlotsKept (execBusOffRecovery time s) := by
  unfold execBusOffRecovery
  refine slotsKept_occur (fun t ht => ?_) h
  split at ht
  · cases ht
    exact slotsSound_of_apart (s := s) rfl rfl h
  · cases ht

/-! ### The safety lines and the supplies -/

theorem slotsKept_lineAssertionAccepted (time : Nat) (line : SafetyLine) (lows : Nat) (h : s.SlotsSound) :
    SlotsKept (execLineAssertionAccepted time line lows s) := by
  unfold execLineAssertionAccepted
  refine slotsKept_occur (fun t ht => ?_) h
  split at ht
  · cases ht
  · rw [← Option.some.inj ht]
    exact slotsSound_sampleLow line lows (slotsSound_advance time h)

theorem slotsKept_lineReleaseAccepted (time : Nat) (line : SafetyLine) (highs : Nat) (h : s.SlotsSound) :
    SlotsKept (execLineReleaseAccepted time line highs s) := by
  unfold execLineReleaseAccepted
  refine slotsKept_occur (fun t ht => ?_) h
  split at ht
  · cases ht
  · rw [← Option.some.inj ht]
    exact slotsSound_sampleHigh line highs (slotsSound_advance time h)

theorem slotsKept_mainSupplyReturn (outage : Nat) (straps : BitVec 2) (backup : Bool) (cut : Option Nat) (h : s.SlotsSound) :
    SlotsKept (execMainSupplyReturn outage straps backup cut s) := by
  unfold execMainSupplyReturn
  split
  · exact slotsKept_next h
  · exact slotsKept_next (slotsSound_supplyReturn outage straps backup cut h)

theorem slotsKept_mainSupplyLoss (loss : SupplyLoss) (h : s.SlotsSound) : SlotsKept (execMainSupplyLoss loss s) := by
  unfold execMainSupplyLoss
  split
  · exact slotsKept_next ((settles_supplyLost _ _).slots (slotsSound_advance _ h))
  · exact slotsKept_next h

theorem slotsKept_resetLinePulse (time : Nat) (straps : BitVec 2) (cut : Option Nat) (h : s.SlotsSound) :
    SlotsKept (execResetLinePulse time straps cut s) := by
  unfold execResetLinePulse
  split
  · exact slotsKept_next (slotsSound_restart .commanded straps cut (slotsSound_advance time h))
  · exact slotsKept_next h

theorem slotsKept_commandedRestartBegin (straps : BitVec 2) (cut : Option Nat) (h : s.SlotsSound) :
    SlotsKept (execCommandedRestartBegin straps cut s) := by
  unfold execCommandedRestartBegin
  split
  · exact slotsKept_next (slotsSound_restart .commanded straps cut h)
  · exact slotsKept_next h

theorem slotsKept_backupSupplyLoss (h : s.SlotsSound) : SlotsKept (execBackupSupplyLoss s) :=
  slotsKept_next (slotsSound_of_apart (s := s) rfl rfl h)

/-! ### Every command -/

theorem slotsKept_exec (c : Instr) (h : s.SlotsSound) : SlotsKept (exec c s) := by
  cases c with
  | identify => exact slotsKept_request .identify h
  | parkStatus => exact slotsKept_request .parkStatus h
  | noticeStatus => exact slotsKept_request .noticeStatus h
  | noticeMask => exact slotsKept_request .noticeMask h
  | statusClear => exact slotsKept_request .statusClear h
  | commission => exact slotsKept_request .commission h
  | configure => exact slotsKept_request .configure h
  | timeSet => exact slotsKept_request .timeSet h
  | tariffLoad => exact slotsKept_request .tariffLoad h
  | tariffRetire => exact slotsKept_request .tariffRetire h
  | tariffRead => exact slotsKept_request .tariffRead h
  | authorise => exact slotsKept_request .authorise h
  | deny => exact slotsKept_request .deny h
  | extendHold => exact slotsKept_request .extendHold h
  | stop => exact slotsKept_request .stop h
  | sessionCap => exact slotsKept_request .sessionCap h
  | sessionRead => exact slotsKept_request .sessionRead h
  | settleRead => exact slotsKept_request .settleRead h
  | settleFree => exact slotsKept_request .settleFree h
  | curtail => exact slotsKept_request .curtail h
  | cutoffClear => exact slotsKept_request .cutoffClear h
  | pedestalMode => exact slotsKept_request .pedestalMode h
  | pedestalRestart => exact slotsKept_request .pedestalRestart h
  | pedestalQuery => exact slotsKept_request .pedestalQuery h
  | moduleRead => exact slotsKept_request .moduleRead h
  | moduleReturn => exact slotsKept_request .moduleReturn h
  | restart => exact slotsKept_request .restart h
  | badKind => exact slotsKept_badKind h
  | hostFrameReceived bytes => exact slotsKept_hostFrameReceived bytes h
  | frameTimerExpiry => exact slotsKept_frameTimerExpiry h
  | outputRecordSent time => exact slotsKept_outputRecordSent time h
  | pdPlug time pedestal plugged => exact slotsKept_pedestalReport pedestal time (fun p => .plug p plugged) h
  | pdToken time pedestal token => exact slotsKept_pedestalReport pedestal time (fun p => .token p token) h
  | pdVehicle time pedestal ready request => exact slotsKept_pedestalReport pedestal time (fun p => .vehicle p ready request.toNat) h
  | pdMeter time pedestal register => exact slotsKept_pedestalReport pedestal time (fun p => .meter p register.toNat) h
  | pdRestarted time pedestal plugged => exact slotsKept_pedestalReport pedestal time (fun p => .restarted p plugged) h
  | pdAnswer time pedestal epoch code data => exact slotsKept_pdAnswer time pedestal epoch code data h
  | mdState time moduleNo value => exact slotsKept_moduleReport moduleNo time (fun m => .moduleState m value) h
  | mdFault time moduleNo code => exact slotsKept_moduleReport moduleNo time (fun m => .moduleFault m code) h
  | gmVolts time reading => exact slotsKept_gmVolts time reading h
  | fieldFrameDiscarded time frame => exact slotsKept_fieldFrameDiscarded time frame h
  | orderSent time => exact slotsKept_orderSent time h
  | busOff time => exact slotsKept_busOff time h
  | busOffRecovery time => exact slotsKept_busOffRecovery time h
  | lineAssertionAccepted time line lows => exact slotsKept_lineAssertionAccepted time line lows h
  | lineReleaseAccepted time line highs => exact slotsKept_lineReleaseAccepted time line highs h
  | mainSupplyReturn outage straps backup cut => exact slotsKept_mainSupplyReturn outage straps backup cut h
  | mainSupplyLoss loss => exact slotsKept_mainSupplyLoss loss h
  | resetLinePulse time straps cut => exact slotsKept_resetLinePulse time straps cut h
  | commandedRestartBegin straps cut => exact slotsKept_commandedRestartBegin straps cut h
  | authWaitExpiry pedestal => exact slotsKept_authWaitExpiry pedestal h
  | startWaitExpiry pedestal => exact slotsKept_startWaitExpiry pedestal h
  | resumeWindowExpiry pedestal => exact slotsKept_resumeWindowExpiry pedestal h
  | extensionWindowExpiry pedestal => exact slotsKept_extensionWindowExpiry pedestal h
  | reportTimerExpiry pedestal => exact slotsKept_reportTimerExpiry pedestal h
  | apportionmentPeriodExpiry => exact slotsKept_apportionmentPeriodExpiry h
  | prechargeTimerExpiry moduleNo => exact slotsKept_prechargeTimerExpiry moduleNo h
  | contactTimerExpiry moduleNo => exact slotsKept_contactTimerExpiry moduleNo h
  | rampTimerExpiry moduleNo => exact slotsKept_rampTimerExpiry moduleNo h
  | recoveryHoldExpiry => exact slotsKept_recoveryHoldExpiry h
  | silenceTimerExpiry => exact slotsKept_silenceTimerExpiry h
  | queryTimerExpiry pedestal => exact slotsKept_queryTimerExpiry pedestal h
  | minuteExpiry => exact slotsKept_minuteExpiry h
  | frameSyncReceived time => exact slotsKept_frameSyncReceived time h
  | backupSupplyLoss => exact slotsKept_backupSupplyLoss h

end

/-- Settles O8: every command keeps the slots as R2 says, and the commands that wait are read by no slot. -/
theorem slotsStayAsTheirStateSays : Obligations.SlotsStayAsTheirStateSays := by
  intro s t h hstep
  obtain ⟨hfront, hidle⟩ := stepRunsFrontCommand
  cases hpending : s.pending with
  | nil =>
    rw [hidle s hpending] at hstep
    cases hstep
    exact h
  | cons c rest =>
    rw [hfront c rest s hpending] at hstep
    exact slotsKept_exec c (s := { s with pending := rest }) h t hstep

end Sys2Proof.Machine
end
